-- ==== Sys2Proof/Word.lean ====
section
/-! DEFINITION. The word types of the Farudel 4820 model. Bit vectors stand only for what the manual treats as bits
(a 10-bit symbol, an octet of a command frame, a counter modulo 2^32, an event mask); a sample is an integer, because
rules R36 and R77 to R95 form every product, sum and quotient exactly; an absolute frame address (AFA) is a number. -/

namespace Sys2Proof

/-- One octet of a command or response frame (R179). -/
abbrev Byte := BitVec 8

/-- A symbol: a value of 10 bits, 0..1023 (R4). -/
abbrev Symbol := BitVec 10

/-- A 20-bit audio sample value, -524 288..524 287, kept as an integer (R4, R95). -/
abbrev Sample := Int

/-- An absolute frame address, 0..1 048 575 (R14). -/
abbrev Afa := Nat

/-- A statistics counter, counting modulo 2^32 (R173). -/
abbrev Word32 := BitVec 32

/-- A set of the 13 event kinds, held as the low 13 bits of the event mask of R197. -/
abbrev EventSet := BitVec 13

/-- A command or response frame on a control port: 128 bits, the most significant bit of byte 0 first (R179). -/
abbrev Frame := BitVec 128

/-- A frame of the pipeline, named by the number of the frame tick that completed it at the PRE heads (R43 allows this
name). The number is the model's own counter of ticks since reset. -/
abbrev FrameNo := Nat

/-- The highest AFA (R14). -/
def afaMax : Nat := 1048575

end Sys2Proof
end

