-- ==== Sys2Proof/Syntax.lean ====
section
/-! DEFINITION. The commands of the Farudel 4820: one constructor of `Instr` per row of spec/opcode_table.json, with
the operands that arrive with it (R22, R59, R38, R145 for the lines; R194 and R197 for the requests, whose arguments are
the codes as read from the command frame, so that the owner's rule refuses or clamps them). -/

namespace Sys2Proof

/-- The three control ports (R178). -/
inductive Port where
  | p1 | p2 | p3
  deriving DecidableEq, Repr

/-- The direction of tape travel sampled at a tick (R22). -/
inductive Direction where
  | forward | reverse
  deriving DecidableEq, Repr

/-- The two tracks of a frame (R1). -/
inductive Track where
  | a | b
  deriving DecidableEq, Repr

/-- The two audio channels. -/
inductive Channel where
  | left | right
  deriving DecidableEq, Repr

/-- The two playback paths: each has a track decoder and a repair unit (R56, R75). -/
inductive ReadPath where
  | pre | conf
  deriving DecidableEq, Repr

/-- The half of the frame period in which a block arrives (R60). -/
inductive HalfPeriod where
  | first | second
  deriving DecidableEq, Repr

/-- The inner result of a block (R10). -/
inductive InnerResult where
  | lost | clean | fixed | flagged
  deriving DecidableEq, Repr

/-- The sample rates (R1). -/
inductive Rate where
  | r48k | r44k1
  deriving DecidableEq, Repr

/-- The rate field of a status record: one of the two rates, or another rate (R145). -/
inductive LinkRate where
  | known (r : Rate)
  | other
  deriving DecidableEq, Repr

/-- The class field of a status record (R145). -/
inductive LinkClass where
  | pro | consumer
  deriving DecidableEq, Repr

/-- The generation field of a status record (R145). -/
inductive Generation where
  | original | copy
  deriving DecidableEq, Repr

/-- A status record as the digital input receiver delivers it (R145). -/
structure StatusRecord where
  cls : LinkClass
  permit : Bool
  generation : Generation
  rate : LinkRate
  tag : Byte
  deriving DecidableEq, Repr

/-- The three header symbols of a block (R8, R200). -/
structure BlockHeader where
  s0 : Symbol
  s1 : Symbol
  s2 : Symbol
  deriving DecidableEq, Repr

/-- A block arriving on a read stream: the stream (path and track, R56), the half of the frame period, the header
symbols, the finding of the inner code (R10) and the 40 payload symbols as delivered. -/
structure BlockArrival where
  path : ReadPath
  track : Track
  half : HalfPeriod
  header : BlockHeader
  inner : InnerResult
  payload : List Symbol
  deriving DecidableEq, Repr

/-- An edit entry as EDIT WRITE carries it: the codes of R199, present bits included. For a LINK entry the link target
stands in `inAfa`. -/
structure EditEntry where
  action : BitVec 3
  endFlag : Bool
  mode : BitVec 1
  channels : BitVec 2
  source : BitVec 1
  fadeIn : BitVec 3
  fadeOut : BitVec 3
  markerKind : BitVec 2
  markerNumber : BitVec 10
  inPresent : Bool
  inAfa : BitVec 20
  inOffset : BitVec 10
  outPresent : Bool
  outAfa : BitVec 20
  outOffset : BitVec 10
  startPresent : Bool
  startAfa : BitVec 20
  deriving DecidableEq, Repr

/-- The commands: every step of the part that spec/opcode_table.json lists. A request constructor stands for the rise
of select of a good exchange on the port it names (R179), with the arguments of R197. -/
inductive Instr where
  /-- POWER_ON_RESET (R178): supply rise or the RESET pin. -/
  | powerOnReset
  /-- FRAME_TICK (R22): the sampled direction, and the time in whole microseconds since the last history entry. -/
  | frameTick (dir : Direction) (micros : Nat)
  /-- STALL_TIMEOUT (R24). -/
  | stallTimeout
  /-- MODE_REPORT (R19): codes of mode, servo lock and tape protected. -/
  | modeReport (port : Port) (mode lock prot : Byte)
  /-- BLOCK_ARRIVAL (R59). -/
  | blockArrival (blk : BlockArrival)
  /-- JUMP_CANDIDATE_EXPIRY (R98). -/
  | jumpCandidateExpiry
  /-- PAIR_PERIOD (R30). -/
  | pairPeriod
  /-- NEW_PATH_HOLD_EXPIRY (R40), of one concealer. -/
  | newPathHoldExpiry (ch : Channel)
  /-- NEW_PATH_MUTE_END (R40), of one concealer. -/
  | newPathMuteEnd (ch : Channel)
  /-- NEW_PATH_RECOVERY_END (R40), of one concealer. -/
  | newPathRecoveryEnd (ch : Channel)
  /-- HOLD_EXPIRY (R79), of one channel repairer. -/
  | holdExpiry (path : ReadPath) (ch : Channel)
  /-- MUTE_RAMP_END (R80), of one channel repairer. -/
  | muteRampEnd (path : ReadPath) (ch : Channel)
  /-- RECOVERY_END (R82), of one channel repairer. -/
  | recoveryEnd (path : ReadPath) (ch : Channel)
  /-- CONVERTER_PAIR_ARRIVAL (R38): a 24-bit pair in two's complement. -/
  | converterPairArrival (l r : BitVec 24)
  /-- RECEIVER_PAIR_ARRIVAL (R37): a 24-bit pair in two's complement. -/
  | receiverPairArrival (l r : BitVec 24)
  /-- STATUS_RECORD (R145). -/
  | statusRecord (rec : StatusRecord)
  /-- LOSS_OF_LOCK (R146). -/
  | lossOfLock
  /-- LOCK_REGAINED (R146). -/
  | lockRegained
  /-- TX_STATUS_RECORD (R156). -/
  | txStatusRecord
  /-- MARKER_RUN_END (R54). -/
  | markerRunEnd
  /-- FRAME_BUILD_COMPLETE (R43). -/
  | frameBuildComplete
  /-- GATE_OPEN_TEST (R49). -/
  | gateOpenTest
  /-- NORMAL_CLOSE_EFFECT (R50). -/
  | normalCloseEffect
  /-- FORCED_CLOSE_EFFECT (R51). -/
  | forcedCloseEffect
  /-- TRACK_A_SENT (R52). -/
  | trackASent
  /-- FRAME_WRITE_COMPLETE (R52). -/
  | frameWriteComplete
  /-- WRITTEN_LIST_TIMEOUT (R53). -/
  | writtenListTimeout
  /-- CONFIRM_DROP_UNCHECKED (R162). -/
  | confirmDropUnchecked
  /-- PENDING_FADE_START (R87), of one channel. -/
  | pendingFadeStart (ch : Channel)
  /-- FADE_IN_END (R87), of one channel. -/
  | fadeInEnd (ch : Channel)
  /-- FADE_OUT_END (R88). -/
  | fadeOutEnd
  /-- MONITOR_SWITCH_END (R93). -/
  | monitorSwitchEnd
  /-- EXCHANGE_START (R179): the fall of select. -/
  | exchangeStart (port : Port)
  /-- FRAME_ERROR (R181): the rise of select of an exchange of other than 128 clocks. -/
  | frameError (port : Port)
  /-- UNKNOWN_OPCODE (R183): a good exchange whose opcode names no request. -/
  | unknownOpcode (port : Port) (opcode : Byte)
  /-- NOOP (R186). -/
  | noop (port : Port)
  /-- STATUS (R186). -/
  | status (port : Port) (page : Byte)
  /-- CLAIM (R187). -/
  | claim (port : Port) (which : Byte) (take : Bool)
  /-- RELEASE (R189). -/
  | release (port : Port) (which : Byte)
  /-- REPORT SET (R191). -/
  | reportSet (port : Port) (report attn : Option (BitVec 16))
  /-- READ EVENTS (R192). -/
  | readEvents (port : Port)
  /-- ACK EVENTS (R192). -/
  | ackEvents (port : Port) (mask : BitVec 16)
  /-- READ POSITION (R114, R34). -/
  | readPosition (port : Port) (page : Byte)
  /-- READ INDEX (R115). -/
  | readIndex (port : Port) (k : Byte)
  /-- EDIT READ (R120): entry number and part selector. -/
  | editRead (port : Port) (k : BitVec 5) (part : Bool)
  /-- READ RIGHTS (R157). -/
  | readRights (port : Port)
  /-- READ FAULTS (R172). -/
  | readFaults (port : Port) (kind : Byte)
  /-- CLEAR FAULTS (R171). -/
  | clearFaults (port : Port)
  /-- READ COUNTS (R173). -/
  | readCounts (port : Port) (first : Byte) (snapshot : Bool)
  /-- VERIFY START (R174). -/
  | verifyStart (port : Port) (source : Byte) (start : Option (BitVec 20)) (stop : BitVec 20) (threshold : Byte)
      (loop : Bool)
  /-- VERIFY STOP (R174). -/
  | verifyStop (port : Port)
  /-- VERIFY READ (R174). -/
  | verifyRead (port : Port) (page : Byte)
  /-- SET MONITOR (R92). -/
  | setMonitor (port : Port) (mode : Byte)
  /-- EDIT WRITE (R119). -/
  | editWrite (port : Port) (k : BitVec 5) (entry : EditEntry)
  /-- EDIT START (R125). -/
  | editStart (port : Port) (p : Byte)
  /-- HOLD (R134). -/
  | hold (port : Port)
  /-- CONTINUE (R135). -/
  | continueWalk (port : Port)
  /-- ABORT (R136). -/
  | abort (port : Port)
  /-- WRITE ENABLE (R42). -/
  | writeEnable (port : Port)
  /-- WRITE DISABLE (R42). -/
  | writeDisable (port : Port)
  /-- SET RECORD (R41): codes of record rate, default source and analog rights, each optional. -/
  | setRecord (port : Port) (rate source analog : Option Byte)
  /-- SET REPAIR (R85): P, H, M and U, each optional. -/
  | setRepair (port : Port) (p h : Option Byte) (m u : Option (BitVec 16))
  /-- FAULT MODE (R160). -/
  | faultMode (port : Port) (kind mode : Byte)
  /-- SET THRESHOLDS (R168). -/
  | setThresholds (port : Port) (high low : BitVec 16)
  /-- CLEAR INDEX (R116). -/
  | clearIndex (port : Port)
  deriving DecidableEq, Repr

end Sys2Proof
end

