-- ==== Sys2Proof/WellFormed.lean ====
section
/-! DEFINITION. Which command terms stand for something that can reach the part. Ill-formed terms are not given by
`decodeExchange` and do not arise on the lines; the meanings are total on them all the same. -/

namespace Sys2Proof

/-- The opcodes that name a request (R196). -/
def requestOpcodes : List Byte :=
  [0x00#8, 0x01#8, 0x02#8, 0x03#8, 0x04#8, 0x05#8, 0x06#8, 0x10#8, 0x11#8, 0x12#8, 0x13#8, 0x14#8, 0x15#8, 0x16#8,
   0x18#8, 0x19#8, 0x1A#8, 0x1C#8] ++
  [0x40#8, 0x41#8, 0x42#8, 0x43#8, 0x44#8, 0x48#8, 0x49#8, 0x50#8, 0x51#8, 0x52#8, 0x53#8, 0x54#8] ++
  [0x80#8]

/-- A block arrives with the 40 payload symbols of R9; an unknown opcode is none of R196's. Every other operand type
holds only what its line or argument bits can carry. -/
def Instr.wellFormed : Instr → Bool
  | .blockArrival blk => blk.payload.length == 40
  | .unknownOpcode _ op => !requestOpcodes.contains op
  | .powerOnReset | .frameTick .. | .stallTimeout | .modeReport .. | .jumpCandidateExpiry | .pairPeriod => true
  | .newPathHoldExpiry .. | .newPathMuteEnd .. | .newPathRecoveryEnd .. => true
  | .holdExpiry .. | .muteRampEnd .. | .recoveryEnd .. => true
  | .converterPairArrival .. | .receiverPairArrival .. | .statusRecord .. | .lossOfLock | .lockRegained => true
  | .txStatusRecord | .markerRunEnd | .frameBuildComplete | .gateOpenTest | .normalCloseEffect => true
  | .forcedCloseEffect | .trackASent | .frameWriteComplete | .writtenListTimeout | .confirmDropUnchecked => true
  | .pendingFadeStart .. | .fadeInEnd .. | .fadeOutEnd | .monitorSwitchEnd | .exchangeStart .. | .frameError .. => true
  | .noop .. | .status .. | .claim .. | .release .. | .reportSet .. | .readEvents .. | .ackEvents .. => true
  | .readPosition .. | .readIndex .. | .editRead .. | .readRights .. | .readFaults .. | .clearFaults .. => true
  | .readCounts .. | .verifyStart .. | .verifyStop .. | .verifyRead .. | .setMonitor .. | .editWrite .. => true
  | .editStart .. | .hold .. | .continueWalk .. | .abort .. | .writeEnable .. | .writeDisable .. => true
  | .setRecord .. | .setRepair .. | .faultMode .. | .setThresholds .. | .clearIndex .. => true

end Sys2Proof
end

