-- ==== Sys2Proof/Decode.lean ====
section
/-! DEFINITION. The command frame on a control port (R179, R181, R183, R195 to R197, R199): the command that the rise of
select of an exchange stands for, and the frame a controller sends for a request. The opcode table gives its rows no
bits, so `decodeTableWord` answers none for every word. -/

namespace Sys2Proof

/-- Byte `k` of a command frame: byte 0 is the opcode, bytes 1..15 the argument bytes (R179). -/
def frameByte (f : Frame) (k : Nat) : Byte := f.extractLsb' (120 - 8 * k) 8

/-- The two-byte value that begins at byte `k`, most significant byte first (R195). -/
def frameWord (f : Frame) (k : Nat) : BitVec 16 := f.extractLsb' (112 - 8 * k) 16

/-- The AFA that begins at byte `k`: three bytes whose four most significant bits are ignored (R197). -/
def frameAfa (f : Frame) (k : Nat) : BitVec 20 := f.extractLsb' (104 - 8 * k) 20

/-- The flag in byte `k`: its least significant bit (R197). -/
def frameFlag (f : Frame) (k : Nat) : Bool := f.getLsbD (120 - 8 * k)

/-- The present bit in byte `k`: its most significant bit (R197). -/
def framePresent (f : Frame) (k : Nat) : Bool := f.getLsbD (127 - 8 * k)

/-- The optional one-byte argument whose present bit stands in byte `k` (R197). -/
def frameOptByte (f : Frame) (k : Nat) : Option Byte := if framePresent f k then some (frameByte f (k + 1)) else none

/-- The optional two-byte argument whose present bit stands in byte `k` (R197). -/
def frameOptWord (f : Frame) (k : Nat) : Option (BitVec 16) :=
  if framePresent f k then some (frameWord f (k + 1)) else none

/-- The optional AFA whose present bit stands in byte `k` (R197). -/
def frameOptAfa (f : Frame) (k : Nat) : Option (BitVec 20) :=
  if framePresent f k then some (frameAfa f (k + 1)) else none

/-- Argument bits `i..i+w-1`, bit 0 being the most significant bit of argument byte 1 (R199). -/
def argBits (f : Frame) (i w : Nat) : BitVec w := f.extractLsb' (120 - i - w) w

/-- Argument bit `i` (R199). -/
def argBit (f : Frame) (i : Nat) : Bool := f.getLsbD (119 - i)

/-- The entry of an EDIT WRITE command frame (R199). -/
def frameEntry (f : Frame) : EditEntry :=
  { action := argBits f 5 3, endFlag := argBit f 8, mode := argBits f 9 1, channels := argBits f 10 2
    source := argBits f 12 1, fadeIn := argBits f 13 3, fadeOut := argBits f 16 3, markerKind := argBits f 19 2
    markerNumber := argBits f 21 10, inPresent := argBit f 31, inAfa := argBits f 32 20, inOffset := argBits f 52 10
    outPresent := argBit f 62, outAfa := argBits f 63 20, outOffset := argBits f 83 10
    startPresent := argBit f 93, startAfa := argBits f 94 20 }

/-- The command that a good exchange on port `p` with command frame `f` stands for (R183, R196, R197). -/
def decodeCommand (p : Port) (f : Frame) : Instr :=
  match (frameByte f 0).toNat with
  | 0x00 => .noop p
  | 0x01 => .status p (frameByte f 1)
  | 0x02 => .claim p (frameByte f 1) (frameFlag f 2)
  | 0x03 => .release p (frameByte f 1)
  | 0x04 => .reportSet p (frameOptWord f 1) (frameOptWord f 4)
  | 0x05 => .readEvents p
  | 0x06 => .ackEvents p (frameWord f 1)
  | 0x10 => .readPosition p (frameByte f 1)
  | 0x11 => .readIndex p (frameByte f 1)
  | 0x12 => .editRead p (argBits f 0 5) (argBit f 5)
  | 0x13 => .readRights p
  | 0x14 => .readFaults p (frameByte f 1)
  | 0x15 => .clearFaults p
  | 0x16 => .readCounts p (frameByte f 1) (frameFlag f 2)
  | 0x18 => .verifyStart p (frameByte f 1) (frameOptAfa f 2) (frameAfa f 6) (frameByte f 9) (frameFlag f 10)
  | 0x19 => .verifyStop p
  | 0x1A => .verifyRead p (frameByte f 1)
  | 0x1C => .setMonitor p (frameByte f 1)
  | 0x40 => .editWrite p (argBits f 0 5) (frameEntry f)
  | 0x41 => .editStart p (frameByte f 1)
  | 0x42 => .hold p
  | 0x43 => .continueWalk p
  | 0x44 => .abort p
  | 0x48 => .writeEnable p
  | 0x49 => .writeDisable p
  | 0x50 => .setRecord p (frameOptByte f 1) (frameOptByte f 3) (frameOptByte f 5)
  | 0x51 => .setRepair p (frameOptByte f 1) (frameOptByte f 3) (frameOptWord f 5) (frameOptWord f 8)
  | 0x52 => .faultMode p (frameByte f 1) (frameByte f 2)
  | 0x53 => .setThresholds p (frameWord f 1) (frameWord f 3)
  | 0x54 => .clearIndex p
  | 0x80 => .modeReport p (frameByte f 1) (frameByte f 2) (frameByte f 3)
  | _ => .unknownOpcode p (frameByte f 0)

/-- The command that the rise of select of an exchange of `clocks` clocks stands for: a frame error unless the count is
128 (R179, R181). -/
def decodeExchange (p : Port) (clocks : Nat) (f : Frame) : Instr :=
  if clocks = 128 then decodeCommand p f else .frameError p

/-- The command frame that a port has taken in from the bits clocked in, the first the most significant bit of byte 0
(R179). -/
def frameOfBits (bits : List Bool) : Frame := BitVec.ofFnLE fun i => bits.getD (127 - i.val) false

/-- The command that the rise of select of an exchange stands for, from the bits its clocks took in (R179, R181). -/
def decodeBits (p : Port) (bits : List Bool) : Instr := decodeExchange p bits.length (frameOfBits bits)

/-- A flag byte as a controller sends it, its unused bits 0. -/
def flagByte (b : Bool) : BitVec 8 := 0#7 ++ BitVec.ofBool b

/-- A present byte and a one-byte value, zeros when left out. -/
def optByte : Option Byte → BitVec 16
  | some v => 0x80#8 ++ v
  | none => 0#16

/-- A present byte and a two-byte value, zeros when left out. -/
def optWord : Option (BitVec 16) → BitVec 24
  | some v => 0x80#8 ++ v
  | none => 0#24

/-- A present byte and an AFA in three bytes, zeros when left out. -/
def optAfa : Option (BitVec 20) → BitVec 32
  | some v => 0x80#8 ++ (0#4 ++ v)
  | none => 0#32

/-- Bits 5 to 113, the entry of an EDIT WRITE command frame (R199). -/
def entryBits (e : EditEntry) : BitVec 109 :=
  e.action ++ (BitVec.ofBool e.endFlag ++ (e.mode ++ (e.channels ++ (e.source ++ (e.fadeIn ++ (e.fadeOut ++
    (e.markerKind ++ (e.markerNumber ++ (BitVec.ofBool e.inPresent ++ (e.inAfa ++ (e.inOffset ++
      (BitVec.ofBool e.outPresent ++ (e.outAfa ++ (e.outOffset ++ (BitVec.ofBool e.startPresent ++
        e.startAfa)))))))))))))))

/-- The port of a request or of another command of a control port. -/
def Instr.port? : Instr → Option Port
  | .modeReport p .. | .exchangeStart p | .frameError p | .unknownOpcode p .. | .noop p | .status p .. | .claim p ..
  | .release p .. | .reportSet p .. | .readEvents p | .ackEvents p .. | .readPosition p .. | .readIndex p ..
  | .editRead p .. | .readRights p | .readFaults p .. | .clearFaults p | .readCounts p .. | .verifyStart p ..
  | .verifyStop p | .verifyRead p .. | .setMonitor p .. | .editWrite p .. | .editStart p .. | .hold p
  | .continueWalk p | .abort p | .writeEnable p | .writeDisable p | .setRecord p .. | .setRepair p ..
  | .faultMode p .. | .setThresholds p .. | .clearIndex p => some p
  | .powerOnReset | .frameTick .. | .stallTimeout | .blockArrival .. | .jumpCandidateExpiry | .pairPeriod => none
  | .newPathHoldExpiry .. | .newPathMuteEnd .. | .newPathRecoveryEnd .. | .holdExpiry .. | .muteRampEnd .. => none
  | .recoveryEnd .. | .converterPairArrival .. | .receiverPairArrival .. | .statusRecord .. | .lossOfLock => none
  | .lockRegained | .txStatusRecord | .markerRunEnd | .frameBuildComplete | .gateOpenTest => none
  | .normalCloseEffect | .forcedCloseEffect | .trackASent | .frameWriteComplete | .writtenListTimeout => none
  | .confirmDropUnchecked | .pendingFadeStart .. | .fadeInEnd .. | .fadeOutEnd | .monitorSwitchEnd => none

/-- The command frame a controller sends for a request, or for an unknown opcode, unused bits 0 (R195 to R197, R199);
none for a command that is no command frame. -/
def encodeCommand : Instr → Option Frame
  | .noop _ => some (0x00#8 ++ 0#120)
  | .status _ page => some (0x01#8 ++ (page ++ 0#112))
  | .claim _ which take => some (0x02#8 ++ (which ++ (flagByte take ++ 0#104)))
  | .release _ which => some (0x03#8 ++ (which ++ 0#112))
  | .reportSet _ report attn => some (0x04#8 ++ (optWord report ++ (optWord attn ++ 0#72)))
  | .readEvents _ => some (0x05#8 ++ 0#120)
  | .ackEvents _ mask => some (0x06#8 ++ (mask ++ 0#104))
  | .readPosition _ page => some (0x10#8 ++ (page ++ 0#112))
  | .readIndex _ k => some (0x11#8 ++ (k ++ 0#112))
  | .editRead _ k part => some (0x12#8 ++ (k ++ (BitVec.ofBool part ++ 0#114)))
  | .readRights _ => some (0x13#8 ++ 0#120)
  | .readFaults _ kind => some (0x14#8 ++ (kind ++ 0#112))
  | .clearFaults _ => some (0x15#8 ++ 0#120)
  | .readCounts _ first snapshot => some (0x16#8 ++ (first ++ (flagByte snapshot ++ 0#104)))
  | .verifyStart _ source start stop threshold loop =>
    some (0x18#8 ++ (source ++ (optAfa start ++ (0#4 ++ (stop ++ (threshold ++ (flagByte loop ++ 0#40)))))))
  | .verifyStop _ => some (0x19#8 ++ 0#120)
  | .verifyRead _ page => some (0x1A#8 ++ (page ++ 0#112))
  | .setMonitor _ mode => some (0x1C#8 ++ (mode ++ 0#112))
  | .editWrite _ k entry => some (0x40#8 ++ (k ++ (entryBits entry ++ 0#6)))
  | .editStart _ p => some (0x41#8 ++ (p ++ 0#112))
  | .hold _ => some (0x42#8 ++ 0#120)
  | .continueWalk _ => some (0x43#8 ++ 0#120)
  | .abort _ => some (0x44#8 ++ 0#120)
  | .writeEnable _ => some (0x48#8 ++ 0#120)
  | .writeDisable _ => some (0x49#8 ++ 0#120)
  | .setRecord _ rate source analog =>
    some (0x50#8 ++ (optByte rate ++ (optByte source ++ (optByte analog ++ 0#72))))
  | .setRepair _ p h m u => some (0x51#8 ++ (optByte p ++ (optByte h ++ (optWord m ++ (optWord u ++ 0#40)))))
  | .faultMode _ kind mode => some (0x52#8 ++ (kind ++ (mode ++ 0#104)))
  | .setThresholds _ high low => some (0x53#8 ++ (high ++ (low ++ 0#88)))
  | .clearIndex _ => some (0x54#8 ++ 0#120)
  | .modeReport _ mode lock prot => some (0x80#8 ++ (mode ++ (lock ++ (prot ++ 0#96))))
  | .powerOnReset | .frameTick .. | .stallTimeout | .blockArrival .. | .jumpCandidateExpiry | .pairPeriod => none
  | .newPathHoldExpiry .. | .newPathMuteEnd .. | .newPathRecoveryEnd .. | .holdExpiry .. | .muteRampEnd .. => none
  | .recoveryEnd .. | .converterPairArrival .. | .receiverPairArrival .. | .statusRecord .. | .lossOfLock => none
  | .lockRegained | .txStatusRecord | .markerRunEnd | .frameBuildComplete | .gateOpenTest => none
  | .normalCloseEffect | .forcedCloseEffect | .trackASent | .frameWriteComplete | .writtenListTimeout => none
  | .confirmDropUnchecked | .pendingFadeStart .. | .fadeInEnd .. | .fadeOutEnd | .monitorSwitchEnd => none
  | .unknownOpcode _ op => some (op ++ 0#120)
  | .exchangeStart _ | .frameError _ => none

/-- The command a word spells by the opcode table's bits. The table gives no row of this part any bits, so no word
spells one; command frames are decoded by `decodeExchange`. -/
def decodeTableWord (_nbits _w : Nat) : Option Instr := none

end Sys2Proof
end

