-- ==== Sys2Proof/Machine/State.lean ====
section
/-! DEFINITION. The whole state of the Farudel 4820, block by block (00_scope.md "Block Overview"), as plain data, and
the machine right after power-on reset. Each field's docstring names the rule that gives it and its reset value;
fields that are the model's own are marked so. -/

namespace Sys2Proof.Machine

open Sys2Proof

/-! ## Transport interface (chapter 2) -/

/-- The reported modes (R18). -/
inductive Mode where
  | unloaded | stop | play | record | cue | wind
  deriving DecidableEq, Repr

/-- The last four entries of the tick history, oldest first (R23): always exactly four. -/
structure History where
  e1 : Nat
  e2 : Nat
  e3 : Nat
  e4 : Nat
  deriving DecidableEq, Repr

/-- The transport interface: mode record (R18), tick history (R23), STALLED (R24), speed ratio (R25), direction (R22).
`tick` is the model's own count of frame ticks since reset, by which frames and reports are named (R43, R97, R162). -/
structure Transport where
  mode : Mode
  lock : Bool
  prot : Bool
  history : History
  stalled : Bool
  ratio : Nat
  dir : Direction
  tick : FrameNo
  deriving DecidableEq, Repr

/-- The sample clock (R29, R30): its rate, whether it follows the ticks, and the index of the next pair period. -/
structure SampleClock where
  rate : Rate
  following : Bool
  next : Nat
  deriving DecidableEq, Repr

/-! ## Packs (chapter 1) -/

/-- The copy states, least to most restrictive (R15). -/
inductive CopyState where
  | copyOpen | copyOne | copyNone
  deriving DecidableEq, Repr

/-- The source classes of a RIGHTS pack (R15). -/
inductive SourceClass where
  | pro | consumer | analog | unstated
  deriving DecidableEq, Repr

/-- The kinds of marker run (R16). -/
inductive MarkerKind where
  | start | skip
  deriving DecidableEq, Repr

/-- The splice kinds (R17). -/
inductive SpliceKind where
  | spliceIn | spliceOut
  deriving DecidableEq, Repr

/-- POSITION pack (R14). -/
structure PositionPack where
  afa : Afa
  rate : Rate
  deriving DecidableEq, Repr

/-- RIGHTS pack (R15). -/
structure RightsPack where
  copy : CopyState
  cls : SourceClass
  deriving DecidableEq, Repr

/-- PROGRAM pack (R16); marker kind NONE is `none`. -/
structure ProgramPack where
  number : Nat
  marker : Option MarkerKind
  runIndex : Nat
  deriving DecidableEq, Repr

/-- EDIT pack (R17). -/
structure EditPack where
  generation : Nat
  splice : Bool
  kind : SpliceKind
  deriving DecidableEq, Repr

/-- The valid packs of a frame, each or none (R13). -/
structure FramePacks where
  position : Option PositionPack
  rights : Option RightsPack
  program : Option ProgramPack
  edit : Option EditPack
  deriving DecidableEq, Repr

/-- No valid pack of any kind. -/
def FramePacks.empty : FramePacks := ⟨none, none, none, none⟩

/-! ## Track decoders (chapter 4) -/

/-- Decoder states (R56). -/
inductive DecoderState where
  | idle | decoding | subcode
  deriving DecidableEq, Repr

/-- A block in its place: its inner result as received and its payload (R56, R61). -/
structure Place where
  track : Track
  number : Nat
  result : InnerResult
  payload : List Symbol
  deriving DecidableEq, Repr

/-- An OPEN assembly: its tag and its filled places (R56); a place not listed is vacant. -/
structure Assembly where
  tag : Byte
  places : List Place
  deriving DecidableEq, Repr

/-- A track decoder (R56): EMPTY assemblies are `none`. Its two override flags are the head actions of the fault
monitor (R73) and stand there. -/
structure TrackDecoder where
  state : DecoderState
  current : Option Assembly
  next : Option Assembly
  whole : Bool
  deriving DecidableEq, Repr

/-- The identity of a completed frame (R63, R64). -/
inductive FrameIdentity where
  | afa (a : Afa)
  | lowBits (t : Byte)
  | absent
  deriving DecidableEq, Repr

/-- One head's part of a tally (R65). -/
structure HeadTally where
  clean : Nat
  fixed : Nat
  flagged : Nat
  lost : Nat
  overridden : Bool
  deriving DecidableEq, Repr

/-- The tally of a completed frame (R65). -/
structure Tally where
  identity : FrameIdentity
  headA : HeadTally
  headB : HeadTally
  uncorrA : Nat
  uncorrB : Nat
  deriving DecidableEq, Repr

/-! ## Repair units and new-path concealers (chapter 5, R40) -/

/-- A decoded sample with its entry of the reliability map (R12). -/
structure DecodedSample where
  value : Sample
  good : Bool
  deriving DecidableEq, Repr

/-- A frame as a decoder hands it to its repair unit (R67 to R69, R75): the samples below its pairs per frame, its
rate, and whether it came from a completion in DECODING. -/
structure RepairFrame where
  left : List DecodedSample
  right : List DecodedSample
  rate : Rate
  completed : Bool
  deriving DecidableEq, Repr

/-- The repair settings P, H, M and U (R85). -/
structure RepairSettings where
  p : Nat
  h : Nat
  m : Nat
  u : Nat
  deriving DecidableEq, Repr

/-- Repair states (R75). -/
inductive RepairState where
  | clean | holding | muting | muted | recovering
  deriving DecidableEq, Repr

/-- An interpolation plan (R75, R78). -/
structure Plan where
  a : Sample
  b : Sample
  g : Nat
  next : Nat
  deriving DecidableEq, Repr

/-- A channel repairer's record (R75). `holdExpired` is the model's own: the step HOLD_EXPIRY (R79) has been taken for
the present hold, so the next concealed sample is the first mute ramp step. -/
structure Repairer where
  state : RepairState
  last : Sample
  rampBase : Sample
  gain : Nat
  startGain : Nat
  steps : Nat
  plan : Option Plan
  captured : RepairSettings
  holdExpired : Bool
  deriving DecidableEq, Repr

/-- A repair unit (R75). -/
structure RepairUnit where
  output : RepairFrame
  ahead : RepairFrame
  left : Repairer
  right : Repairer
  deriving DecidableEq, Repr

/-- Concealment marks (R84). -/
inductive Mark where
  | unmarked | interpolated | held | muted
  deriving DecidableEq, Repr

/-- States of a new-path concealer (R40). -/
inductive ConcealerState where
  | live | holding | muting | muted | recovering
  deriving DecidableEq, Repr

/-- A new-path concealer (R40): state, last output value, gain and step count; the ramp base, start gain and captured
settings that the formulas of chapter 5 use (R79 to R82, R85); `holdExpired` as in `Repairer`. -/
structure Concealer where
  state : ConcealerState
  last : Sample
  gain : Nat
  steps : Nat
  rampBase : Sample
  startGain : Nat
  captured : RepairSettings
  holdExpired : Bool
  deriving DecidableEq, Repr

/-! ## Blend unit and outputs (chapter 5) -/

/-- Fade directions (R86). -/
inductive FadeDir where
  | fadeIn | fadeOut
  deriving DecidableEq, Repr

/-- A running fade (R86); its step is 4096 ÷ length. -/
structure Fade where
  dir : FadeDir
  length : Nat
  pos : Nat
  deriving DecidableEq, Repr

/-- A pending fade (R86). -/
structure PendingFade where
  dir : FadeDir
  length : Nat
  offset : Nat
  ticks : Nat
  deriving DecidableEq, Repr

/-- One channel of the blend unit (R86). `last` is the weight of the channel's last blended sample, from which a fade-out
begins (R88), and 0 once a fade-out has ended or a cut has set the channel to 0 (R88, R89; log entry 29). -/
structure BlendChannel where
  weight : Nat
  last : Nat
  running : Option Fade
  pending : Option PendingFade
  selected : Bool
  deriving DecidableEq, Repr

/-- The blend unit (R86). `outAsked` (a fade-out has been requested and its end not yet reported) and `lastFade` (the
frame of the last fade-out sample) are the model's own record of what the report of R88 needs. -/
structure Blend where
  left : BlendChannel
  right : BlendChannel
  silence : Bool
  outAsked : Bool
  lastFade : Option FrameNo
  deriving DecidableEq, Repr

/-- Monitor modes (R92). -/
inductive MonitorMode where
  | auto | input | tape
  deriving DecidableEq, Repr

/-- Output sources (R92). -/
inductive OutputSource where
  | pre | conf | blend | newPath
  deriving DecidableEq, Repr

/-- A monitor switch in progress (R93): from source, to source and position. -/
structure MonitorSwitch where
  src : OutputSource
  dst : OutputSource
  pos : Nat
  deriving DecidableEq, Repr

/-- The monitor selection (R92, R93). -/
structure Monitor where
  mode : MonitorMode
  source : OutputSource
  switch : Option MonitorSwitch
  pending : Option OutputSource
  deriving DecidableEq, Repr

/-- The output rights word (R155). -/
structure OutputWord where
  copy : CopyState
  permit : Bool
  generation : Generation
  deriving DecidableEq, Repr

/-- A status record as the digital output transmitter sends it (R156). -/
structure TxRecord where
  cls : LinkClass
  permit : Bool
  generation : Generation
  rate : Rate
  tag : Byte
  deriving DecidableEq, Repr

/-- The outputs: the 24-bit pair last given to the converter port and the digital output link (R94), and the
transmitter's block (R156): pairs sent in it, the most restrictive copy state in force during it, the record last sent. -/
structure Outputs where
  left : Int
  right : Int
  txPairs : Nat
  txWorst : CopyState
  txSent : Option TxRecord
  deriving DecidableEq, Repr

/-! ## Record formatter (chapter 3) -/

/-- The sources of new audio (R35). -/
inductive AudioSource where
  | analog | digital
  deriving DecidableEq, Repr

/-- FIFO states (R38). -/
inductive FifoState where
  | priming | running
  deriving DecidableEq, Repr

/-- A pair of 20-bit samples. -/
structure Pair where
  l : Sample
  r : Sample
  deriving DecidableEq, Repr

/-- The kinds of write (R43). -/
inductive WriteKind where
  | punch | assemble | mark
  deriving DecidableEq, Repr

/-- A marker as an entry asks for it; number 0 is AUTO (R118). -/
structure Marker where
  kind : MarkerKind
  number : Nat
  deriving DecidableEq, Repr

/-- Position states (R96). -/
inductive PosState where
  | unknown | blank | read | reckoned
  deriving DecidableEq, Repr

/-- What the formatter keeps of an old frame until it builds that frame (R67, R103): the frame's number, its frame
position and the position state handed with it, its identity, its rate as decoded and its valid packs; `completed` says
that it came from a completion. -/
structure OldFrame where
  frame : FrameNo
  position : Option Afa
  posState : PosState
  identity : FrameIdentity
  rate : Rate
  rights : Option RightsPack
  program : Option ProgramPack
  edit : Option EditPack
  completed : Bool
  deriving DecidableEq, Repr

/-- A write span: what its open request carried (R43), the position state at the request (R45, R47), and the AFA and
program number of the last frame built in it (R45, R47), none before its first frame. -/
structure Span where
  first : FrameNo
  firstAfa : Option Afa
  kind : WriteKind
  marker : Option Marker
  startAfa : Option Afa
  posState : PosState
  prev : Option (Afa × Nat)
  deriving DecidableEq, Repr

/-- A close point (R49): NORMAL after a named frame, or FORCED at the next track boundary. -/
inductive ClosePoint where
  | normal (g : FrameNo)
  | forced
  deriving DecidableEq, Repr

/-- The write gate (R49). -/
inductive Gate where
  | closed | opened
  deriving DecidableEq, Repr

/-- A blended sample as the blend unit hands it to the formatter (R91), with the old value it was formed from (R90). -/
structure PlacedSample where
  value : Sample
  old : Sample
  weight : Nat
  mark : Mark
  fade : Option FadeDir
  deriving DecidableEq, Repr

/-- A blended pair (R86, R91). -/
structure PlacedPair where
  l : PlacedSample
  r : PlacedSample
  deriving DecidableEq, Repr

/-- A complete frame that waits for its write or is being sent (R43): its AFA, its four pack values (R45 to R48), its
960 sample slots of each channel, from which the matrices and blocks follow (R3 to R9), and the baked samples of each
track (R55). -/
structure BuiltFrame where
  frame : FrameNo
  afa : Afa
  position : PositionPack
  rights : RightsPack
  program : ProgramPack
  edit : EditPack
  left : List Sample
  right : List Sample
  bakedA : Nat
  bakedB : Nat
  deriving DecidableEq, Repr

/-- The frame under construction (R43): its number, AFA, rate, kind, PROGRAM values (R47, with the run index, if any),
the old frame it is built over, the pairs placed so far, and the complete frame once FRAME_BUILD_COMPLETE has formed
it. -/
structure Build where
  frame : FrameNo
  afa : Afa
  rate : Rate
  kind : WriteKind
  program : ProgramPack
  old : OldFrame
  placed : List PlacedPair
  built : Option BuiltFrame
  deriving DecidableEq, Repr

/-- The marker run counter (R54). -/
structure MarkerRun where
  kind : MarkerKind
  number : Nat
  next : Nat
  deriving DecidableEq, Repr

/-- An entry of the written list (R53): the frame's AFA, with its number for the period it is due back in. -/
structure WrittenFrame where
  afa : Afa
  frame : FrameNo
  deriving DecidableEq, Repr

/-- The record formatter. Settings (R41): record rate 48K, default source ANALOG, analog rights OPEN. -/
structure Formatter where
  recordRate : Rate
  defaultSource : AudioSource
  analogRights : CopyState
  /-- Write-enable flag (R42): clear. -/
  writeEnable : Bool
  /-- Input FIFO, oldest first (R38): empty, PRIMING, held pair 0. -/
  fifo : List Pair
  fifoState : FifoState
  heldPair : Pair
  /-- New-path concealers (R40): MUTED with gain 0. -/
  concealL : Concealer
  concealR : Concealer
  /-- The rate field of the link's last status record (R37): none delivered yet. -/
  linkRate : Option LinkRate
  /-- Write gate, pending open and close point (R49): CLOSED, none, none. -/
  gate : Gate
  pendingOpen : Option Span
  closePoint : Option ClosePoint
  /-- The span whose gate is open and whose frames are marked for writing (R43). -/
  openSpan : Option Span
  /-- Frame under construction, complete frame waiting for its write, frame being sent with its track (R43, R52). -/
  build : Option Build
  ready : Option BuiltFrame
  sending : Option (BuiltFrame × Track)
  /-- Written list, oldest first (R53): empty. -/
  written : List WrittenFrame
  /-- Marker run counter (R54): nothing. -/
  run : Option MarkerRun
  /-- Carried number (R47): 0. -/
  carried : Nat
  /-- The old frames completed at the last tick and at the one before it (R67): the second is being blended (R32). -/
  oldNext : Option OldFrame
  oldNow : Option OldFrame
  deriving DecidableEq, Repr

/-! ## Tape map (chapter 6) -/

/-- A jump candidate (R96); its projected AFA is not clamped (R98). -/
structure JumpCandidate where
  projected : Int
  age : Nat
  deriving DecidableEq, Repr

/-- The position record (R96). -/
structure PositionRecord where
  state : PosState
  afa : Afa
  rate : Option Rate
  lastGeneration : Nat
  framesSince : Nat
  candidate : Option JumpCandidate
  blankRun : Nat
  deriving DecidableEq, Repr

/-- Origins of an index entry (R106). -/
inductive Origin where
  | read | written
  deriving DecidableEq, Repr

/-- A program index entry (R106). -/
structure IndexEntry where
  start : Afa
  kind : MarkerKind
  number : Nat
  origin : Origin
  deriving DecidableEq, Repr

/-- The marker debounce record (R107). -/
structure Debounce where
  kind : MarkerKind
  number : Nat
  start : Afa
  lastIndex : Nat
  count : Nat
  applied : Bool
  deriving DecidableEq, Repr

/-- The tape map: position record (R96), program index, INDEX_FULL and change count (R106), marker debounce (R107),
period value of the last tick (R98). -/
structure TapeMap where
  pos : PositionRecord
  index : List IndexEntry
  indexFull : Bool
  changeCount : Byte
  debounce : Option Debounce
  periodValue : Afa
  deriving DecidableEq, Repr

/-! ## Edit sequencer (chapter 7) -/

/-- Sequencer states (R121), in the order of their codes (R198). -/
inductive SeqState where
  | idle | armed | recording | closing | held | fault
  deriving DecidableEq, Repr

/-- Error kinds (R142), in the order of their codes (R198). -/
inductive ErrorKind where
  | late | range | rate | position | loop | mode | tapeProtected | writeOff | denied | input | transport | write | unloaded
  deriving DecidableEq, Repr

/-- Error phases (R142). -/
inductive Phase where
  | fetch | run
  deriving DecidableEq, Repr

/-- Error details (R142): NONE and UNSTATED are the causes of a refused grant. -/
inductive ErrorDetail where
  | absent | rightsNone | rightsUnstated | notRecord | noLock | speed | address
  deriving DecidableEq, Repr

/-- The error record (R142). -/
structure ErrorRecord where
  kind : ErrorKind
  phase : Phase
  entry : Fin 32
  detail : ErrorDetail
  afa : Option Afa
  deriving DecidableEq, Repr

/-- How the last walk ended (R121). -/
inductive CloseKind where
  | complete | aborted
  deriving DecidableEq, Repr

/-- The edit sequencer (R121). -/
structure Sequencer where
  state : SeqState
  pointer : Fin 32
  held : Option (Fin 32)
  kept : Bool
  holdPending : Bool
  abortPending : Bool
  guard : Nat
  lastPosition : Option Afa
  error : Option ErrorRecord
  lastClose : Option (CloseKind × Fin 32)
  baked : Word32
  deriving DecidableEq, Repr

/-! ## Rights unit (chapter 8) -/

/-- Source states (R144). -/
inductive SourceState where
  | rightsOpen | rightsOne | rightsNone | rightsUnstated
  deriving DecidableEq, Repr

/-- The accepted record (R144). -/
structure AcceptedRecord where
  cls : LinkClass
  permit : Bool
  generation : Generation
  tag : Byte
  deriving DecidableEq, Repr

/-- Tape rights (R144). -/
structure TapeRights where
  copy : SourceState
  cls : SourceClass
  deriving DecidableEq, Repr

/-- The rights unit (R144). The analog source state equals the analog rights setting and stands in the formatter
(R147). `kept` is the period rights kept at the last tick with the frame blended in the period it ended (R148). -/
structure RightsUnit where
  history : List StatusRecord
  accepted : Option AcceptedRecord
  lock : Bool
  digital : SourceState
  period : SourceState
  kept : SourceState
  tape : TapeRights
  candidate : Option RightsPack
  word : OutputWord
  deriving DecidableEq, Repr

/-! ## Fault monitor (chapter 9) -/

/-- Fault kinds, in the order of their codes 1..7 (R158). -/
inductive FaultKind where
  | servo | confirm | input | clog | position | uncorr | rate
  deriving DecidableEq, Repr

/-- Fault modes (R158). -/
inductive FaultMode where
  | latched | auto | warn | off
  deriving DecidableEq, Repr

/-- Causes of a failed CONFIRM check (R162). -/
inductive ConfirmCause where
  | columns | notRead
  deriving DecidableEq, Repr

/-- Details of a raise, by kind (R161 to R168). -/
inductive FaultDetail where
  | absent
  | servoNoLock | servoStalled | servoSpeed
  | confirm (cause : ConfirmCause) (afa : Afa)
  | inputUnlocked | inputRate
  | clogHead (path : ReadPath) (track : Track)
  | positionRange (afa : Afa) | positionJump (afa : Afa)
  | uncorr (identity : FrameIdentity) (columnsA columnsB : Nat)
  | rateSum (sum : Nat)
  deriving DecidableEq, Repr

/-- A fault record (R158). -/
structure FaultRecord where
  mode : FaultMode
  present : Bool
  action : Bool
  seen : Bool
  count : Nat
  firstAfa : Option Afa
  detail : FaultDetail
  deriving DecidableEq, Repr

/-- The seven fault records (R158). -/
structure FaultRecords where
  servo : FaultRecord
  confirm : FaultRecord
  input : FaultRecord
  clog : FaultRecord
  position : FaultRecord
  uncorr : FaultRecord
  rate : FaultRecord
  deriving DecidableEq, Repr

/-- A head's clog count, head condition and head action (R165); the action is also the stream's override flag (R73). -/
structure ClogHead where
  count : Nat
  present : Bool
  action : Bool
  deriving DecidableEq, Repr

/-- The four heads (R56, R165). -/
structure ClogHeads where
  preA : ClogHead
  preB : ClogHead
  confA : ClogHead
  confB : ClogHead
  deriving DecidableEq, Repr

/-- The ten counters of one decoder and its repair unit (R173). -/
structure PathCounters where
  clean : Word32
  fixed : Word32
  flagged : Word32
  lost : Word32
  uncorr : Word32
  frames : Word32
  bad : Word32
  interpolated : Word32
  held : Word32
  muted : Word32
  deriving DecidableEq, Repr

/-- The 23 statistics counters (R173). -/
structure Counters where
  pre : PathCounters
  conf : PathCounters
  baked : Word32
  slip : Word32
  jumps : Word32
  deriving DecidableEq, Repr

/-- Verify states (R174). -/
inductive VerifyState where
  | idle | waiting | scanning | pass | fail | stopped
  deriving DecidableEq, Repr

/-- Causes of a verify failure (R176). -/
inductive VerifyCause where
  | blocks | columns | position
  deriving DecidableEq, Repr

/-- Stop causes (R174). -/
inductive StopCause where
  | request | range | unload
  deriving DecidableEq, Repr

/-- The first failure of a scan (R174). -/
structure VerifyFailure where
  afa : Option Afa
  track : Track
  flagged : Nat
  uncorr : Nat
  cause : VerifyCause
  deriving DecidableEq, Repr

/-- The verify record (R174). `prevScan` is the model's own: the scan AFA of the last frame the scan checked, none when that
frame had none (R176 compares it for source CONF). -/
structure VerifyRecord where
  state : VerifyState
  source : ReadPath
  start : Option Afa
  stop : Afa
  threshold : Nat
  loop : Bool
  checked : Nat
  passes : Nat
  lastScan : Option Afa
  prevScan : Option Afa
  failure : Option VerifyFailure
  stopCause : Option StopCause
  deriving DecidableEq, Repr

/-- The fault monitor: records (R158), heads (R165), thresholds and rate window (R168), the tag of the most recent
POSITION report (R166), the entries handed off by the formatter and the tag of the last CONF tally taken (R162),
counters and per-port snapshots (R173), verify record (R174). -/
structure FaultMonitor where
  records : FaultRecords
  heads : ClogHeads
  high : Nat
  low : Nat
  window : List Nat
  positionTag : Option FrameNo
  handed : List WrittenFrame
  lastConf : Option FrameNo
  counters : Counters
  snap1 : Counters
  snap2 : Counters
  snap3 : Counters
  verify : VerifyRecord
  deriving DecidableEq, Repr

/-! ## Control ports and claims (chapter 10) -/

/-- The event kinds, in the order of the event mask (R190, R197). -/
inductive Event where
  | seqDone | seqFault | gateOpened | gateClosed | faultRaised | faultEnded | positionJump | indexChanged | markerSeen
  | rightsChanged | verifyDone | claimLost | modeChanged
  deriving DecidableEq, Repr

/-- Result codes, in the order of their codes (R184, R198). -/
inductive ResultCode where
  | ok | clamped | noClaim | held | busy | state | range | unknown | frame | none
  deriving DecidableEq, Repr

/-- The sequencer fields of STATUS page 0 (R143). -/
structure SeqView where
  state : SeqState
  pointer : Fin 32
  held : Option (Fin 32)
  kept : Bool
  holdPending : Bool
  abortPending : Bool
  guard : Nat
  lastClose : Option (CloseKind × Fin 32)
  baked : Word32
  error : Option ErrorRecord
  deriving DecidableEq, Repr

/-- READ POSITION page 0 (R114). -/
structure PositionView where
  state : PosState
  afa : Afa
  rate : Option Rate
  lastGeneration : Nat
  framesSince : Nat
  candidateHeld : Bool
  candidateInRange : Bool
  candidateAfa : Option Afa
  entries : Nat
  indexFull : Bool
  changeCount : Byte
  deriving DecidableEq, Repr

/-- READ POSITION page 1 (R34). -/
structure TransportView where
  mode : Mode
  lock : Bool
  prot : Bool
  dir : Direction
  ratio : Nat
  stalled : Bool
  decodeRange : Bool
  writeWindow : Bool
  deriving DecidableEq, Repr

/-- READ RIGHTS (R157). -/
structure RightsView where
  lock : Bool
  historyCount : Nat
  accepted : Option AcceptedRecord
  digital : SourceState
  analog : SourceState
  selected : AudioSource
  selectedState : SourceState
  grantState : Option CopyState
  period : SourceState
  tape : TapeRights
  candidate : Option RightsPack
  source : OutputSource
  switching : Bool
  outputCopy : SourceState
  word : OutputWord
  deriving DecidableEq, Repr

/-- One kind's line of READ FAULTS code 0 (R172). -/
structure FaultLine where
  mode : FaultMode
  present : Bool
  action : Bool
  seen : Bool
  deriving DecidableEq, Repr

/-- One kind's line of CLEAR FAULTS (R171). -/
structure ClearLine where
  present : Bool
  action : Bool
  seen : Bool
  deriving DecidableEq, Repr

/-- Page 0 of VERIFY READ (R174). -/
structure VerifyView where
  state : VerifyState
  source : ReadPath
  start : Option Afa
  stop : Afa
  threshold : Nat
  loop : Bool
  checked : Nat
  passes : Nat
  stopCause : Option StopCause
  deriving DecidableEq, Repr

/-- Result payloads, by their fields (R194: "the other result payloads are given by their fields and meaning alone",
00_scope.md). The halves of an edit entry are carried in their layout (R199). -/
inductive Payload where
  | zeros
  | sequencer (v : SeqView)
  | portView (port : Port) (edit transport : Option Port) (report attn events : EventSet)
  | claimHolder (h : Option Port)
  | eventSets (report attn events : EventSet)
  | ackSets (before after : EventSet)
  | position (v : PositionView)
  | transport (v : TransportView)
  | indexEntry (e : Option IndexEntry) (entries : Nat) (full : Bool) (changeCount : Byte)
  | entryHalf (bits : BitVec 96)
  | rights (v : RightsView)
  | faultSummary (lines : List FaultLine) (code : Nat) (high low : Nat)
  | kindRecord (kind : FaultKind) (r : FaultRecord)
  | faultRecord (kind : FaultKind) (r : FaultRecord) (heads : List ClogHead) (window : Option (Nat × Nat))
  | faultClear (lines : List ClearLine)
  | counters (c0 c1 c2 : Word32)
  | verifyState (v : VerifyState)
  | verifyClamped (v : VerifyState) (threshold : Nat)
  | verifyPage0 (v : VerifyView)
  | verifyPage1 (state : VerifyState) (lastScan : Option Afa) (failure : Option VerifyFailure)
  | monitor (mode : MonitorMode) (source : OutputSource) (switching : Bool)
  | entryNumber (k : BitVec 5)
  | seqState (st : SeqState)
  | writeEnable (on : Bool)
  | recordSettings (rate : Rate) (source : AudioSource) (analog : CopyState)
  | repairSettings (r : RepairSettings)
  | thresholds (high low : Nat)
  | modeRecord (mode : Mode) (lock prot : Bool)
  deriving DecidableEq, Repr

/-- A pending response (R178). -/
structure Response where
  result : ResultCode
  echo : Byte
  payload : Payload
  deriving DecidableEq, Repr

/-- The summary at the head of a response (R185). -/
structure Summary where
  reset : Bool
  frame : Bool
  attn : Bool
  editHeld : Bool
  transportHeld : Bool
  seq : SeqState
  error : Option ErrorKind
  gate : Gate
  fault : Bool
  warn : Bool
  faultCode : Nat
  deriving DecidableEq, Repr

/-- A port's select line (R178, R179): high; low in an exchange that shifts out the given response behind its summary;
or low since before a reset, when the port waits for the rise and takes nothing at it. -/
inductive SelectLine where
  | high
  | exchange (summary : Summary) (response : Response)
  | waitRise
  deriving DecidableEq, Repr

/-- A port context (R178). -/
structure PortContext where
  response : Response
  resetFlag : Bool
  frameError : Bool
  report : EventSet
  attn : EventSet
  events : EventSet
  select : SelectLine
  deriving DecidableEq, Repr

/-- The three port contexts (R178). -/
structure Ports where
  p1 : PortContext
  p2 : PortContext
  p3 : PortContext
  deriving DecidableEq, Repr

/-- The claim table (R187). -/
structure Claims where
  edit : Option Port
  transport : Option Port
  deriving DecidableEq, Repr

/-! ## The whole part -/

/-- The state of the part, block by block, and the queue of waiting commands, first in, first out (the model's own). -/
structure State where
  ports : Ports
  claims : Claims
  transport : Transport
  clock : SampleClock
  formatter : Formatter
  preDecoder : TrackDecoder
  confDecoder : TrackDecoder
  preRepair : RepairUnit
  confRepair : RepairUnit
  settings : RepairSettings
  blend : Blend
  monitor : Monitor
  outputs : Outputs
  tapeMap : TapeMap
  editList : Vector EditEntry 32
  seq : Sequencer
  rights : RightsUnit
  faults : FaultMonitor
  pending : List Instr
  deriving DecidableEq, Repr

/-- The reasons a step could stop with a fault. The spec gives every command an effect, so no meaning raises one. -/
inductive Fault where
  /-- Raised by nobody (safe): the part has no command that stops it. -/
  | notRaised
  deriving DecidableEq, Repr

/-- The reasons a step could be refused. -/
inductive Refusal where
  /-- Raised by an arm of `exec` for a command with no meaning yet (safe); no arm is left that raises it. -/
  | notModelled (mnemonic : String)
  deriving DecidableEq, Repr

/-! ## Power-on reset values -/

/-- The pairs per frame of a rate (R1). -/
def pairsPerFrame : Rate → Nat
  | .r48k => 960
  | .r44k1 => 882

/-- A substitute frame (R69): every sample 0 and BAD but the padding, which is not handed on. -/
def substituteFrame (rate : Rate) : RepairFrame :=
  { left := List.replicate (pairsPerFrame rate) ⟨0, false⟩
    right := List.replicate (pairsPerFrame rate) ⟨0, false⟩
    rate := rate, completed := false }

/-- The default repair settings (R85). -/
def RepairSettings.reset : RepairSettings := ⟨4, 32, 64, 256⟩

/-- A channel repairer after reset (R75). -/
def Repairer.reset : Repairer :=
  { state := .muted, last := 0, rampBase := 0, gain := 0, startGain := 0, steps := 0, plan := none
    captured := .reset, holdExpired := false }

/-- A repair unit after reset (R75). -/
def RepairUnit.reset : RepairUnit :=
  { output := substituteFrame .r48k, ahead := substituteFrame .r48k, left := .reset, right := .reset }

/-- A new-path concealer after reset (R40): MUTED with gain 0. -/
def Concealer.reset : Concealer :=
  { state := .muted, last := 0, gain := 0, steps := 0, rampBase := 0, startGain := 0, captured := .reset
    holdExpired := false }

/-- A track decoder after reset (R56). -/
def TrackDecoder.reset : TrackDecoder := ⟨.idle, none, none, false⟩

/-- A blend channel after reset (R86). -/
def BlendChannel.reset : BlendChannel := ⟨0, 0, none, none, false⟩

/-- The formatter after reset (R35, R38, R40 to R42, R47, R49, R53, R54). -/
def Formatter.reset : Formatter :=
  { recordRate := .r48k, defaultSource := .analog, analogRights := .copyOpen, writeEnable := false
    fifo := [], fifoState := .priming, heldPair := ⟨0, 0⟩, concealL := .reset, concealR := .reset, linkRate := none
    gate := .closed, pendingOpen := none, closePoint := none, openSpan := none
    build := none, ready := none, sending := none, written := [], run := none, carried := 0
    oldNext := none, oldNow := none }

/-- The position record after reset and after a tape unload (R96, R117). -/
def PositionRecord.reset : PositionRecord :=
  { state := .unknown, afa := 0, rate := none, lastGeneration := 0, framesSince := 65535, candidate := none
    blankRun := 0 }

/-- An edit entry after reset: NOP with the end flag set, every other field absent or zero (R118). -/
def emptyEntry : EditEntry :=
  { action := 0, endFlag := true, mode := 0, channels := 0, source := 0, fadeIn := 0, fadeOut := 0
    markerKind := 0, markerNumber := 0, inPresent := false, inAfa := 0, inOffset := 0, outPresent := false
    outAfa := 0, outOffset := 0, startPresent := false, startAfa := 0 }

/-- The sequencer after reset (R121). -/
def Sequencer.reset : Sequencer :=
  { state := .idle, pointer := 0, held := none, kept := false, holdPending := false, abortPending := false
    guard := 0, lastPosition := none, error := none, lastClose := none, baked := 0 }

/-- The rights unit after reset (R144). -/
def RightsUnit.reset : RightsUnit :=
  { history := [], accepted := none, lock := false, digital := .rightsUnstated, period := .rightsOpen
    kept := .rightsOpen, tape := ⟨.rightsUnstated, .unstated⟩, candidate := none
    word := ⟨.copyNone, false, .copy⟩ }

/-- A fault record after reset, in its default mode (R158). -/
def FaultRecord.reset (mode : FaultMode) : FaultRecord :=
  { mode := mode, present := false, action := false, seen := false, count := 0, firstAfa := none, detail := .absent }

/-- The fault records after reset (R158). -/
def FaultRecords.reset : FaultRecords :=
  { servo := .reset .latched, confirm := .reset .latched, input := .reset .auto, clog := .reset .auto
    position := .reset .warn, uncorr := .reset .warn, rate := .reset .warn }

/-- A head after reset (R165). -/
def ClogHead.reset : ClogHead := ⟨0, false, false⟩

/-- Counters of 0 (R173). -/
def PathCounters.reset : PathCounters := ⟨0, 0, 0, 0, 0, 0, 0, 0, 0, 0⟩

/-- Counters of 0 (R173). -/
def Counters.reset : Counters := ⟨.reset, .reset, 0, 0, 0⟩

/-- The verify record after reset (R174). Source and loop have no none, 0 or absent; PRE and no are taken (DESIGN CHOICE, log
entry 13). -/
def VerifyRecord.reset : VerifyRecord :=
  { state := .idle, source := .pre, start := none, stop := 0, threshold := 0, loop := false, checked := 0
    passes := 0, lastScan := none, prevScan := none, failure := none, stopCause := none }

/-- The fault monitor after reset (R158, R165, R168, R173, R174). -/
def FaultMonitor.reset : FaultMonitor :=
  { records := .reset, heads := ⟨.reset, .reset, .reset, .reset⟩, high := 40, low := 16, window := []
    positionTag := none, handed := [], lastConf := none, counters := .reset, snap1 := .reset, snap2 := .reset
    snap3 := .reset, verify := .reset }

/-- A port context after reset (R178), its select line high. -/
def PortContext.reset : PortContext :=
  { response := ⟨.none, 0, .zeros⟩, resetFlag := true, frameError := false, report := 0, attn := 0, events := 0
    select := .high }

/-- The transport interface after reset (R18, R22 to R25). -/
def Transport.reset : Transport :=
  { mode := .unloaded, lock := false, prot := true, history := ⟨65535, 65535, 65535, 65535⟩, stalled := true
    ratio := 0, dir := .forward, tick := 0 }

/-- The part right after power-on reset, with no command waiting. -/
def State.reset : State :=
  { ports := ⟨.reset, .reset, .reset⟩
    claims := ⟨none, none⟩
    transport := .reset
    clock := ⟨.r48k, false, 0⟩
    formatter := .reset
    preDecoder := .reset
    confDecoder := .reset
    preRepair := .reset
    confRepair := .reset
    settings := .reset
    blend := ⟨.reset, .reset, false, false, none⟩
    monitor := ⟨.auto, .pre, none, none⟩
    outputs := ⟨0, 0, 0, .copyNone, none⟩
    tapeMap := ⟨.reset, [], false, 0, none, 0⟩
    editList := Vector.replicate 32 emptyEntry
    seq := .reset
    rights := .reset
    faults := .reset
    pending := [] }

end Sys2Proof.Machine
end

