-- ==== Sys2Proof/Config.lean ====
section
/-! DEFINITION. What the manual leaves open: opaque constants with no body, so that no proof can see their values and a
claim about the model holds whatever they are; and `withProperty`, which holds such a value to what the manual does say of it. -/

namespace Sys2Proof

/-- The outer code of a column, as a table that lists eight check symbols for each column of data (R6). DESIGN CHOICE (log
entry 2): R6 gives the code's strength, not its check symbols, so the table is a free value; Machine/OuterCode.lean holds
it to that strength, and to the column of zeros of R11. -/
opaque Config.outerTable : List (Fin 1024)

/-- What takes the place of row `r` of a column when no word of the outer code has the symbols known, `none` where flagged
(R11). DESIGN CHOICE (log entry 2): R6 gives the correct value of a symbol of a word of the code and nothing else, so it is
a free value. -/
opaque Config.outerRestore : List (Option Symbol) → Nat → Symbol

/-- Inner-check symbol `i` (0..5) of a block's 40 payload symbols (R9). DESIGN CHOICE (log entry 2): the manual does not
state the inner code, so it is a free value. -/
opaque Config.innerCheck : List Symbol → Nat → Symbol

/-- How many of a response's 96 payload bits stand before each field, for a payload of fields of given widths whose layout
the manual does not give ("the other result payloads are given by their fields and meaning alone", 00_scope.md). DESIGN CHOICE
(log entry 3): a free value; Machine/Payload.lean says which payloads take it, and holds it to R198. -/
opaque Config.payloadPlaces : List Nat → List Nat

/-! ## Free values held to what the manual says of them -/

namespace Machine

/-- A value if it has a property that some value has, else some value that has it. -/
def withProperty {α : Type} [Encodable α] {P : α → Prop} (dec : DecidablePred P) (h : ∃ a, P a) (a : α) : α :=
  match dec a with
  | .isTrue _ => a
  | .isFalse _ => Encodable.choose h

/-- `withProperty` gives a value with the property. -/
theorem withProperty_spec {α : Type} [Encodable α] {P : α → Prop} (dec : DecidablePred P) (h : ∃ a, P a) (a : α) :
    P (withProperty dec h a) := by
  unfold withProperty
  cases dec a with
  | isTrue ha => exact ha
  | isFalse _ => exact Encodable.choose_spec h

end Machine

end Sys2Proof
end

