-- ==== Sys2Proof/Machine/OuterCode.lean ====
section
/-! DEFINITION. The outer code of a column (R6). The manual gives its strength, "any 48 of a column's 56 symbols, whichever
48 they are, determine the remaining 8", and R11 that at 44K1 "columns 38 and 39 are restored to zeros", whose data rows are
padding, and neither gives the check symbols. So the code is a free value among the codes of that strength whose column of zeros has check symbols
of 0 (log entry 2): `Config.outerTable` names it, and `outerTable` is that table when it is such a code, and otherwise some
table that is, of which nothing more is known. -/

namespace Sys2Proof.Machine

open Sys2Proof

/-! ## Codes of the strength of R6 -/

/-- The symbol in row `r` of the column whose data symbols are `d`: rows 0..47 hold the data, rows 48..55 the check symbols
that the table `T` lists, eight for each column of data. -/
def tableWord (T : List (Fin 1024)) (d : Fin 48 → Fin 1024) (r : Fin 56) : Fin 1024 :=
  if h : r.val < 48 then d ⟨r.val, h⟩ else T.getD (8 * (finFunctionFinEquiv d).val + (r.val - 48)) 0

/-- The strength of R6: two columns that agree in all rows but at most 8 are the same column. -/
def OuterStrong (T : List (Fin 1024)) : Prop :=
  ∀ miss : Fin 56 → Bool, (Finset.univ.filter fun r => miss r = true).card ≤ 8 →
    ∀ d d' : Fin 48 → Fin 1024, (∀ r, miss r = false → tableWord T d r = tableWord T d' r) → d = d'

/-- The check symbols of a column of zeros are 0, so that it is restored to zeros (R11). -/
def OuterZero (T : List (Fin 1024)) : Prop := ∀ r : Fin 56, tableWord T (fun _ => 0) r = 0

/-- What the manual says of the outer code (R6, R11). -/
def OuterCode (T : List (Fin 1024)) : Prop := OuterStrong T ∧ OuterZero T

/-- Every assignment of eight check symbols to each column of data is listed by some table. -/
theorem exists_outer_table (c : (Fin 48 → Fin 1024) → Fin 8 → Fin 1024) :
    ∃ T : List (Fin 1024), ∀ d (i : Fin 8), T.getD (8 * (finFunctionFinEquiv d).val + i.val) 0 = c d i := by
  refine ⟨List.ofFn (n := 1024 ^ 48 * 8) fun n =>
    c (finFunctionFinEquiv.symm (finProdFinEquiv.symm n).1) (finProdFinEquiv.symm n).2, fun d i => ?_⟩
  have h : 8 * (finFunctionFinEquiv d).val + i.val = (finProdFinEquiv (finFunctionFinEquiv d, i)).val := by
    simp [finProdFinEquiv]; omega
  rw [h, List.getD_eq_getElem?_getD, List.getElem?_ofFn]
  simp only [Fin.is_lt, dite_true, Fin.eta, Equiv.symm_apply_apply, Option.getD_some]

/-- Check symbols of the strength of R6 exist: the values, at eight further points of the field of 1024 elements, of the
polynomial of degree below 48 through the data. Those of zeros are 0. -/
theorem exists_outer_checks : ∃ c : (Fin 48 → Fin 1024) → Fin 8 → Fin 1024,
    (∀ i, c (fun _ => 0) i = 0) ∧
    ∀ S : Finset (Fin 56), 48 ≤ S.card → ∀ d d' : Fin 48 → Fin 1024,
      (∀ r ∈ S, (if h : r.val < 48 then d ⟨r.val, h⟩ else c d ⟨r.val - 48, by omega⟩) =
        (if h : r.val < 48 then d' ⟨r.val, h⟩ else c d' ⟨r.val - 48, by omega⟩)) → d = d' := by
  classical
  let F := GaloisField 2 10
  have hc : Nat.card F = 1024 := by simpa using GaloisField.card 2 10 (by norm_num)
  have : Fintype F := Fintype.ofFinite F
  obtain ⟨e, he⟩ : ∃ e : Fin 1024 ≃ F, e 0 = 0 := by
    let e0 : Fin 1024 ≃ F := Fintype.equivOfCardEq (by rw [Fintype.card_fin, ← Nat.card_eq_fintype_card, hc])
    exact ⟨(Equiv.swap 0 (e0.symm 0)).trans e0, by simp⟩
  let x : Fin 56 → F := fun r => e ⟨r.val, by omega⟩
  have hx : Function.Injective x := fun a b h => by
    have := e.injective h; simpa [Fin.ext_iff] using this
  let y : Fin 48 → F := fun r => x ⟨r.val, by omega⟩
  have hy : Function.Injective y := fun a b h => by
    have := hx h; simpa [Fin.ext_iff] using this
  let P : (Fin 48 → Fin 1024) → Polynomial F := fun d => Lagrange.interpolate Finset.univ y fun r => e (d r)
  have hP : ∀ d, (P d).degree < ((48 : ℕ) : WithBot ℕ) := fun d => by
    have := Lagrange.degree_interpolate_lt (s := Finset.univ) (v := y) (fun r => e (d r)) hy.injOn
    rwa [Finset.card_univ, Fintype.card_fin] at this
  have hev : ∀ d r, (P d).eval (y r) = e (d r) := fun d r =>
    Lagrange.eval_interpolate_at_node _ hy.injOn (Finset.mem_univ r)
  refine ⟨fun d i => e.symm ((P d).eval (x ⟨48 + i.val, by omega⟩)), fun i => ?_, fun S hS d d' h => ?_⟩
  · have h0 : P (fun _ => 0) = 0 := by
      simp only [P, he]
      exact map_zero (Lagrange.interpolate Finset.univ y)
    simp only [h0, Polynomial.eval_zero]
    exact (Equiv.symm_apply_eq e).mpr he.symm
  have hw : ∀ (d : Fin 48 → Fin 1024) (r : Fin 56), e (if h : r.val < 48 then d ⟨r.val, h⟩ else
      e.symm ((P d).eval (x ⟨48 + (r.val - 48), by omega⟩))) = (P d).eval (x r) := by
    intro d r
    by_cases hr : r.val < 48
    · simp only [hr, dite_true]; exact (hev d ⟨r.val, hr⟩).symm
    · simp only [hr, dite_false, Equiv.apply_symm_apply]
      congr 2; ext; simp; omega
  have heq : P d = P d' := by
    refine Polynomial.eq_of_degrees_lt_of_eval_finset_eq (S.image x) ?_ ?_ ?_
    · rw [Finset.card_image_of_injective _ hx]; exact lt_of_lt_of_le (hP d) (by exact_mod_cast hS)
    · rw [Finset.card_image_of_injective _ hx]; exact lt_of_lt_of_le (hP d') (by exact_mod_cast hS)
    · intro z hz
      obtain ⟨r, hr, rfl⟩ := Finset.mem_image.mp hz
      rw [← hw d r, ← hw d' r, h r hr]
  funext r
  apply e.injective
  rw [← hev d r, ← hev d' r, heq]

/-- Some table is a code as the manual has it. -/
theorem exists_outer_code : ∃ T, OuterCode T := by
  obtain ⟨c, h0, hc⟩ := exists_outer_checks
  obtain ⟨T, hT⟩ := exists_outer_table c
  refine ⟨T, ⟨fun miss hm d d' h => hc (Finset.univ.filter fun r => miss r = false) ?_ d d' fun r hr => ?_, fun r => ?_⟩⟩
  · have h1 : (Finset.univ.filter fun r => miss r = false).card + (Finset.univ.filter fun r => miss r = true).card = 56 := by
      have := Finset.card_filter_add_card_filter_not (s := (Finset.univ : Finset (Fin 56))) (fun r => miss r = false)
      simpa using this
    omega
  · have := h r (by simpa using hr)
    simp only [tableWord] at this
    by_cases hr' : r.val < 48
    · simpa [hr'] using this
    · simp only [hr', dite_false] at this ⊢
      rw [← hT d ⟨r.val - 48, by omega⟩, ← hT d' ⟨r.val - 48, by omega⟩]; exact this
  · unfold tableWord
    split
    · rfl
    · exact (hT (fun _ => 0) ⟨r.val - 48, by omega⟩).trans (h0 _)

/-- Whether a table is such a code is a question about finitely many columns. -/
@[reducible] def outerCodeDec : DecidablePred OuterCode := fun T => by
  unfold OuterCode OuterStrong OuterZero; infer_instance

/-! ## The outer code of the part -/

/-- The table of the part's outer code (log entry 2): the free value, if it is a code as the manual has it, else some table
that is. -/
@[irreducible] def outerTable : List (Fin 1024) := withProperty outerCodeDec exists_outer_code Config.outerTable

/-- What the manual says of the outer code holds of the part's. -/
theorem outerTable_code : OuterCode outerTable := by
  unfold outerTable
  exact withProperty_spec outerCodeDec exists_outer_code Config.outerTable

/-- R6: "Any 48 of a column's 56 symbols, whichever 48 they are, determine the remaining 8." -/
theorem outerTable_strong : OuterStrong outerTable := outerTable_code.1

/-- R11: a column of zeros is restored to zeros. -/
theorem outerTable_zero : OuterZero outerTable := outerTable_code.2

/-- A column's data symbols as the code takes them. -/
def dataOf (data : List Symbol) : Fin 48 → Fin 1024 := fun i => (data.getD i.val 0).toFin

/-- Check symbol `i` (0..7) of a column's 48 data symbols in row order (R6). -/
def outerCheck (data : List Symbol) (i : Nat) : Symbol :=
  BitVec.ofFin (outerTable.getD (8 * (finFunctionFinEquiv (dataOf data)).val + i) 0)

/-- The symbol in row `r` of the column that the formatter writes for 48 data symbols (R5, R6). -/
def outerColumn (data : List Symbol) (r : Nat) : Symbol := if r < 48 then data.getD r 0 else outerCheck data (r - 48)

/-- Whether the column of data `d` has every known symbol of a column given in row order, `none` where flagged. -/
def outerAgrees (known : List (Option Symbol)) (d : Fin 48 → Fin 1024) : Bool :=
  (List.finRange 56).all fun r => match known.getD r.val none with
    | some v => tableWord outerTable d r == v.toFin
    | none => true

/-- Whether a symbol stands in row `r` of some column that has every known symbol. -/
def outerFits (known : List (Option Symbol)) (r : Fin 56) (v : Fin 1024) : Bool :=
  decide (∃ d : Fin 48 → Fin 1024, outerAgrees known d = true ∧ tableWord outerTable d r = v)

/-- The correct value of row `r` of a column whose 56 symbols are given in row order, `none` where flagged (R6, R11): the
one that a column with the known symbols has there. Where no column has them all, which the rules do not treat, it is a
free value (log entry 2). -/
def outerRestore (known : List (Option Symbol)) (r : Nat) : Symbol :=
  if h : r < 56 then
    match (List.finRange 1024).find? (outerFits known ⟨r, h⟩) with
    | some v => BitVec.ofFin v
    | none => Config.outerRestore known r
  else Config.outerRestore known r

end Sys2Proof.Machine
end

