-- ==== Sys2Proof/Machine/Operands.lean ====
section
/-! DEFINITION. The operand forms and the arithmetic of the manual: samples, symbols and the matrix (R2 to R5, R36),
block headers and packs (R8, R13 to R17, R200), ramps, fades and blends (R78 to R88), speed ratio (R25), request codes
(R197) and edit entries (R118, R199). -/

namespace Sys2Proof.Machine

open Sys2Proof

/-! ## Samples and symbols -/

/-- The conversion of a 24-bit sample to 20 bits, the part's one saturation step (R36). -/
def convert24 (v : BitVec 24) : Sample :=
  let x := (v.toInt + 8) / 16
  if x = 524288 then 524287 else x

/-- The 24-bit value at the outputs for a 20-bit value (R94). -/
def output24 (v : Sample) : Int := v * 16

/-- The 20-bit pattern u of a sample (R4). -/
def samplePattern (v : Sample) : Nat := (if 0 ≤ v then v else v + 1048576).toNat

/-- The high symbol of a sample (R4). -/
def highSymbol (v : Sample) : Symbol := BitVec.ofNat 10 (samplePattern v / 1024)

/-- The low symbol of a sample (R4). -/
def lowSymbol (v : Sample) : Symbol := BitVec.ofNat 10 (samplePattern v % 1024)

/-- The sample that two symbols rebuild (R4). -/
def rebuildSample (high low : Symbol) : Sample :=
  let u := high.toNat * 1024 + low.toNat
  if u < 524288 then (u : Int) else (u : Int) - 1048576

/-- The 20-bit value two symbols carry, high then low (R195). -/
def symbolPairValue (high low : Symbol) : Nat := high.toNat * 1024 + low.toNat

/-! ## The channel split and the matrix -/

/-- The other track. -/
def otherTrack : Track → Track
  | .a => .b
  | .b => .a

/-- The track that holds sample `n` of a channel (R3). -/
def trackOf (ch : Channel) (n : Nat) : Track :=
  match ch with
  | .left => if n % 2 = 0 then .a else .b
  | .right => if n % 2 = 0 then .b else .a

/-- The channel whose sample stands in slot `n` of a track (R3). -/
def channelOf (t : Track) (n : Nat) : Channel :=
  match t with
  | .a => if n % 2 = 0 then .left else .right
  | .b => if n % 2 = 0 then .right else .left

/-- The column pair of slot `n` (R5). -/
def colPair (n : Nat) : Nat := n / 48

/-- The row of slot `n` (R5). -/
def rowOf (n : Nat) : Nat := (5 * (n % 48)) % 48

/-- The residue m held by a data row (R5). -/
def residue (r : Nat) : Nat := (29 * r) % 48

/-- The slot in a data row and column (R5). -/
def slotAt (r col : Nat) : Nat := residue r + 48 * (col / 2)

/-- Whether a matrix position is a padding position of a frame decoded at the rate (R2, R11). -/
def isPadding (rate : Rate) (r col : Nat) : Bool := r < 48 && pairsPerFrame rate ≤ slotAt r col

/-! ## Block headers and packs -/

/-- The block number of a header (R200). -/
def headerNumber (h : BlockHeader) : Nat := h.s0.toNat / 16

/-- The track bit of a header (R200). -/
def headerTrack (h : BlockHeader) : Track := if h.s0.toNat / 8 % 2 = 0 then .a else .b

/-- The AFA low bits of a header (R200). -/
def headerTag (h : BlockHeader) : Byte := BitVec.ofNat 8 (h.s1.toNat % 256)

/-- The header check: the three symbols sum to 1023 modulo 1024 (R200). -/
def headerCheck (h : BlockHeader) : Bool := h.s0 + h.s1 + h.s2 == 1023#10

/-- Whether a header is good on a stream of track `t` (R8). -/
def headerGood (h : BlockHeader) (t : Track) : Bool :=
  headerCheck h && decide (headerNumber h ≤ 59) && headerTrack h == t

/-- The header the formatter writes (R8, R200). -/
def makeHeader (number : Nat) (t : Track) (afa : Afa) : BlockHeader :=
  let s0 := BitVec.ofNat 10 (number * 16 + match t with | .a => 0 | .b => 8)
  let s1 := BitVec.ofNat 10 (afa % 256)
  ⟨s0, s1, 1023#10 - (s0 + s1)⟩

/-- The inner result a block arrives with (R8, R10): LOST when its header is not good. -/
def arrivalResult (blk : BlockArrival) : InnerResult := if headerGood blk.header blk.track then blk.inner else .lost

/-- The rank of an inner result (R10): CLEAN above FIXED above FLAGGED. -/
def resultRank : InnerResult → Nat
  | .clean => 3
  | .fixed => 2
  | .flagged => 1
  | .lost => 0

/-- Whether a block number is an audio block's (R7). -/
def isAudioBlock (b : Nat) : Bool := 2 ≤ b && b ≤ 57

/-- Whether a block number is a subcode block's (R7). -/
def isSubcodeBlock (b : Nat) : Bool := b == 0 || b == 1 || b == 58 || b == 59

/-- Payload symbol `i` as a number. -/
def field (payload : List Symbol) (i : Nat) : Nat := (payload.getD i 0).toNat

/-- The codes of the rates (R200). -/
def rateOfCode : Nat → Option Rate
  | 0 => some .r48k
  | 1 => some .r44k1
  | _ => none

/-- The code of a rate (R200). -/
def codeOfRate : Rate → Nat
  | .r48k => 0
  | .r44k1 => 1

/-- The POSITION pack in a payload, if its fields hold values of their sets (R14, R200). -/
def parsePosition (p : List Symbol) : Option PositionPack :=
  (rateOfCode (field p 2)).map fun r => ⟨symbolPairValue (p.getD 0 0) (p.getD 1 0), r⟩

/-- Copy state codes (R200). -/
def copyOfCode : Nat → Option CopyState
  | 0 => some .copyOpen
  | 1 => some .copyOne
  | 2 => some .copyNone
  | _ => none

/-- Copy state codes (R200). -/
def codeOfCopy : CopyState → Nat
  | .copyOpen => 0
  | .copyOne => 1
  | .copyNone => 2

/-- Source class codes (R200). -/
def classOfCode : Nat → Option SourceClass
  | 0 => some .pro
  | 1 => some .consumer
  | 2 => some .analog
  | 3 => some .unstated
  | _ => none

/-- Source class codes (R200). -/
def codeOfClass : SourceClass → Nat
  | .pro => 0
  | .consumer => 1
  | .analog => 2
  | .unstated => 3

/-- The RIGHTS pack in a payload (R15, R200). -/
def parseRights (p : List Symbol) : Option RightsPack :=
  match copyOfCode (field p 0), classOfCode (field p 1) with
  | some c, some k => some ⟨c, k⟩
  | _, _ => none

/-- Marker kind codes: the outer none is a code outside the set, the inner none marker kind NONE (R200). -/
def markerOfCode : Nat → Option (Option MarkerKind)
  | 0 => some none
  | 1 => some (some .start)
  | 2 => some (some .skip)
  | _ => none

/-- Marker kind codes (R200). -/
def codeOfMarker : Option MarkerKind → Nat
  | none => 0
  | some .start => 1
  | some .skip => 2

/-- The PROGRAM pack in a payload (R16, R200): a marker requires a number of 1..999. -/
def parseProgram (p : List Symbol) : Option ProgramPack :=
  match markerOfCode (field p 1) with
  | none => none
  | some mk =>
    if field p 0 ≤ 999 ∧ field p 2 ≤ 99 ∧ (mk.isSome → field p 0 ≠ 0) then some ⟨field p 0, mk, field p 2⟩ else none

/-- The EDIT pack in a payload (R17, R200). -/
def parseEdit (p : List Symbol) : Option EditPack :=
  if field p 0 ≤ 255 ∧ field p 1 ≤ 1 ∧ field p 2 ≤ 1 then
    some ⟨field p 0, field p 1 == 1, if field p 2 = 0 then .spliceIn else .spliceOut⟩
  else none

/-- A payload whose leading symbols hold fields and whose other symbols are 0 (R9, R200). -/
def packPayload (fields : List Nat) : List Symbol :=
  fields.map (BitVec.ofNat 10) ++ List.replicate (40 - fields.length) 0

/-- The payload of a POSITION pack (R200). -/
def positionPayload (k : PositionPack) : List Symbol := packPayload [k.afa / 1024, k.afa % 1024, codeOfRate k.rate]

/-- The payload of a RIGHTS pack (R200). -/
def rightsPayload (k : RightsPack) : List Symbol := packPayload [codeOfCopy k.copy, codeOfClass k.cls]

/-- The payload of a PROGRAM pack (R200). -/
def programPayload (k : ProgramPack) : List Symbol := packPayload [k.number, codeOfMarker k.marker, k.runIndex]

/-- The payload of an EDIT pack (R200). -/
def editPayload (k : EditPack) : List Symbol :=
  packPayload [k.generation, if k.splice then 1 else 0, match k.kind with | .spliceIn => 0 | .spliceOut => 1]

/-! ## Repair and blend arithmetic -/

/-- Sample `k` of an interpolated gap (R78). -/
def interpolate (a b : Sample) (g k : Nat) : Sample := a + ((b - a) * (k : Int)).tdiv ((g : Int) + 1)

/-- The value of a ramp step or recovery step (R80, R82). -/
def rampValue (base : Sample) (gain : Nat) : Sample := (base * (gain : Int) + 2048) / 4096

/-- The gain of mute ramp step `j` (R80). -/
def muteGain (start m j : Nat) : Nat := start - j * (4096 / m)

/-- The gain of recovery step `j` (R82). -/
def recoveryGain (start u j : Nat) : Nat := start + (4096 - start) * j / u

/-- The blended value of an old and a new sample at weight `g` (R86, R93). -/
def blendValue (o n : Sample) (g : Nat) : Sample := (o * (4096 - (g : Int)) + n * (g : Int) + 2048) / 4096

/-- The length of a fade code 0..4 (R86). -/
def fadeLength (code : Nat) : Nat := 64 * 2 ^ code

/-- The step of a fade (R86). -/
def fadeStep (length : Nat) : Nat := 4096 / length

/-- The position at which a fade begins at weight `g0` (R87, R88). -/
def fadeStartPos (dir : FadeDir) (length g0 : Nat) : Nat :=
  let s := fadeStep length
  match dir with
  | .fadeIn => (g0 + s - 1) / s
  | .fadeOut => (4096 - g0 + s - 1) / s

/-- The weight at a position of a fade (R87, R88). -/
def fadeWeight (f : Fade) : Nat :=
  match f.dir with
  | .fadeIn => f.pos * fadeStep f.length
  | .fadeOut => 4096 - f.pos * fadeStep f.length

/-! ## Tick history and speed -/

/-- A tick period as entered into the history (R23). -/
def historyEntry (micros : Nat) : Nat := max 1 (min 65535 micros)

/-- The history with a new entry, the oldest dropped (R23). -/
def History.push (h : History) (e : Nat) : History := ⟨h.e2, h.e3, h.e4, e⟩

/-- The sum of the four entries (R25). -/
def History.sum (h : History) : Nat := h.e1 + h.e2 + h.e3 + h.e4

/-- The speed ratio (R25): 80 000 000 divided by the sum, rounded to nearest with halves up, clamped; 0 while STALLED. -/
def speedRatio (stalled : Bool) (h : History) : Nat :=
  if stalled then 0 else min 20000 ((160000000 + h.sum) / (2 * h.sum))

/-! ## Codes of request arguments (R197: the order of the values in the rule that owns them, counting from 0) -/

/-- Mode codes (R18). -/
def modeOfCode (c : Byte) : Option Mode :=
  match c.toNat with
  | 0 => some .unloaded
  | 1 => some .stop
  | 2 => some .play
  | 3 => some .record
  | 4 => some .cue
  | 5 => some .wind
  | _ => none

/-- Codes of a field whose values are listed "yes, no" (R18). DEDUCED (log entry 5): yes is code 0 and no code 1. -/
def yesNoOfCode (c : Byte) : Option Bool :=
  match c.toNat with
  | 0 => some true
  | 1 => some false
  | _ => none

/-- Fault mode codes (R158). -/
def faultModeOfCode (c : Byte) : Option FaultMode :=
  match c.toNat with
  | 0 => some .latched
  | 1 => some .auto
  | 2 => some .warn
  | 3 => some .off
  | _ => none

/-- Fault kind codes (R158). -/
def faultKindOfCode (c : Byte) : Option FaultKind :=
  match c.toNat with
  | 1 => some .servo
  | 2 => some .confirm
  | 3 => some .input
  | 4 => some .clog
  | 5 => some .position
  | 6 => some .uncorr
  | 7 => some .rate
  | _ => none

/-- The code of a fault kind (R158). -/
def codeOfFaultKind : FaultKind → Nat
  | .servo => 1
  | .confirm => 2
  | .input => 3
  | .clog => 4
  | .position => 5
  | .uncorr => 6
  | .rate => 7

/-- Record rate codes (R41). -/
def rateCode (c : Byte) : Option Rate := rateOfCode c.toNat

/-- Audio source codes (R41). -/
def sourceOfCode (c : Byte) : Option AudioSource :=
  match c.toNat with
  | 0 => some .analog
  | 1 => some .digital
  | _ => none

/-- Analog rights codes (R41). -/
def analogOfCode (c : Byte) : Option CopyState :=
  match c.toNat with
  | 0 => some .copyOpen
  | 1 => some .copyOne
  | _ => none

/-- Monitor mode codes (R92). -/
def monitorOfCode (c : Byte) : Option MonitorMode :=
  match c.toNat with
  | 0 => some .auto
  | 1 => some .input
  | 2 => some .tape
  | _ => none

/-- Verify source codes (R174). -/
def pathOfCode (c : Byte) : Option ReadPath :=
  match c.toNat with
  | 0 => some .pre
  | 1 => some .conf
  | _ => none

/-- The two claims (R187). -/
inductive ClaimKind where
  | edit | transport
  deriving DecidableEq, Repr

/-- Claim codes (R187). -/
def claimOfCode (c : Byte) : Option ClaimKind :=
  match c.toNat with
  | 0 => some .edit
  | 1 => some .transport
  | _ => none

/-- The value an optional code argument names: the outer none when it is given and lies outside its set, the inner none
when it is left out (R197). -/
def optCode {α : Type} (f : Byte → Option α) : Option Byte → Option (Option α)
  | none => some none
  | some c => (f c).map some

/-! ## Repair settings (R85) -/

/-- P brought into 1..8. -/
def bringP (v : Nat) : Nat := max 1 (min 8 v)

/-- H brought into 0..64. -/
def bringH (v : Nat) : Nat := min 64 v

/-- M brought to an allowed value: itself, else the next above, else the largest. -/
def bringM (v : Nat) : Nat :=
  if v ≤ 16 then 16 else if v ≤ 32 then 32 else if v ≤ 64 then 64 else if v ≤ 128 then 128 else 256

/-- U brought to an allowed value: itself, else the next above, else the largest. -/
def bringU (v : Nat) : Nat :=
  if v ≤ 64 then 64 else if v ≤ 128 then 128 else if v ≤ 256 then 256 else if v ≤ 512 then 512 else 1024

/-! ## Edit entries (R118, R119, R199) -/

/-- What a fetch takes an entry's action for (R123): codes 5, 6 and 7 are fetched as NOP. -/
inductive EntryAction where
  | nop | punch | assemble | mark | link
  deriving DecidableEq, Repr

/-- The action of an entry (R118, R123). -/
def entryAction (e : EditEntry) : EntryAction :=
  match e.action.toNat with
  | 1 => .punch
  | 2 => .assemble
  | 3 => .mark
  | 4 => .link
  | _ => .nop

/-- Whether an entry is a REHEARSE punch (R118): the other actions are always RECORD. -/
def isRehearsal (e : EditEntry) : Bool := entryAction e == .punch && e.mode == 1#1

/-- Whether an entry records new audio: PUNCH or ASSEMBLE. -/
def recordsNew (e : EditEntry) : Bool := entryAction e == .punch || entryAction e == .assemble

/-- The source field of an entry (R118). -/
def entrySource (e : EditEntry) : AudioSource := if e.source = 0#1 then .analog else .digital

/-- Whether an entry's channel set holds a channel (R118, R199): ASSEMBLE and MARK are always BOTH. -/
def entryHasChannel (e : EditEntry) (ch : Channel) : Bool :=
  if entryAction e = .punch then
    match ch with
    | .left => e.channels != 2#2
    | .right => e.channels != 1#2
  else true

/-- The marker of an entry, absent when its kind is 0 (R199). -/
def entryMarker (e : EditEntry) : Option Marker :=
  match e.markerKind.toNat with
  | 1 => some ⟨.start, e.markerNumber.toNat⟩
  | 2 => some ⟨.skip, e.markerNumber.toNat⟩
  | _ => none

/-- The in-address of an entry (R118). -/
def entryIn (e : EditEntry) : Option (Afa × Nat) :=
  if e.inPresent then some (e.inAfa.toNat, e.inOffset.toNat) else none

/-- The out-address of an entry (R118); MARK takes none (R132). -/
def entryOut (e : EditEntry) : Option (Afa × Nat) :=
  if e.outPresent && recordsNew e then some (e.outAfa.toNat, e.outOffset.toNat) else none

/-- The start AFA of an entry (R118), an ASSEMBLE's field. -/
def entryStart (e : EditEntry) : Option Afa :=
  if e.startPresent && entryAction e == .assemble then some e.startAfa.toNat else none

/-- The link target of an entry (R118, R199): bits 32..51 whatever the in present bit holds; 0..31 once written. -/
def entryTarget (e : EditEntry) : Fin 32 := ⟨e.inAfa.toNat % 32, Nat.mod_lt _ (by decide)⟩

/-- Whether EDIT WRITE refuses an entry with RANGE (R119, R199): an enumerated field that belongs to the action, or the
marker kind, outside its set, or a numeric field that is present out of range. -/
def entryOutOfRange (e : EditEntry) : Bool :=
  (entryAction e == .punch && e.channels == 3#2)
  || (recordsNew e && (decide (4 < e.fadeIn.toNat) || decide (4 < e.fadeOut.toNat)))
  || e.markerKind == 3#2
  || (e.markerKind != 0#2 && decide (999 < e.markerNumber.toNat))
  || (e.inPresent && decide (959 < e.inOffset.toNat))
  || (e.outPresent && decide (959 < e.outOffset.toNat))
  || (entryAction e == .link && decide (31 < e.inAfa.toNat))

/-- An entry as the list stores it (R199): the value bits of an absent address, start AFA or marker are 0. A LINK entry
keeps its link target whatever the in present bit holds. -/
def storedEntry (e : EditEntry) : EditEntry :=
  { e with
    inAfa := if e.inPresent || entryAction e == .link then e.inAfa else 0
    inOffset := if e.inPresent then e.inOffset else 0
    outAfa := if e.outPresent then e.outAfa else 0
    outOffset := if e.outPresent then e.outOffset else 0
    startAfa := if e.startPresent then e.startAfa else 0
    markerNumber := if e.markerKind = 0#2 then 0 else e.markerNumber }

/-- Entry bits 5..61 (R199). -/
def entryBitsLow (e : EditEntry) : BitVec 57 :=
  e.action ++ (BitVec.ofBool e.endFlag ++ (e.mode ++ (e.channels ++ (e.source ++ (e.fadeIn ++ (e.fadeOut ++
    (e.markerKind ++ (e.markerNumber ++ (BitVec.ofBool e.inPresent ++ (e.inAfa ++ e.inOffset))))))))))

/-- Entry bits 62..113 (R199). -/
def entryBitsHigh (e : EditEntry) : BitVec 52 :=
  BitVec.ofBool e.outPresent ++ (e.outAfa ++ (e.outOffset ++ (BitVec.ofBool e.startPresent ++ e.startAfa)))

/-- The payload of EDIT READ (R199): entry number, part, held, and the half of the entry that the part names. -/
def entryHalfBits (k : BitVec 5) (part held : Bool) (e : EditEntry) : BitVec 96 :=
  if part then k ++ (BitVec.ofBool true ++ (BitVec.ofBool held ++ (entryBitsHigh e ++ 0#37)))
  else k ++ (BitVec.ofBool false ++ (BitVec.ofBool held ++ (entryBitsLow e ++ 0#32)))

end Sys2Proof.Machine
end

