-- ==== Sys2Proof/Machine/Payload.lean ====
section
/-! DEFINITION. The codes of a response and its 12 payload bytes (R195, R198). A payload of a few numbers, codes and flags has
them in bytes of their own, in the order of its rule (log entry 3). The others, whose fields do not fit so, carry every field
of their rule with its most significant bit first; the places of the fields are a free value. -/

namespace Sys2Proof.Machine

open Sys2Proof

/-! ## Codes -/

/-- Sequencer state codes (R198). -/
def codeOfSeq : SeqState → Nat
  | .idle => 0
  | .armed => 1
  | .recording => 2
  | .closing => 3
  | .held => 4
  | .fault => 5

/-- Error kind codes (R198). -/
def codeOfError : Option ErrorKind → Nat
  | none => 0
  | some .late => 1
  | some .range => 2
  | some .rate => 3
  | some .position => 4
  | some .loop => 5
  | some .mode => 6
  | some .tapeProtected => 7
  | some .writeOff => 8
  | some .denied => 9
  | some .input => 10
  | some .transport => 11
  | some .write => 12
  | some .unloaded => 13

/-- Result codes (R198). -/
def codeOfResult : ResultCode → Nat
  | .ok => 0
  | .clamped => 1
  | .noClaim => 2
  | .held => 3
  | .busy => 4
  | .state => 5
  | .range => 6
  | .unknown => 7
  | .frame => 8
  | .none => 9

/-! ## Payload fields that stand in bytes of their own -/

/-- A flag in a byte of its own, 1 when set, in the least significant bit as R197 gives it for arguments. -/
def flagField (b : Bool) : Byte := 0#7 ++ BitVec.ofBool b

/-- A number or a code in a byte. -/
def byteField (n : Nat) : Byte := BitVec.ofNat 8 n

/-- A number in two bytes, most significant byte first (R195). -/
def wordField (n : Nat) : BitVec 16 := BitVec.ofNat 16 n

/-- An event set in two bytes, as the event mask of R197. -/
def maskField (e : EventSet) : BitVec 16 := 0#3 ++ e

/-- The number of a port, 0 for none. -/
def portField : Option Port → Byte
  | none => 0
  | some .p1 => 1
  | some .p2 => 2
  | some .p3 => 3

/-- Codes by the order of the values (R18). -/
def codeOfMode : Mode → Nat
  | .unloaded => 0
  | .stop => 1
  | .play => 2
  | .record => 3
  | .cue => 4
  | .wind => 5

/-- Codes by the order of the values "yes, no" (R18; log entry 5). -/
def codeOfYes (b : Bool) : Nat := if b then 0 else 1

/-- Codes by the order of the values (R174). -/
def codeOfVerify : VerifyState → Nat
  | .idle => 0
  | .waiting => 1
  | .scanning => 2
  | .pass => 3
  | .fail => 4
  | .stopped => 5

/-- Codes by the order of the values (R92). -/
def codeOfMonitor : MonitorMode → Nat
  | .auto => 0
  | .input => 1
  | .tape => 2

/-- Codes by the order of the values (R92). -/
def codeOfOutput : OutputSource → Nat
  | .pre => 0
  | .conf => 1
  | .blend => 2
  | .newPath => 3

/-- Codes by the order of the values (R41). -/
def codeOfAudio : AudioSource → Nat
  | .analog => 0
  | .digital => 1

/-- Codes by the order of the values (R22). -/
def codeOfDirection : Direction → Nat
  | .forward => 0
  | .reverse => 1

/-! ## Payloads whose fields do not fit in bytes of their own -/

/-- The payloads that carry more fields than twelve bytes hold one by one (R114, R115, R143, R157, R160, R171, R172, R174). -/
inductive PayloadForm where
  | sequencer | position | indexEntry | rights | faultSummary | kindRecord (k : FaultKind)
  | faultRecord (k : FaultKind) | faultClear | verifyPage0 | verifyPage1
  deriving DecidableEq, Repr

/-- The bits of the fields of one kind's record (R158): those of every kind, and the columns of UNCORR's detail (R167). -/
def recordWidths (k : FaultKind) : List Nat := [2, 1, 1, 1, 8, 1, 20, 4, 20] ++ if k = .uncorr then [6, 6] else []

/-- The bits of the fields of a form, in the order of the rule that names them. A field that may be absent or none has a
present bit of its own before its value, as R197 gives one to an optional argument, or a code 0. -/
def PayloadForm.widths : PayloadForm → List Nat
  | .sequencer => [3, 5, 1, 5, 1, 1, 1, 6, 1, 1, 5, 32, 4, 1, 5, 3, 1, 20]
  | .position => [2, 20, 2, 8, 16, 1, 1, 20, 7, 1, 8]
  | .indexEntry => [1, 20, 1, 10, 1, 7, 1, 8]
  | .rights => [1, 2, 1, 1, 1, 1, 8, 2, 2, 1, 2, 2, 2, 2, 2, 1, 2, 2, 2, 1, 2, 2, 1, 1]
  | .faultSummary => (List.replicate 7 [2, 1, 1, 1]).flatten ++ [3, 10, 10]
  | .kindRecord k => recordWidths k
  | .faultRecord k =>
    recordWidths k ++
      match k with
      | .clog => (List.replicate 4 [3, 1, 1]).flatten
      | .rate => [10, 4]
      | .servo | .confirm | .input | .position | .uncorr => []
  | .faultClear => (List.replicate 7 [1, 1, 1]).flatten
  | .verifyPage0 => [3, 1, 1, 20, 20, 7, 1, 16, 8, 2]
  | .verifyPage1 => [3, 1, 20, 1, 1, 20, 1, 7, 7, 2]

/-- A flag as a bit, 1 when set (R198). A field of these payloads whose two values are yes and no, or locked and unlocked, is
taken as a flag that is set at yes and at locked (DESIGN CHOICE, log entry 55). -/
def bitOf (b : Bool) : Nat := if b then 1 else 0

/-- An AFA that may be absent: its present bit and its value, 0 when absent. -/
def afaValues (a : Option Afa) : List Nat := [bitOf a.isSome, a.getD 0]

/-- Codes by the order of the values (R96). -/
def codeOfPosState : PosState → Nat
  | .unknown => 0
  | .blank => 1
  | .read => 2
  | .reckoned => 3

/-- Codes by the order of the values "none, 48K, 44K1" (R96). -/
def codeOfHeldRate : Option Rate → Nat
  | none => 0
  | some r => codeOfRate r + 1

/-- Codes by the order of the values (R142). -/
def codeOfDetail : ErrorDetail → Nat
  | .absent => 0
  | .rightsNone => 1
  | .rightsUnstated => 2
  | .notRecord => 3
  | .noLock => 4
  | .speed => 5
  | .address => 6

/-- Codes by the order of the values (R144). -/
def codeOfState : SourceState → Nat
  | .rightsOpen => 0
  | .rightsOne => 1
  | .rightsNone => 2
  | .rightsUnstated => 3

/-- Codes by the order of the values (R145). -/
def codeOfLink : LinkClass → Nat
  | .pro => 0
  | .consumer => 1

/-- Codes by the order of the values (R145). -/
def codeOfGeneration : Generation → Nat
  | .original => 0
  | .copy => 1

/-- Codes by the order of the values (R158). -/
def codeOfFaultMode : FaultMode → Nat
  | .latched => 0
  | .auto => 1
  | .warn => 2
  | .off => 3

/-- Codes by the order of the values; a read path and a track stand in the order of R56. -/
def codeOfPath : ReadPath → Nat
  | .pre => 0
  | .conf => 1

/-- Codes by the order of the values (R8). -/
def codeOfTrack : Track → Nat
  | .a => 0
  | .b => 1

/-- The detail of a raise: which one it is, in the order of R161 to R168, with its AFA, identity, head or sum. -/
def detailValues : FaultDetail → List Nat
  | .absent => [0, 0]
  | .servoNoLock => [1, 0]
  | .servoStalled => [2, 0]
  | .servoSpeed => [3, 0]
  | .confirm .columns a => [4, a]
  | .confirm .notRead a => [5, a]
  | .inputUnlocked => [6, 0]
  | .inputRate => [7, 0]
  | .clogHead p t => [8, 2 * codeOfPath p + codeOfTrack t]
  | .positionRange a => [9, a]
  | .positionJump a => [10, a]
  | .uncorr (.afa a) _ _ => [11, a]
  | .uncorr (.lowBits t) _ _ => [12, t.toNat]
  | .uncorr .absent _ _ => [13, 0]
  | .rateSum n => [14, n]

/-- The uncorrectable columns of the two tracks that the detail of UNCORR gives (R167). -/
def columnValues : FaultDetail → List Nat
  | .uncorr _ ca cb => [ca, cb]
  | .absent | .servoNoLock | .servoStalled | .servoSpeed | .confirm .. | .inputUnlocked | .inputRate | .clogHead ..
  | .positionRange _ | .positionJump _ | .rateSum _ => [0, 0]

/-- Codes by the order of the values, 0 for none (R174). -/
def codeOfStop : Option StopCause → Nat
  | none => 0
  | some .request => 1
  | some .range => 2
  | some .unload => 3

/-- Codes by the order of the values (R176). -/
def codeOfVerifyCause : VerifyCause → Nat
  | .blocks => 0
  | .columns => 1
  | .position => 2

/-- The sequencer fields of STATUS (R143). -/
def SeqView.values (v : SeqView) : List Nat :=
  [codeOfSeq v.state, v.pointer.val, bitOf v.held.isSome, (v.held.getD 0).val, bitOf v.kept, bitOf v.holdPending
   , bitOf v.abortPending, v.guard, bitOf v.lastClose.isSome] ++
  (match v.lastClose with
    | some (.complete, k) => [0, k.val]
    | some (.aborted, k) => [1, k.val]
    | none => [0, 0]) ++
  [v.baked.toNat] ++
  match v.error with
  | none => [0, 0, 0, 0, 0, 0]
  | some e =>
    [codeOfError (some e.kind), if e.phase = .fetch then 0 else 1, e.entry.val, codeOfDetail e.detail] ++ afaValues e.afa

/-- The position record and index summary of READ POSITION (R114). -/
def PositionView.values (v : PositionView) : List Nat :=
  [codeOfPosState v.state, v.afa, codeOfHeldRate v.rate, v.lastGeneration, v.framesSince, bitOf v.candidateHeld
   , bitOf v.candidateInRange, v.candidateAfa.getD 0, v.entries, bitOf v.indexFull, v.changeCount.toNat]

/-- The rights state of READ RIGHTS (R157). The receiver lock (R144) and the copy-permits (R145) are flags, 1 for locked and for
yes, and not codes by the order of their values (DESIGN CHOICE, log entry 55). -/
def RightsView.values (v : RightsView) : List Nat :=
  [bitOf v.lock, v.historyCount] ++
  (match v.accepted with
    | none => [0, 0, 0, 0, 0]
    | some a => [1, codeOfLink a.cls, bitOf a.permit, codeOfGeneration a.generation, a.tag.toNat]) ++
  [codeOfState v.digital, codeOfState v.analog, codeOfAudio v.selected, codeOfState v.selectedState
   , match v.grantState with | none => 0 | some c => codeOfCopy c + 1
   , codeOfState v.period, codeOfState v.tape.copy, codeOfClass v.tape.cls] ++
  (match v.candidate with
    | none => [0, 0, 0]
    | some k => [1, codeOfCopy k.copy, codeOfClass k.cls]) ++
  [codeOfOutput v.source, bitOf v.switching, codeOfState v.outputCopy, codeOfCopy v.word.copy, bitOf v.word.permit
   , codeOfGeneration v.word.generation]

/-- One kind's line of READ FAULTS (R172). -/
def FaultLine.values (l : FaultLine) : List Nat := [codeOfFaultMode l.mode, bitOf l.present, bitOf l.action, bitOf l.seen]

/-- One kind's record (R158, R160), with the columns of UNCORR's detail (R167). -/
def FaultRecord.values (k : FaultKind) (r : FaultRecord) : List Nat :=
  [codeOfFaultMode r.mode, bitOf r.present, bitOf r.action, bitOf r.seen, r.count] ++ afaValues r.firstAfa ++
    detailValues r.detail ++ if k = .uncorr then columnValues r.detail else []

/-- What READ FAULTS adds to the record of CLOG, its heads, and of RATE, its window (R172). -/
def addedValues (hs : List ClogHead) (w : Option (Nat × Nat)) : List Nat :=
  hs.flatMap (fun h => [h.count, bitOf h.present, bitOf h.action]) ++
    match w with
    | none => []
    | some (sum, n) => [sum, n]

/-- One kind's line of CLEAR FAULTS (R171). -/
def ClearLine.values (l : ClearLine) : List Nat := [bitOf l.present, bitOf l.action, bitOf l.seen]

/-- Page 0 of VERIFY READ (R174). -/
def VerifyView.values (v : VerifyView) : List Nat :=
  [codeOfVerify v.state, codeOfPath v.source] ++ afaValues v.start ++
    [v.stop, v.threshold, bitOf v.loop, v.checked, v.passes, codeOfStop v.stopCause]

/-- The first failure of a scan (R174). -/
def failureValues : Option VerifyFailure → List Nat
  | none => [0, 0, 0, 0, 0, 0, 0]
  | some f => [1] ++ afaValues f.afa ++ [codeOfTrack f.track, f.flagged, f.uncorr, codeOfVerifyCause f.cause]

/-- The form of a payload with the values of its fields, none for one whose fields have bytes of their own. -/
def Payload.laid : Payload → Option (PayloadForm × List Nat)
  | .sequencer v => some (.sequencer, v.values)
  | .position v => some (.position, v.values)
  | .indexEntry e n full count => some (.indexEntry,
      (match e with
        | none => [0, 0, 0, 0, 0]
        | some x => [1, x.start, codeOfMarker (some x.kind) - 1, x.number, if x.origin = .read then 0 else 1]) ++
      [n, bitOf full, count.toNat])
  | .rights v => some (.rights, v.values)
  | .faultSummary ls code high low => some (.faultSummary, ls.flatMap FaultLine.values ++ [code, high, low])
  | .kindRecord k r => some (.kindRecord k, r.values k)
  | .faultRecord k r hs w => some (.faultRecord k, r.values k ++ addedValues hs w)
  | .faultClear ls => some (.faultClear, ls.flatMap ClearLine.values)
  | .verifyPage0 v => some (.verifyPage0, v.values)
  | .verifyPage1 st last f => some (.verifyPage1, [codeOfVerify st] ++ afaValues last ++ failureValues f)
  | .zeros | .portView .. | .claimHolder _ | .eventSets .. | .ackSets .. | .transport _ | .entryHalf _ | .counters ..
  | .verifyState _ | .verifyClamped .. | .monitor .. | .entryNumber _ | .seqState _ | .writeEnable _ | .recordSettings .. | .repairSettings _
  | .thresholds .. | .modeRecord .. => none

/-! ### The places of the fields -/

/-- Whether a field is a value of more than one byte (R195). -/
def wide (w : Nat) : Bool := decide (8 < w)

/-- Whether 96 bits hold the fields of given widths with whole bytes for each value of more than one byte. Those of page 0 of
STATUS they do not hold so. -/
def roomy (ws : List Nat) : Bool := decide ((ws.map fun w => if wide w then (w + 7) / 8 * 8 else w).sum ≤ 96)

/-- What the manual says of the places of a payload's fields (R195, R198): each field has bits of its own among the 96, in one
piece, and the bytes used stand from byte 4 onward with no byte left out. A value of more than one byte "stands at the low end
of its bytes", and any other within one byte. Where there is room the bits above a value at the low end of its bytes are no
other field's, so that they are zero. `fs` lists the fields' widths with the bits before them. -/
def PlacesFit (fs : List (Nat × Nat)) : Prop :=
  (∀ f ∈ fs, f.2 + f.1 ≤ 96) ∧ fs.Pairwise (fun f g => f.2 + f.1 ≤ g.2 ∨ g.2 + g.1 ≤ f.2) ∧
    (∀ f ∈ fs, ∀ j, j < f.2 / 8 → ∃ g ∈ fs, g.2 / 8 ≤ j ∧ j ≤ (g.2 + g.1 - 1) / 8) ∧
    (∀ f ∈ fs, if wide f.1 then (f.2 + f.1) % 8 = 0 else f.2 / 8 = (f.2 + f.1 - 1) / 8) ∧
    (roomy (fs.map (·.1)) = true → ∀ f ∈ fs, wide f.1 = true → ∀ g ∈ fs, g.2 + g.1 ≤ f.2 / 8 * 8 ∨ f.2 ≤ g.2)

/-- Whether a list of places suits a form. -/
def PayloadForm.Suits (f : PayloadForm) (os : List Nat) : Prop :=
  os.length = f.widths.length ∧ PlacesFit (f.widths.zip os)

/-- Whether a list of places suits a form is a question about finitely many bits. -/
@[reducible] def PayloadForm.suitsDec (f : PayloadForm) : DecidablePred f.Suits := fun os => by
  unfold PayloadForm.Suits PlacesFit; infer_instance

/-- Some places suit every form: the values of more than one byte first, the others packed behind them. -/
theorem PayloadForm.exists_suits (f : PayloadForm) : ∃ os, f.Suits os := by
  unfold PayloadForm.Suits PlacesFit
  cases f with
  | sequencer => exact ⟨[69, 64, 62, 72, 63, 85, 86, 56, 87, 93, 80, 0, 32, 94, 88, 77, 95, 36], by decide⟩
  | position => exact ⟨[88, 4, 90, 64, 24, 87, 92, 44, 80, 93, 72], by decide⟩
  | indexEntry => exact ⟨[55, 4, 56, 30, 57, 48, 58, 40], by decide⟩
  | rights =>
    exact ⟨[34, 8, 35, 36, 37, 38, 0, 10, 12, 39, 14, 16, 18, 20, 22, 40, 24, 26, 28, 41, 30, 32, 42, 43], by decide⟩
  | faultSummary =>
    exact ⟨[35, 39, 50, 51, 37, 52, 53, 54, 40, 55, 56, 57, 42, 58, 59, 60, 44, 61, 62, 63, 46, 64, 65, 66, 48, 67, 68, 69,
      32, 6, 22], by decide⟩
  | kindRecord k =>
    cases k with
    | uncorr => exact ⟨[62, 70, 71, 76, 48, 77, 4, 72, 28, 56, 64], by decide⟩
    | servo => exact ⟨[60, 62, 63, 64, 48, 65, 4, 56, 28], by decide⟩
    | confirm => exact ⟨[60, 62, 63, 64, 48, 65, 4, 56, 28], by decide⟩
    | input => exact ⟨[60, 62, 63, 64, 48, 65, 4, 56, 28], by decide⟩
    | clog => exact ⟨[60, 62, 63, 64, 48, 65, 4, 56, 28], by decide⟩
    | position => exact ⟨[60, 62, 63, 64, 48, 65, 4, 56, 28], by decide⟩
    | rate => exact ⟨[60, 62, 63, 64, 48, 65, 4, 56, 28], by decide⟩
  | faultRecord k =>
    cases k with
    | uncorr => exact ⟨[62, 70, 71, 76, 48, 77, 4, 72, 28, 56, 64], by decide⟩
    | clog =>
      exact ⟨[70, 63, 75, 76, 48, 77, 4, 56, 28, 60, 78, 79, 64, 80, 81, 67, 82, 83, 72, 84, 85], by decide⟩
    | rate => exact ⟨[80, 82, 83, 84, 64, 85, 4, 72, 28, 54, 76], by decide⟩
    | servo => exact ⟨[60, 62, 63, 64, 48, 65, 4, 56, 28], by decide⟩
    | confirm => exact ⟨[60, 62, 63, 64, 48, 65, 4, 56, 28], by decide⟩
    | input => exact ⟨[60, 62, 63, 64, 48, 65, 4, 56, 28], by decide⟩
    | position => exact ⟨[60, 62, 63, 64, 48, 65, 4, 56, 28], by decide⟩
  | faultClear => exact ⟨[0, 1, 2, 3, 4, 5, 6, 7, 8, 9, 10, 11, 12, 13, 14, 15, 16, 17, 18, 19, 20], by decide⟩
  | verifyPage0 => exact ⟨[80, 79, 85, 4, 28, 72, 86, 48, 64, 83], by decide⟩
  | verifyPage1 => exact ⟨[64, 55, 4, 63, 69, 28, 70, 48, 56, 67], by decide⟩

/-- How many bits of the payload stand before each field of a form (log entry 3): the free value, if it is what the manual
says, else some places that are. -/
@[irreducible] def PayloadForm.places (f : PayloadForm) : List Nat :=
  withProperty f.suitsDec f.exists_suits (Config.payloadPlaces f.widths)

/-- What the manual says of the places holds of the part's. -/
theorem PayloadForm.places_suit (f : PayloadForm) : f.Suits f.places := by
  unfold PayloadForm.places
  exact withProperty_spec f.suitsDec f.exists_suits (Config.payloadPlaces f.widths)

/-- Values laid down in fields of given widths at given places, most significant bit first, all other bits 0. -/
def layFields : List (Nat × Nat) → List Nat → BitVec 96
  | (w, o) :: fs, v :: vs => (BitVec.ofNat 96 (v % 2 ^ w) <<< (96 - o - w)) ||| layFields fs vs
  | _, _ => 0

/-- The payload bytes 4..15 of a response (R198): "its fields from byte 4 onward, and the bytes it does not use read 0". The
zeros of R178 and R181 and the halves of R199 are the manual's. DEDUCED (log entry 3): a payload of a few numbers, codes and
flags carries them in the order its rule gives them, each in the form that R195 and R197 give an argument of its kind, as
the worked response of chapter 11 carries a sequencer state. The places of the fields of the other payloads are a free
value. -/
def payloadBits (p : Payload) : BitVec 96 :=
  match p with
  | .zeros => 0
  | .entryHalf bits => bits
  | .seqState st => byteField (codeOfSeq st) ++ 0#88
  | .claimHolder h => portField h ++ 0#88
  | .portView q e t r a ev =>
    portField (some q) ++ (portField e ++ (portField t ++ (maskField r ++ (maskField a ++ (maskField ev ++ 0#24)))))
  | .eventSets r a ev => maskField ev ++ (maskField r ++ (maskField a ++ 0#48))
  | .ackSets before after => maskField before ++ (maskField after ++ 0#64)
  | .counters c0 c1 c2 => c0 ++ (c1 ++ c2)
  | .verifyState v => byteField (codeOfVerify v) ++ 0#88
  | .verifyClamped v thr => byteField (codeOfVerify v) ++ (byteField thr ++ 0#80)
  | .monitor m src sw => byteField (codeOfMonitor m) ++ (byteField (codeOfOutput src) ++ (flagField sw ++ 0#72))
  | .entryNumber k => 0#3 ++ (k ++ 0#88)
  | .writeEnable on => flagField on ++ 0#88
  | .recordSettings rate src analog =>
    byteField (codeOfRate rate) ++ (byteField (codeOfAudio src) ++ (byteField (codeOfCopy analog) ++ 0#72))
  | .repairSettings r => byteField r.p ++ (byteField r.h ++ (wordField r.m ++ (wordField r.u ++ 0#48)))
  | .thresholds high low => wordField high ++ (wordField low ++ 0#64)
  | .modeRecord m l pr =>
    byteField (codeOfMode m) ++ (byteField (codeOfYes l) ++ (byteField (codeOfYes pr) ++ 0#72))
  | .transport v =>
    byteField (codeOfMode v.mode) ++ (byteField (codeOfYes v.lock) ++ (byteField (codeOfYes v.prot) ++
      (byteField (codeOfDirection v.dir) ++ (wordField v.ratio ++ (flagField v.stalled ++ (flagField v.decodeRange ++
        (flagField v.writeWindow ++ 0#24)))))))
  | .sequencer _ | .position _ | .indexEntry .. | .rights _ | .faultSummary .. | .kindRecord ..
  | .faultRecord .. | .faultClear _
  | .verifyPage0 _ | .verifyPage1 .. =>
    match p.laid with
    | some (f, vs) => layFields (f.widths.zip f.places) vs
    | none => 0

end Sys2Proof.Machine
end

