-- ==== Sys2Proof/Machine/Flags.lean ====
section
/-! DEFINITION. Every flag and derived condition the manual gives: transport conditions (R26, R28), event sets and the
attention line (R190, R193), source selection and usability (R35, R37), the restriction order and the output rights word
(R148, R149, R155), fault flags (R172), and the response frame with its summary (R185, R198). -/

namespace Sys2Proof.Machine

open Sys2Proof

/-! ## Transport conditions -/

/-- Decode range (R26). -/
def decodeRange (t : Transport) : Bool :=
  (t.mode == .play || t.mode == .record) && !t.stalled && t.dir == .forward && decide (875 ≤ t.ratio) &&
    decide (t.ratio ≤ 1125)

/-- The speed and direction conditions of the write window (R28). -/
def writeSpeed (t : Transport) : Bool :=
  !t.stalled && t.dir == .forward && decide (990 ≤ t.ratio) && decide (t.ratio ≤ 1010)

/-- The write window (R28). -/
def writeWindow (t : Transport) : Bool := t.mode == .record && t.lock && !t.prot && writeSpeed t

/-- Whether the sample clock follows the ticks (R30). -/
def clockFollows (t : Transport) : Bool := !t.stalled && decide (875 ≤ t.ratio) && decide (t.ratio ≤ 1125)

/-- The SERVO condition with its detail (R161): the first of NO LOCK, STALLED and SPEED that applies. -/
def servoCondition (t : Transport) : Option FaultDetail :=
  if t.mode = .play ∨ t.mode = .record then
    if !t.lock then some .servoNoLock
    else if t.stalled then some .servoStalled
    else if t.ratio < 850 ∨ 1150 < t.ratio then some .servoSpeed
    else none
  else none

/-- The decoder state the transport's conditions call for (R57). -/
def stateCalledFor (path : ReadPath) (t : Transport) : DecoderState :=
  if decodeRange t then .decoding
  else match path with
    | .pre => if t.mode = .cue ∧ t.stalled = false then .subcode else .idle
    | .conf => .idle

/-! ## Event sets -/

/-- The bit of an event kind in the event mask (R197). -/
def Event.bit : Event → Nat
  | .seqDone => 0
  | .seqFault => 1
  | .gateOpened => 2
  | .gateClosed => 3
  | .faultRaised => 4
  | .faultEnded => 5
  | .positionJump => 6
  | .indexChanged => 7
  | .markerSeen => 8
  | .rightsChanged => 9
  | .verifyDone => 10
  | .claimLost => 11
  | .modeChanged => 12

/-- The set that holds one kind. -/
def Event.single (e : Event) : EventSet := BitVec.ofNat 13 (2 ^ e.bit)

/-- Whether a set holds a kind. -/
def EventSet.has (s : EventSet) (e : Event) : Bool := s.getLsbD e.bit

/-- The set an event mask names, none when it names a kind outside the 13 (R197). -/
def eventSetOfMask (m : BitVec 16) : Option EventSet := if m.toNat < 8192 then some (BitVec.ofNat 13 m.toNat) else none

/-- A port's attention line (R193). -/
def attentionLine (c : PortContext) : Bool := c.events &&& c.attn != 0

/-- A port that takes notice of an event (R190): it adds the kind if its report-enable set holds it. -/
def PortContext.notice (c : PortContext) (e : Event) : PortContext :=
  if EventSet.has c.report e then { c with events := c.events ||| e.single } else c

/-! ## The selected source -/

/-- The entry held by the sequencer, with its number. -/
def heldEntry (s : State) : Option (Fin 32 × EditEntry) := s.seq.held.map fun k => (k, s.editList[k])

/-- The selected source (R35). -/
def selectedSource (s : State) : AudioSource :=
  match heldEntry s with
  | some (_, e) => if recordsNew e then entrySource e else s.formatter.defaultSource
  | none => s.formatter.defaultSource

/-- Whether the DIGITAL source is usable (R37). -/
def usable (s : State) : Bool := s.rights.lock && s.formatter.linkRate == some (.known s.formatter.recordRate)

/-- The priming level of the input FIFO (R38). -/
def primingLevel : AudioSource → Nat
  | .analog => 16
  | .digital => 1024

/-! ## Rights -/

/-- A copy state as a source state. -/
def sourceOfCopy : CopyState → SourceState
  | .copyOpen => .rightsOpen
  | .copyOne => .rightsOne
  | .copyNone => .rightsNone

/-- A source state as output (R155): UNSTATED is output as NONE. -/
def copyOfSource : SourceState → CopyState
  | .rightsOpen => .copyOpen
  | .rightsOne => .copyOne
  | .rightsNone => .copyNone
  | .rightsUnstated => .copyNone

/-- The place of a source state in the restriction order (R148). -/
def restriction : SourceState → Nat
  | .rightsOpen => 0
  | .rightsOne => 1
  | .rightsNone => 2
  | .rightsUnstated => 2

/-- The more restrictive of two source states (R148). -/
def moreRestrictive (a b : SourceState) : SourceState :=
  if restriction a < restriction b then b
  else if restriction b < restriction a then a
  else if a = .rightsUnstated then a else b

/-- The more restrictive of two copy states (R15, R153, R156). -/
def maxCopy (a b : CopyState) : CopyState := if codeOfCopy a < codeOfCopy b then b else a

/-- The digital source state that an accepted record gives (R147). -/
def digitalStateOf : Option AcceptedRecord → SourceState
  | none => .rightsUnstated
  | some r =>
    match r.cls, r.permit, r.generation with
    | .pro, _, _ => .rightsOpen
    | .consumer, true, _ => .rightsOpen
    | .consumer, false, .original => .rightsOne
    | .consumer, false, .copy => .rightsNone

/-- The written state for a grant (R149), none when the recording is refused. -/
def grantState : SourceState → Option CopyState
  | .rightsOpen => some .copyOpen
  | .rightsOne => some .copyNone
  | .rightsNone => none
  | .rightsUnstated => none

/-- The written state in a frame's copy state (R149). -/
def writtenState : SourceState → CopyState
  | .rightsOpen => .copyOpen
  | .rightsOne => .copyNone
  | .rightsNone => .copyNone
  | .rightsUnstated => .copyNone

/-- The state of a source (R147, R148). -/
def stateOfSource (s : State) : AudioSource → SourceState
  | .digital => s.rights.digital
  | .analog => sourceOfCopy s.formatter.analogRights

/-- The state of the selected source (R148). -/
def selectedState (s : State) : SourceState := stateOfSource s (selectedSource s)

/-- The copy state formed for an output source (R155). -/
def sourceCopy (s : State) : OutputSource → SourceState
  | .pre => s.rights.tape.copy
  | .conf => moreRestrictive s.rights.tape.copy (selectedState s)
  | .blend => moreRestrictive s.rights.tape.copy (selectedState s)
  | .newPath => selectedState s

/-- The output copy state before UNSTATED is taken as NONE (R155). -/
def outputCopy (s : State) : SourceState :=
  match s.monitor.switch with
  | some w => moreRestrictive (sourceCopy s w.src) (sourceCopy s w.dst)
  | none => sourceCopy s s.monitor.source

/-- The output rights word of a copy state as output (R155). -/
def wordOf : CopyState → OutputWord
  | .copyOpen => ⟨.copyOpen, true, .original⟩
  | .copyOne => ⟨.copyOne, false, .original⟩
  | .copyNone => ⟨.copyNone, false, .copy⟩

/-- The output source the monitor mode calls for (R92). -/
def sourceCalledFor (s : State) : OutputSource :=
  match s.monitor.mode with
  | .auto => if s.seq.held.isSome then .blend else .pre
  | .input => .newPath
  | .tape => if s.formatter.gate = .opened then .conf else .pre

/-! ## Faults -/

/-- A fault kind's record (R158). -/
def FaultRecords.get (r : FaultRecords) : FaultKind → FaultRecord
  | .servo => r.servo
  | .confirm => r.confirm
  | .input => r.input
  | .clog => r.clog
  | .position => r.position
  | .uncorr => r.uncorr
  | .rate => r.rate

/-- The records with one kind's record replaced. -/
def FaultRecords.set (r : FaultRecords) (k : FaultKind) (f : FaultRecord) : FaultRecords :=
  match k with
  | .servo => { r with servo := f }
  | .confirm => { r with confirm := f }
  | .input => { r with input := f }
  | .clog => { r with clog := f }
  | .position => { r with position := f }
  | .uncorr => { r with uncorr := f }
  | .rate => { r with rate := f }

/-- The kinds in order of priority (R158). -/
def faultKinds : List FaultKind := [.servo, .confirm, .input, .clog, .position, .uncorr, .rate]

/-- The fault code of the summary (R172). -/
def faultCode (r : FaultRecords) : Nat :=
  match faultKinds.find? fun k => (r.get k).action with
  | some k => codeOfFaultKind k
  | none =>
    match faultKinds.find? fun k => (r.get k).seen with
    | some k => codeOfFaultKind k
    | none => 0

/-- FAULT of the summary (R172). -/
def faultFlag (r : FaultRecords) : Bool := faultKinds.any fun k => (r.get k).action

/-- WARN of the summary (R172). -/
def warnFlag (r : FaultRecords) : Bool := faultKinds.any fun k => (r.get k).seen && !(r.get k).action

/-- A head of the four (R56, R165). -/
def ClogHeads.get (h : ClogHeads) : ReadPath → Track → ClogHead
  | .pre, .a => h.preA
  | .pre, .b => h.preB
  | .conf, .a => h.confA
  | .conf, .b => h.confB

/-- The heads with one replaced. -/
def ClogHeads.set (h : ClogHeads) (path : ReadPath) (t : Track) (c : ClogHead) : ClogHeads :=
  match path, t with
  | .pre, .a => { h with preA := c }
  | .pre, .b => { h with preB := c }
  | .conf, .a => { h with confA := c }
  | .conf, .b => { h with confB := c }

/-- The four heads in order. -/
def ClogHeads.list (h : ClogHeads) : List ClogHead := [h.preA, h.preB, h.confA, h.confB]

/-- The override flag of a stream (R73): set while its head's CLOG action is in force. -/
def overrideFlag (s : State) (path : ReadPath) (t : Track) : Bool := (s.faults.heads.get path t).action

/-- Whether a repair unit gives out its samples in decode range (R26, R83): the SERVO action makes it treat every sample
as given out outside decode range (R161). -/
def repairInRange (s : State) : Bool := decodeRange s.transport && !s.faults.records.servo.action

/-! ## Ports and the response frame -/

/-- A port's context. -/
def Ports.get (p : Ports) : Port → PortContext
  | .p1 => p.p1
  | .p2 => p.p2
  | .p3 => p.p3

/-- The ports with one context replaced. -/
def Ports.set (p : Ports) (q : Port) (c : PortContext) : Ports :=
  match q with
  | .p1 => { p with p1 := c }
  | .p2 => { p with p2 := c }
  | .p3 => { p with p3 := c }

/-- The holder of a claim (R187). -/
def Claims.holder (c : Claims) : ClaimKind → Option Port
  | .edit => c.edit
  | .transport => c.transport

/-- The claims with one holder replaced. -/
def Claims.setHolder (c : Claims) (k : ClaimKind) (h : Option Port) : Claims :=
  match k with
  | .edit => { c with edit := h }
  | .transport => { c with transport := h }

/-- Whether a claim is quiet (R188). -/
def claimQuiet (s : State) : ClaimKind → Bool
  | .edit => (s.seq.state == .idle || s.seq.state == .fault) && s.formatter.gate == .closed
  | .transport => s.transport.mode == .stop || s.transport.mode == .unloaded

/-- The summary as formed at the fall of select of a port (R185). -/
def summaryOf (s : State) (p : Port) : Summary :=
  let c := s.ports.get p
  { reset := c.resetFlag, frame := c.frameError, attn := attentionLine c
    editHeld := s.claims.edit == some p, transportHeld := s.claims.transport == some p
    seq := s.seq.state, error := s.seq.error.map (·.kind), gate := s.formatter.gate
    fault := faultFlag s.faults.records, warn := warnFlag s.faults.records, faultCode := faultCode s.faults.records }

/-- The response frame (R198): summary bytes 0 to 2 with the result code, the echoed opcode, the payload. -/
def responseFrame (m : Summary) (r : Response) : Frame :=
  let byte0 : Byte := BitVec.ofBool m.reset ++ (BitVec.ofBool m.frame ++ (BitVec.ofBool m.attn ++
    (BitVec.ofBool m.editHeld ++ (BitVec.ofBool m.transportHeld ++ BitVec.ofNat 3 (codeOfSeq m.seq)))))
  let byte1 : Byte := BitVec.ofBool (m.gate == .opened) ++ (BitVec.ofBool m.fault ++ (BitVec.ofBool m.warn ++
    (BitVec.ofNat 3 m.faultCode ++ 0#2)))
  let byte2 : Byte := BitVec.ofNat 4 (codeOfError m.error) ++ BitVec.ofNat 4 (codeOfResult r.result)
  byte0 ++ (byte1 ++ (byte2 ++ (r.echo ++ payloadBits r.payload)))

/-- The response frame that a port gives out in its exchange in progress (R179): none when no exchange is in progress. -/
def shiftedOut (s : State) (p : Port) : Option Frame :=
  match (s.ports.get p).select with
  | .exchange m r => some (responseFrame m r)
  | .high => none
  | .waitRise => none

/-- The bit a port gives out at clock `k` of its exchange in progress, counted from 0 (R179): the response frame, most
significant bit of byte 0 first, and zeros beyond the 128th clock. -/
def shiftedBit (s : State) (p : Port) (k : Nat) : Option Bool :=
  (shiftedOut s p).map fun f => if k < 128 then f.getLsbD (127 - k) else false

end Sys2Proof.Machine
end

