-- ==== Sys2Proof/Machine/Blocks.lean ====
section
/-! DEFINITION. What the write streams carry (R5 to R9, R52, R200): the matrix of a built frame, its outer-check rows, and
the 60 blocks of each track. They follow from a `BuiltFrame`, so State holds the frame and not the blocks. -/

namespace Sys2Proof.Machine

open Sys2Proof

/-- The sample in slot `n` of a track of a built frame (R3, R43). -/
def BuiltFrame.slot (f : BuiltFrame) (t : Track) (n : Nat) : Sample :=
  match channelOf t n with
  | .left => f.left.getD n 0
  | .right => f.right.getD n 0

/-- The data symbol in a data row and column of a track (R4, R5). -/
def BuiltFrame.dataSymbol (f : BuiltFrame) (t : Track) (r col : Nat) : Symbol :=
  if col % 2 = 0 then highSymbol (f.slot t (slotAt r col)) else lowSymbol (f.slot t (slotAt r col))

/-- The 48 data symbols of a column, in row order. -/
def BuiltFrame.dataColumn (f : BuiltFrame) (t : Track) (col : Nat) : List Symbol :=
  (List.range 48).map fun r => f.dataSymbol t r col

/-- A row of a track's matrix: a data row, or an outer-check row 48..55 (R5, R6). -/
def BuiltFrame.row (f : BuiltFrame) (t : Track) (r : Nat) : List Symbol :=
  (List.range 40).map fun col =>
    if r < 48 then f.dataSymbol t r col else outerCheck (f.dataColumn t col) (r - 48)

/-- The payload of a block of a track (R7, R9). -/
def BuiltFrame.payload (f : BuiltFrame) (t : Track) (b : Nat) : List Symbol :=
  if b = 0 then positionPayload f.position
  else if b = 1 then rightsPayload f.rights
  else if b = 58 then programPayload f.program
  else if b = 59 then editPayload f.edit
  else f.row t (b - 2)

/-- A block as it goes out: three header symbols, 40 payload symbols, 6 inner-check symbols (R200). -/
def BuiltFrame.block (f : BuiltFrame) (t : Track) (b : Nat) : List Symbol :=
  let h := makeHeader b t f.afa
  let p := f.payload t b
  [h.s0, h.s1, h.s2] ++ p ++ (List.range 6).map (Config.innerCheck p)

/-- The 60 blocks of a track in the order they are sent (R7). -/
def BuiltFrame.blocks (f : BuiltFrame) (t : Track) : List (List Symbol) := (List.range 60).map (f.block t)

/-- What the two write streams carry in the half period under way: a track's blocks while the gate is OPEN and a frame is
being sent, else nothing (R52). -/
def writeStream (s : State) : Option (Track × List (List Symbol)) :=
  match s.formatter.gate, s.formatter.sending with
  | .opened, some (f, t) => some (t, f.blocks t)
  | _, _ => none

end Sys2Proof.Machine
end

