-- ==== Sys2Proof/Machine/Ops.lean ====
section
/-! DEFINITION. The operations that several commands share: raising events (R190), the output rights word and the monitor
selection (R92, R93, R155), fault raises and ends (R159), a change of the selected source (R35), the requests the
sequencer makes of the record formatter (R43, R49 to R51) and of the blend unit (R87 to R90), and the answer to a request
at a control port (R179 to R183). -/

namespace Sys2Proof.Machine

open Sys2Proof

/-! ## Events -/

/-- An event raised by a block reaches every port (R190). -/
def raiseEvent (e : Event) (s : State) : State :=
  { s with ports := ⟨s.ports.p1.notice e, s.ports.p2.notice e, s.ports.p3.notice e⟩ }

/-- CLAIM_LOST reaches the losing port alone (R188, R190). -/
def raiseFor (p : Port) (e : Event) (s : State) : State :=
  { s with ports := s.ports.set p ((s.ports.get p).notice e) }

/-! ## The output rights word and the monitor selection -/

/-- The rights unit forms the output rights word again; the transmitter's block keeps the most restrictive word in force
during it (R155, R156). -/
def refreshWord (s : State) : State :=
  let w := wordOf (copyOfSource (outputCopy s))
  { s with
    rights := { s.rights with word := w }
    outputs := { s.outputs with txWorst := maxCopy s.outputs.txWorst w.copy } }

/-- The blend unit finds the source called for: a difference begins a monitor switch, or is kept as the pending source
while a switch runs (R92, R93). -/
def reselect (s : State) : State :=
  let want := sourceCalledFor s
  match s.monitor.switch with
  | none =>
    if want = s.monitor.source then s
    else refreshWord { s with monitor := { s.monitor with switch := some ⟨s.monitor.source, want, 0⟩, pending := none } }
  | some w => { s with monitor := { s.monitor with pending := if want = w.dst then none else some want } }

/-! ## Fault raises and ends -/

/-- Whether a mode applies its kind's action at a raise (R159). -/
def appliesAction (m : FaultMode) : Bool := m == .latched || m == .auto

/-- One kind's record replaced. -/
def setRecord (k : FaultKind) (r : FaultRecord) (s : State) : State :=
  { s with faults := { s.faults with records := s.faults.records.set k r } }

/-- The tape map's AFA, absent when the position state is UNKNOWN (R142, R159). -/
def knownAfa (s : State) : Option Afa := if s.tapeMap.pos.state = .unknown then none else some s.tapeMap.pos.afa

/-- A raise of a kind (R159): count, detail, first-raise AFA, seen, FAULT_RAISED, and the action put in force in LATCHED
and AUTO. Handing the action to its block is `applyAction`'s. In OFF no raise happens. -/
def faultRaise (k : FaultKind) (d : FaultDetail) (s : State) : State :=
  let r := s.faults.records.get k
  if r.mode = .off then s
  else
    raiseEvent .faultRaised <| setRecord k
      { r with
        count := min 255 (r.count + 1), detail := d
        firstAfa := if r.seen then r.firstAfa else knownAfa s
        seen := true, action := r.action || appliesAction r.mode } s

/-- An action in force ends and FAULT_ENDED is raised (R159). -/
def endAction (k : FaultKind) (s : State) : State :=
  let r := s.faults.records.get k
  if r.action then raiseEvent .faultEnded (setRecord k { r with action := false } s) else s

/-- A kind's condition as just evaluated, with its detail when present: from gone to present it is a raise; when it goes,
an AUTO action ends (R159). In OFF the condition is not monitored. -/
def conditionTo (k : FaultKind) (cond : Option FaultDetail) (s : State) : State :=
  let r := s.faults.records.get k
  match cond with
  | some d =>
    if r.mode = .off ∨ r.present then s else faultRaise k d (setRecord k { r with present := true } s)
  | none =>
    if r.present then
      let s' := setRecord k { r with present := false } s
      if r.mode = .auto then endAction k s' else s'
    else s

/-- Whether evaluating a kind's condition from `s` to `s'` raised it with its action applied (R159). -/
def raisedWithAction (k : FaultKind) (s s' : State) : Bool :=
  !(s.faults.records.get k).present && (s'.faults.records.get k).present &&
    appliesAction (s'.faults.records.get k).mode

/-- The INPUT condition (R164). With the receiver locked and no rate field delivered yet, for which R164 names no detail, the
detail is RATE (DESIGN CHOICE, log entry 41). -/
def inputCondition (s : State) : Option FaultDetail :=
  if selectedSource s = .digital ∧ usable s = false then
    some (if s.rights.lock then .inputRate else .inputUnlocked)
  else none

/-- The fault monitor evaluates the INPUT condition (R164). -/
def evaluateInput (s : State) : State := conditionTo .input (inputCondition s) s

/-! ## The input FIFO and the selected source -/

/-- The input FIFO is emptied (R38). -/
def emptyFifo (s : State) : State :=
  { s with formatter := { s.formatter with fifo := [], fifoState := .priming } }

/-- One slip is counted (R38, R39). -/
def countSlip (s : State) : State :=
  { s with faults := { s.faults with counters := { s.faults.counters with slip := s.faults.counters.slip + 1 } } }

/-- A concealer put in MUTED with gain 0 (R35, R40). Its step count becomes 0, of which the rules say nothing (DESIGN CHOICE, log
entry 44). -/
def Concealer.mute (c : Concealer) : Concealer := { c with state := .muted, gain := 0, steps := 0, holdExpired := false }

/-- The period rights become the more restrictive of themselves and the state of the selected source (R148). -/
def countPeriodRights (s : State) : State :=
  { s with rights := { s.rights with period := moreRestrictive s.rights.period (selectedState s) } }

/-- What a change to a different selected source does at the formatter (R35), the rights unit (R148, R155) and the fault
monitor (R164). `s0` is the state before whatever changed the source, `s` the state after it. -/
def afterSourceChange (s0 s : State) : State :=
  if selectedSource s = selectedSource s0 then s
  else
    let s := emptyFifo s
    let s := { s with formatter := { s.formatter with
      heldPair := ⟨0, 0⟩, concealL := s.formatter.concealL.mute, concealR := s.formatter.concealR.mute } }
    evaluateInput (refreshWord (countPeriodRights s))

/-! ## Requests to the record formatter -/

/-- The number of the frame being blended and built in the present frame period (R32). -/
def blendedFrame (s : State) : FrameNo := s.transport.tick - 1

/-- The number of the frame under the record heads in the present frame period (R32). -/
def writtenFrame (s : State) : FrameNo := s.transport.tick - 2

/-- An open request (R43, R49, R50). -/
def openRequest (sp : Span) (s : State) : State :=
  if s.formatter.gate = .closed ∨ s.formatter.closePoint.isSome then
    { s with formatter := { s.formatter with pendingOpen := some sp } }
  else s

/-- The close point that a close request naming frame `g` sets (R50). With the gate OPEN, a frame already written or being
written closes it at the end of the frame being written; a FORCED close point stands, and an earlier NORMAL one too
(DESIGN CHOICE, log entry 8). -/
def closePointFor (g : FrameNo) (s : State) : ClosePoint :=
  let g' := max g (writtenFrame s)
  match s.formatter.closePoint with
  | some .forced => .forced
  | some (.normal g0) => .normal (min g0 g')
  | none => .normal g'

/-- A close request naming the last frame of the span (R50): frames after it are no longer marked, and one of them under
construction is dropped. -/
def closeRequest (g : FrameNo) (s : State) : State :=
  match s.formatter.gate, s.formatter.pendingOpen with
  | .opened, _ =>
    let cp := closePointFor g s
    let keep := match s.formatter.build, cp with
      | some b, .normal g' => decide (b.frame ≤ g')
      | _, _ => true
    { s with formatter := { s.formatter with
        closePoint := some cp, build := if keep then s.formatter.build else none
        run := if keep then s.formatter.run else none } }
  | .closed, some sp => { s with formatter := { s.formatter with closePoint := some (.normal (max g sp.first)) } }
  | .closed, none => s

/-- A forced close at the formatter (R51): the span ends, no further frame is marked, the frame under construction is
discarded; a pending open is discarded. -/
def forcedCloseRequest (s : State) : State :=
  let f := s.formatter
  match f.gate with
  | .opened =>
    { s with formatter := { f with
        closePoint := some .forced, openSpan := none, pendingOpen := none, build := none, ready := none
        run := none } }
  | .closed =>
    if f.pendingOpen.isSome then
      { s with formatter := { f with
          pendingOpen := none, closePoint := none, openSpan := none, build := none, ready := none, run := none } }
    else s

/-! ## Requests to the blend unit -/

/-- The blend channel of a channel. -/
def Blend.get (b : Blend) : Channel → BlendChannel
  | .left => b.left
  | .right => b.right

/-- The blend unit with one channel replaced. -/
def Blend.set (b : Blend) (ch : Channel) (c : BlendChannel) : Blend :=
  match ch with
  | .left => { b with left := c }
  | .right => { b with right := c }

/-- A fade-in request on a channel of its set (R87). -/
def BlendChannel.askIn (c : BlendChannel) (length offset : Nat) : BlendChannel :=
  { c with pending := some ⟨.fadeIn, length, offset, 2⟩, selected := true }

/-- A fade-in request (R87) for an entry at an in-offset. -/
def fadeInRequest (e : EditEntry) (offset : Nat) (s : State) : State :=
  let len := fadeLength e.fadeIn.toNat
  let b := s.blend
  { s with blend := { b with
      left := if entryHasChannel e .left then b.left.askIn len offset else b.left
      right := if entryHasChannel e .right then b.right.askIn len offset else b.right } }

/-- A fade-out request with a point, on a selected channel (R88). -/
def BlendChannel.askOut (c : BlendChannel) (length offset : Nat) : BlendChannel :=
  if c.selected then { c with pending := some ⟨.fadeOut, length, offset, 2⟩ } else c

/-- A fade-out request with a point (R88). -/
def fadeOutRequest (e : EditEntry) (offset : Nat) (s : State) : State :=
  let len := fadeLength e.fadeOut.toNat
  let b := s.blend
  { s with blend := { b with
      left := b.left.askOut len offset, right := b.right.askOut len offset, outAsked := true, lastFade := none } }

/-- A fade that starts at a weight (R87, R88). At position `length` it has no samples left: it is ended at once,
with its target weight. -/
def startFade (dir : FadeDir) (length g0 : Nat) : Fade := ⟨dir, length, fadeStartPos dir length g0⟩

/-- An immediate fade-out on a selected channel (R88), from the weight of its last blended sample. -/
def BlendChannel.askOutNow (c : BlendChannel) (length : Nat) : BlendChannel :=
  if c.selected then { c with pending := none, running := some (startFade .fadeOut length c.last) } else c

/-- An immediate fade-out request (R88). -/
def fadeOutNowRequest (e : EditEntry) (s : State) : State :=
  let len := fadeLength e.fadeOut.toNat
  let b := s.blend
  { s with blend := { b with
      left := b.left.askOutNow len, right := b.right.askOutNow len, outAsked := true, lastFade := none } }

/-- A cut on one channel (R89). -/
def BlendChannel.cut (c : BlendChannel) : BlendChannel := { c with weight := 0, last := 0, running := none, pending := none }

/-- A cut (R89): every weight 0, every running and pending fade cleared. -/
def cutRequest (s : State) : State :=
  { s with blend := { s.blend with
      left := s.blend.left.cut, right := s.blend.right.cut, outAsked := false, lastFade := none } }

/-- A placed sample formed again with no new audio (R90). -/
def PlacedSample.silenced (x : PlacedSample) : PlacedSample := { x with value := blendValue x.old 0 x.weight }

/-- A silence request (R90): the flag is set, and every pair of the frame being blended is formed again with the new audio
replaced by 0. A frame already complete is formed again from them by FRAME_BUILD_COMPLETE. -/
def silenceRequest (s : State) : State :=
  { s with
    blend := { s.blend with silence := true }
    formatter := { s.formatter with
      build := s.formatter.build.map fun b =>
        { b with placed := b.placed.map fun q => ⟨q.l.silenced, q.r.silenced⟩, built := none } } }

/-- The blend unit when the sequencer gives up its entry (R89): selected flags, pending fades and silence flag cleared, a
weight that is not 0 cut. -/
def releaseBlend (s : State) : State :=
  { s with blend :=
      { left := { s.blend.left.cut with selected := false }, right := { s.blend.right.cut with selected := false }
        silence := false, outAsked := false, lastFade := none } }

/-! ## Requests at a control port -/

/-- The answer to a good exchange (R179 to R181): the result and payload become the pending response, the exchange ends
and the frame-error flag is cleared. -/
def respond (p : Port) (op : Byte) (res : ResultCode) (pl : Payload) (s : State) : State :=
  let c := s.ports.get p
  { s with ports := s.ports.set p { c with response := ⟨res, op, pl⟩, frameError := false, select := .high } }

/-- Request classes (R194); TRANSPORT is that of MODE REPORT. -/
inductive RequestClass where
  | openClass | editClass | transportClass
  deriving DecidableEq, Repr

/-- Whether the claim table lets a port send a request of a class (R183). -/
def admits (s : State) (p : Port) : RequestClass → Bool
  | .openClass => true
  | .editClass => s.claims.edit == some p
  | .transportClass => s.claims.transport == some p

/-- Whether a port waits for a rise since a reset (R178): it takes nothing at that rise. -/
def waitsForRise (s : State) (p : Port) : Bool := (s.ports.get p).select == .waitRise

/-- The rise that ends such a wait (R178). -/
def endWait (p : Port) (s : State) : State :=
  { s with ports := s.ports.set p { s.ports.get p with select := .high } }

/-- The rise of select of a good exchange whose opcode names a request of class `cls` (R183): the request's own effect is
`body`, which gives the new state, the result and the payload. -/
def request (p : Port) (op : Byte) (cls : RequestClass) (body : State → State × ResultCode × Payload) (s : State) :
    State :=
  if waitsForRise s p then endWait p s
  else if admits s p cls then
    let (s', res, pl) := body s
    respond p op res pl s'
  else respond p op .noClaim .zeros s

end Sys2Proof.Machine
end

