-- ==== Sys2Proof/Machine/Repair.lean ====
section
/-! DEFINITION. The sample-by-sample work of a pair period: the channel repairers (R76 to R84), the takes from the input
FIFO and the new-path concealers (R39, R40), the blend (R86 to R91) and the pair at the outputs (R92 to R94). -/

namespace Sys2Proof.Machine

open Sys2Proof

/-! ## Channel repairers -/

/-- What a repairer gives for one sample: its new record, the value and the concealment mark (R84). -/
structure Given where
  rep : Repairer
  value : Sample
  mark : Mark
  deriving DecidableEq, Repr

/-- A given value as the last output value (R75). -/
def Repairer.give (r : Repairer) (v : Sample) (m : Mark) : Given := ⟨{ r with last := v }, v, m⟩

/-- One step of the mute ramp (R80). The step whose gain reaches 0 gives 0; MUTE_RAMP_END then enters MUTED. -/
def Repairer.rampStep (r : Repairer) : Given :=
  let j := r.steps + 1
  let g := muteGain r.startGain r.captured.m j
  { r with state := .muting, gain := g, steps := j, holdExpired := false }.give (rampValue r.rampBase g) .muted

/-- One step of the recovery ramp (R82) for the incoming value `x`. RECOVERY_END makes the channel CLEAN after step U. -/
def Repairer.recoveryStep (r : Repairer) (x : Sample) : Given :=
  let j := r.steps + 1
  let g := recoveryGain r.startGain r.captured.u j
  { r with state := .recovering, gain := g, steps := j, rampBase := x }.give (rampValue x g) .unmarked

/-- A recovery begins at the incoming value `x` (R82): the start gain is the gain reached, the present U is captured. -/
def Repairer.beginRecovery (r : Repairer) (set : RepairSettings) (x : Sample) : Given :=
  { r with startGain := r.gain, steps := 0, captured := { r.captured with u := set.u } }.recoveryStep x

/-- A held sample (R79). -/
def Repairer.holdStep (r : Repairer) : Given :=
  { r with state := .holding, steps := r.steps + 1 }.give r.last .held

/-- A gap that is not interpolated begins (R79): HOLDING, or the mute ramp when the captured H is 0. -/
def Repairer.beginHold (r : Repairer) : Given :=
  let r := { r with steps := 0, holdExpired := false }
  if r.captured.h = 0 then r.rampStep else r.holdStep

/-- The settings P, H and M captured at the beginning of a gap (R77). -/
def RepairSettings.captureGap (c set : RepairSettings) : RepairSettings := { set with u := c.u }

/-- A planned sample of an interpolated gap (R78). -/
def Repairer.planStep (r : Repairer) (p : Plan) : Given :=
  { r with plan := if p.next < p.g then some { p with next := p.next + 1 } else none }.give
    (interpolate p.a p.b p.g p.next) .interpolated

/-- A gap begins in CLEAN (R77): interpolated when its length is at most P and its right neighbour lies within the
look-ahead, held otherwise. -/
def Repairer.beginGap (r : Repairer) (set : RepairSettings) (rest : List DecodedSample) (next : List DecodedSample) :
    Given :=
  let ahead := rest ++ next.take (set.p + 1)
  let g := 1 + (ahead.takeWhile fun x => !x.good).length
  let r := { r with captured := r.captured.captureGap set }
  match (ahead.dropWhile fun x => !x.good).head? with
  | some b => if g ≤ set.p then r.planStep ⟨r.last, b.value, g, 1⟩
              else { r with rampBase := r.last, startGain := 4096 }.beginHold
  | none => { r with rampBase := r.last, startGain := 4096 }.beginHold

/-- A sample given out outside decode range (R83). -/
def Repairer.forcedStep (r : Repairer) (set : RepairSettings) : Given :=
  match r.state with
  | .clean =>
    { r with plan := none, rampBase := r.last, startGain := 4096, steps := 0
             captured := r.captured.captureGap set }.rampStep
  | .holding => { r with rampBase := r.last, startGain := 4096, steps := 0 }.rampStep
  | .recovering => { r with startGain := r.gain, steps := 0, captured := r.captured.captureGap set }.rampStep
  | .muting => r.rampStep
  | .muted => r.give 0 .muted

/-- Whether a GOOD sample begins a recovery (R81): a run of at least four GOOD samples from it onward within its
look-ahead. -/
def recoveryRun (rest next : List DecodedSample) (p : Nat) : Bool :=
  decide (4 ≤ 1 + ((rest ++ next.take (p + 1)).takeWhile (·.good)).length)

/-- A GOOD sample given out in decode range (R77 to R82). -/
def Repairer.goodStep (r : Repairer) (set : RepairSettings) (x : Sample) (rest next : List DecodedSample) : Given :=
  match r.state with
  | .clean => { r with plan := none }.give x .unmarked
  | .holding => { r with state := .clean, steps := 0, gain := 4096, holdExpired := false }.give x .unmarked
  | .muting => if recoveryRun rest next r.captured.p then r.beginRecovery set x else r.rampStep
  | .muted => if recoveryRun rest next r.captured.p then r.beginRecovery set x else r.give 0 .muted
  | .recovering => r.recoveryStep x

/-- A BAD sample given out in decode range (R77 to R82). A hold begun in RECOVERING keeps the gain of the recovery in the
gain field, where R75 says both the gain of the most recent ramp step and 4096 outside ramps (DESIGN CHOICE, log entry
36). -/
def Repairer.badStep (r : Repairer) (set : RepairSettings) (rest next : List DecodedSample) : Given :=
  match r.state with
  | .clean =>
    match r.plan with
    | some p => r.planStep p
    | none => r.beginGap set rest next
  | .holding => if r.holdExpired then { r with steps := 0 }.rampStep else r.holdStep
  | .muting => r.rampStep
  | .muted => r.give 0 .muted
  | .recovering =>
    { r with startGain := r.gain, captured := { r.captured with h := set.h, m := set.m } }.beginHold

/-- One sample of a channel repairer (R76 to R84): `x` is the sample of the output frame, `rest` the samples after it in
that frame, `next` the look-ahead frame. -/
def Repairer.step (r : Repairer) (set : RepairSettings) (inRange : Bool) (x : DecodedSample)
    (rest next : List DecodedSample) : Given :=
  if inRange then if x.good then r.goodStep set x.value rest next else r.badStep set rest next
  else r.forcedStep set

/-- One channel of a repair unit at pair index `n` (R76): beyond the output frame a sample is BAD with value 0. -/
def RepairUnit.giveLeft (u : RepairUnit) (set : RepairSettings) (inRange : Bool) (n : Nat) : Given :=
  u.left.step set inRange (u.output.left.getD n ⟨0, false⟩) (u.output.left.drop (n + 1)) u.ahead.left

/-- The right channel of a repair unit at pair index `n` (R76). -/
def RepairUnit.giveRight (u : RepairUnit) (set : RepairSettings) (inRange : Bool) (n : Nat) : Given :=
  u.right.step set inRange (u.output.right.getD n ⟨0, false⟩) (u.output.right.drop (n + 1)) u.ahead.right

/-- The counters of a path with a marked sample added (R84). -/
def PathCounters.mark (k : PathCounters) : Mark → PathCounters
  | .unmarked => k
  | .interpolated => { k with interpolated := k.interpolated + 1 }
  | .held => { k with held := k.held + 1 }
  | .muted => { k with muted := k.muted + 1 }

/-- The counters of a path after a pair given by its repair unit (R84): marks count only for a completed output frame
given out in decode range. -/
def PathCounters.pair (k : PathCounters) (counts : Bool) (l r : Given) : PathCounters :=
  if counts then (k.mark l.mark).mark r.mark else k

/-- HOLD_EXPIRY is due (R79). -/
def Repairer.holdDue (r : Repairer) : Bool :=
  r.state == .holding && !r.holdExpired && decide (r.captured.h ≤ r.steps)

/-- HOLD_EXPIRY (R79): the next concealed sample is the first step of the mute ramp. -/
def Repairer.expireHold (r : Repairer) : Repairer := if r.holdDue then { r with holdExpired := true } else r

/-- MUTE_RAMP_END is due (R80). -/
def Repairer.muteDue (r : Repairer) : Bool := r.state == .muting && decide (0 < r.steps) && r.gain == 0

/-- MUTE_RAMP_END (R80): the state becomes MUTED. -/
def Repairer.endMute (r : Repairer) : Repairer := if r.muteDue then { r with state := .muted } else r

/-- RECOVERY_END is due (R82). -/
def Repairer.recoveryDue (r : Repairer) : Bool := r.state == .recovering && decide (r.captured.u ≤ r.steps)

/-- RECOVERY_END (R82): the state becomes CLEAN and the gain stays 4096. The step count becomes 0, which R82 does not say
(DESIGN CHOICE, log entry 37). -/
def Repairer.endRecovery (r : Repairer) : Repairer :=
  if r.recoveryDue then { r with state := .clean, gain := 4096, steps := 0 } else r

/-- The ends and expiries of a repairer that are due. -/
def Repairer.settle (r : Repairer) : Repairer := r.expireHold.endMute.endRecovery

/-! ## Input FIFO and new-path concealers -/

/-- One take from the input FIFO (R39): the pair taken, none for a missing pair. -/
def takePair (s : State) : State × Option Pair :=
  let f := s.formatter
  match f.fifoState with
  | .priming => (s, none)
  | .running =>
    match f.fifo with
    | p :: rest => ({ s with formatter := { f with fifo := rest, heldPair := p } }, some p)
    | [] => (countSlip s, some f.heldPair)

/-- The arrival of a converted pair at the input FIFO (R38). -/
def fifoArrival (p : Pair) (s : State) : State :=
  let f := s.formatter
  if f.fifo.length < 2048 then
    let fifo := f.fifo ++ [p]
    let st := if f.fifoState = .priming ∧ fifo.length = primingLevel (selectedSource s) then .running else f.fifoState
    { s with formatter := { f with fifo := fifo, fifoState := st } }
  else countSlip s

/-- A concealer's output value. -/
def Concealer.give (c : Concealer) (v : Sample) : Concealer × Sample := ({ c with last := v }, v)

/-- One step of a concealer's mute ramp (R40, R80). -/
def Concealer.rampStep (c : Concealer) : Concealer × Sample :=
  let j := c.steps + 1
  let g := muteGain c.startGain c.captured.m j
  { c with state := .muting, gain := g, steps := j, holdExpired := false }.give (rampValue c.rampBase g)

/-- One step of a concealer's recovery ramp (R40, R82). -/
def Concealer.recoveryStep (c : Concealer) (x : Sample) : Concealer × Sample :=
  let j := c.steps + 1
  let g := recoveryGain c.startGain c.captured.u j
  { c with state := .recovering, gain := g, steps := j, rampBase := x }.give (rampValue x g)

/-- A real pair in MUTING or MUTED (R40). -/
def Concealer.beginRecovery (c : Concealer) (set : RepairSettings) (x : Sample) : Concealer × Sample :=
  { c with startGain := c.gain, steps := 0, captured := { c.captured with u := set.u } }.recoveryStep x

/-- A held value (R40). -/
def Concealer.holdStep (c : Concealer) : Concealer × Sample :=
  { c with state := .holding, steps := c.steps + 1 }.give c.last

/-- A gap of the new path begins (R40). -/
def Concealer.beginHold (c : Concealer) : Concealer × Sample :=
  let c := { c with steps := 0, holdExpired := false }
  if c.captured.h = 0 then c.rampStep else c.holdStep

/-- One take through a concealer (R40): `some x` for a real pair's value, none for a missing pair. A hold begun in RECOVERING
keeps the gain field as a channel repairer does (log entry 36). -/
def Concealer.step (c : Concealer) (set : RepairSettings) (x : Option Sample) : Concealer × Sample :=
  match x, c.state with
  | some x, .live => c.give x
  | some x, .holding => { c with state := .live, steps := 0, gain := 4096, holdExpired := false }.give x
  | some x, .muting => c.beginRecovery set x
  | some x, .muted => c.beginRecovery set x
  | some x, .recovering => c.recoveryStep x
  | none, .live =>
    { c with rampBase := c.last, startGain := 4096, captured := c.captured.captureGap set }.beginHold
  | none, .holding => if c.holdExpired then { c with steps := 0 }.rampStep else c.holdStep
  | none, .muting => c.rampStep
  | none, .muted => c.give 0
  | none, .recovering =>
    { c with startGain := c.gain, captured := { c.captured with h := set.h, m := set.m } }.beginHold

/-- NEW_PATH_HOLD_EXPIRY is due (R40). -/
def Concealer.holdDue (c : Concealer) : Bool :=
  c.state == .holding && !c.holdExpired && decide (c.captured.h ≤ c.steps)

/-- NEW_PATH_HOLD_EXPIRY (R40): the next missing take begins the mute ramp. -/
def Concealer.expireHold (c : Concealer) : Concealer := if c.holdDue then { c with holdExpired := true } else c

/-- NEW_PATH_MUTE_END is due (R40). -/
def Concealer.muteDue (c : Concealer) : Bool := c.state == .muting && decide (0 < c.steps) && c.gain == 0

/-- NEW_PATH_MUTE_END (R40): the concealer outputs 0 in MUTED. -/
def Concealer.endMute (c : Concealer) : Concealer := if c.muteDue then { c with state := .muted } else c

/-- NEW_PATH_RECOVERY_END is due (R40). -/
def Concealer.recoveryDue (c : Concealer) : Bool := c.state == .recovering && decide (c.captured.u ≤ c.steps)

/-- NEW_PATH_RECOVERY_END (R40): the concealer returns to LIVE, its step count 0 (DESIGN CHOICE, log entry 37). -/
def Concealer.endRecovery (c : Concealer) : Concealer :=
  if c.recoveryDue then { c with state := .live, gain := 4096, steps := 0 } else c

/-- The ends and expiries of a concealer that are due. -/
def Concealer.settle (c : Concealer) : Concealer := c.expireHold.endMute.endRecovery

/-! ## Blend -/

/-- A running fade has samples left. -/
def Fade.live (f : Fade) : Bool := decide (f.pos < f.length)

/-- The weight that a fade leaves behind at its end (R87, R88). -/
def FadeDir.target : FadeDir → Nat
  | .fadeIn => 4096
  | .fadeOut => 0

/-- One blended sample of a channel (R86 to R91): `o` the repaired old value with its mark, `n` the new value. -/
def BlendChannel.sample (c : BlendChannel) (o n : Sample) (m : Mark) : BlendChannel × PlacedSample :=
  match c.running with
  | some f =>
    if f.live then
      let g := fadeWeight f
      ({ c with weight := g, last := g, running := some { f with pos := f.pos + 1 } }, ⟨blendValue o n g, o, g, m, some f.dir⟩)
    else
      let g := f.dir.target
      ({ c with weight := g, last := g, running := none }, ⟨blendValue o n g, o, g, m, none⟩)
  | none => ({ c with last := c.weight }, ⟨blendValue o n c.weight, o, c.weight, m, none⟩)

/-- PENDING_FADE_START is due on a channel before the sample with pair index `n` (R87). -/
def BlendChannel.startDue (c : BlendChannel) (n : Nat) : Bool :=
  c.pending.any fun p => p.ticks == 0 && decide (p.offset ≤ n)

/-- The weight a fade begins from: that held for a fade-in (R87), that of the last blended sample for a fade-out (R88). -/
def BlendChannel.fadeFrom (c : BlendChannel) : FadeDir → Nat
  | .fadeIn => c.weight
  | .fadeOut => c.last

/-- PENDING_FADE_START (R87, R88): the pending fade becomes the running fade. -/
def BlendChannel.start (c : BlendChannel) (n : Nat) : BlendChannel :=
  match c.pending with
  | some p =>
    if p.ticks = 0 ∧ p.offset ≤ n then
      { c with pending := none, running := some (startFade p.dir p.length (c.fadeFrom p.dir)) }
    else c
  | none => c

/-- FADE_IN_END is due on a channel (R87). -/
def BlendChannel.inEndDue (c : BlendChannel) : Bool := c.running.any fun f => f.dir == .fadeIn && !f.live

/-- FADE_IN_END (R87): the running fade ends and the weight is 4096. -/
def BlendChannel.inEnd (c : BlendChannel) : BlendChannel :=
  if c.inEndDue then { c with running := none, weight := 4096 } else c

/-- Whether a channel's fade-out has yet to start or end (R88): only a selected channel fades out. -/
def BlendChannel.fadingOut (c : BlendChannel) : Bool :=
  c.selected && ((c.pending.any fun p => p.dir == .fadeOut) || (c.running.any fun f => f.dir == .fadeOut && f.live))

/-- A finished fade-out leaves weight 0 and no running fade (R88). -/
def BlendChannel.outEnd (c : BlendChannel) : BlendChannel :=
  if c.running.any (fun f => f.dir == .fadeOut && !f.live) then { c with running := none, weight := 0, last := 0 } else c

/-- A pending fade at a frame tick (R87): one is counted off. A fade whose count already stood at 0 begins with the first
sample of the new period (log entry 9). -/
def BlendChannel.tick (c : BlendChannel) : BlendChannel :=
  { c with pending := c.pending.map fun p =>
      if p.ticks = 0 then { p with offset := 0 } else { p with ticks := p.ticks - 1 } }

/-! ## The pair at the outputs -/

/-- The pair of an output source in a pair period (R92), of the four given. -/
def sourcePair (pre conf blend new : Pair) : OutputSource → Pair
  | .pre => pre
  | .conf => conf
  | .blend => blend
  | .newPath => new

/-- The pair at the outputs before scaling (R93, R94): the output source's, or the switch's at its position. -/
def outputPair (m : Monitor) (pre conf blend new : Pair) : Pair :=
  match m.switch with
  | none => sourcePair pre conf blend new m.source
  | some w =>
    let f := sourcePair pre conf blend new w.src
    let t := sourcePair pre conf blend new w.dst
    if w.pos < 64 then ⟨blendValue f.l t.l (w.pos * 64), blendValue f.r t.r (w.pos * 64)⟩ else t

/-- The monitor selection after a pair (R93): a running switch moves by one position. -/
def Monitor.advance (m : Monitor) : Monitor := { m with switch := m.switch.map fun w => { w with pos := w.pos + 1 } }

/-- MONITOR_SWITCH_END is due (R93). -/
def switchDue (s : State) : Bool := s.monitor.switch.any fun w => decide (64 ≤ w.pos)

/-- MONITOR_SWITCH_END (R93): the to source becomes the output source, and a switch to a pending source that differs
begins. -/
def endSwitch (s : State) : State :=
  match s.monitor.switch with
  | none => s
  | some w =>
    if w.pos < 64 then s
    else
      let next := match s.monitor.pending with
        | some p => if p = w.dst then none else some ⟨w.dst, p, 0⟩
        | none => none
      refreshWord { s with monitor := { s.monitor with source := w.dst, switch := next, pending := none } }

/-! ## One pair period -/

/-- The pair index that the next pair period takes, none when the clock follows the ticks and has given the last pair
before the tick (R30). A clock that follows the ticks at a stall timeout goes on following until the next tick (DESIGN CHOICE,
log entry 49). -/
def nextPairIndex (c : SampleClock) : Option Nat :=
  if c.next < pairsPerFrame c.rate then some c.next
  else if c.following then none else some 0

/-- A blended pair handed to the formatter (R43, R91): it is placed in the frame under construction as its next pair. -/
def placePair (n : Nat) (p : PlacedPair) (s : State) : State :=
  match s.formatter.build with
  | none => s
  | some b =>
    if n = b.placed.length ∧ n < pairsPerFrame b.rate then
      { s with formatter := { s.formatter with build := some { b with placed := b.placed ++ [p] } } }
    else s

/-- Whether a blended sample is a fade-out sample of a selected channel. -/
def isOutSample (x : PlacedSample) : Bool := x.fade == some .fadeOut

/-- The work of pair period `n` (R30, R39, R40, R76, R86, R94). -/
def pairWork (n : Nat) (s : State) : State :=
  let (s, taken) := takePair s
  let set := s.settings
  let (cl, nl) := s.formatter.concealL.step set (taken.map (·.l))
  let (cr, nr) := s.formatter.concealR.step set (taken.map (·.r))
  let inRange := repairInRange s
  let pl := s.preRepair.giveLeft set inRange n
  let pr := s.preRepair.giveRight set inRange n
  let ql := s.confRepair.giveLeft set inRange n
  let qr := s.confRepair.giveRight set inRange n
  let vl := if s.blend.silence then 0 else nl
  let vr := if s.blend.silence then 0 else nr
  let (bl, xl) := s.blend.left.sample pl.value vl pl.mark
  let (br, xr) := s.blend.right.sample pr.value vr pr.mark
  let out := outputPair s.monitor ⟨pl.value, pr.value⟩ ⟨ql.value, qr.value⟩ ⟨xl.value, xr.value⟩ ⟨nl, nr⟩
  let k := s.faults.counters
  let last := if isOutSample xl || isOutSample xr then some (blendedFrame s) else s.blend.lastFade
  placePair n ⟨xl, xr⟩
    { s with
      formatter := { s.formatter with concealL := cl, concealR := cr }
      preRepair := { s.preRepair with left := pl.rep, right := pr.rep }
      confRepair := { s.confRepair with left := ql.rep, right := qr.rep }
      blend := { s.blend with left := bl, right := br, lastFade := last }
      monitor := s.monitor.advance
      outputs := { s.outputs with left := output24 out.l, right := output24 out.r, txPairs := s.outputs.txPairs + 1 }
      faults := { s.faults with counters := { k with
        pre := k.pre.pair (inRange && s.preRepair.output.completed) pl pr
        conf := k.conf.pair (inRange && s.confRepair.output.completed) ql qr } }
      clock := { s.clock with next := n + 1 } }

end Sys2Proof.Machine
end

