-- ==== Sys2Proof/Machine/SequencerOps.lean ====
section
/-! DEFINITION. The edit sequencer's own work (chapter 7): errors (R142), takes and give-ups (R121), the fetch and its checks
(R123, R124), the in-address and out-address (R126 to R130), completion (R131 to R133), forced closes (R137 to R140), the
NONE report (R141) and the tape unload (R139). -/

namespace Sys2Proof.Machine

open Sys2Proof

/-! ## The record -/

/-- The entry after an entry, 31 followed by 0. -/
def nextEntry (k : Fin 32) : Fin 32 := k + 1

/-- The sequencer's state replaced. -/
def setSeqState (st : SeqState) (s : State) : State := { s with seq := { s.seq with state := st } }

/-- An error is recorded (R142): the first since the last EDIT START stands, except that UNLOADED replaces it (R137). -/
def recordError (kind : ErrorKind) (phase : Phase) (entry : Fin 32) (detail : ErrorDetail) (s : State) : State :=
  if s.seq.error.isSome ∧ kind ≠ .unloaded then s
  else { s with seq := { s.seq with error := some ⟨kind, phase, entry, detail, knownAfa s⟩ } }

/-- Hold pending and abort pending cleared. -/
def clearPending (s : State) : State := { s with seq := { s.seq with holdPending := false, abortPending := false } }

/-- The held entry is given up (R121), which the record formatter and the blend unit hear of (R35, R89, R92). The rights unit
takes the change of the selected source before the start of the monitor switch (DESIGN CHOICE, log entry 39). -/
def giveUp (s : State) : State :=
  if s.seq.held.isSome then
    reselect (afterSourceChange s (releaseBlend { s with seq := { s.seq with held := none, kept := false } }))
  else { s with seq := { s.seq with kept := false } }

/-- Entry `k` is taken (R121, R124), the change of the selected source before the monitor switch (log entry 39). -/
def takeEntry (k : Fin 32) (s : State) : State :=
  reselect (afterSourceChange s
    { s with seq := { s.seq with state := .armed, pointer := k, held := some k, kept := false, baked := 0 } })

/-- An error found in ARMED or HELD, at a fetch or at an in-address arrival (R142): any held entry is given up, the
sequencer goes to FAULT with the pointer at the offending entry, and SEQ_FAULT is raised. -/
def seqStop (kind : ErrorKind) (detail : ErrorDetail) (k : Fin 32) (s : State) : State :=
  raiseEvent .seqFault <| giveUp <| recordError kind .fetch k detail <|
    { s with seq := { s.seq with state := .fault, pointer := k } }

/-- A walk ends (R123, R131, R136): IDLE, with the last close and SEQ_DONE. -/
def endWalk (kind : CloseKind) (k : Fin 32) (s : State) : State :=
  raiseEvent .seqDone { s with seq := { s.seq with state := .idle, lastClose := some (kind, k) } }

/-! ## Fetching and checking -/

/-- Whether an offset lies below the pairs per frame of the record rate, when its address is present (R124). -/
def offsetFits (s : State) : Option (Afa × Nat) → Bool
  | none => true
  | some (_, o) => decide (o < pairsPerFrame s.formatter.recordRate)

/-- Whether an out-address fails the span check against an in-address (R124). -/
def spanFails : Option (Afa × Nat) → Option (Afa × Nat) → Bool
  | some (ia, io), some (oa, oo) => !(decide (ia < oa) || (ia == oa && decide (io < oo))) || decide (oa < ia + 2)
  | _, _ => false

/-- Whether an entry is late against the last frame position (R124). -/
def isLate (s : State) (e : EditEntry) : Bool :=
  match s.seq.lastPosition, entryIn e with
  | some lp, some (ia, _) => decide (ia ≤ lp)
  | _, _ => false

/-- Whether a field that R118 requires is absent: the in-address of PUNCH and MARK, the marker of MARK. -/
def fieldAbsent (e : EditEntry) : Bool :=
  match entryAction e with
  | .punch => (entryIn e).isNone
  | .mark => (entryIn e).isNone || (entryMarker e).isNone
  | _ => false

/-- The first check of R124 that an entry fails. -/
def entryError (s : State) (e : EditEntry) : Option ErrorKind :=
  if fieldAbsent e then some .range
  else if recordsNew e ∧ (offsetFits s (entryIn e) && offsetFits s (entryOut e)) = false then some .range
  else if recordsNew e ∧ spanFails (entryIn e) (entryOut e) then some .range
  else if entryAction e ≠ .assemble ∧ (s.tapeMap.pos.state = .unknown ∨ s.tapeMap.pos.state = .blank) then some .position
  else if isLate s e then some .late
  else if entryAction e = .punch ∧ isRehearsal e = false ∧ s.tapeMap.pos.rate ≠ some s.formatter.recordRate then
    some .rate
  else none

/-- A PUNCH, ASSEMBLE or MARK found by a fetch at entry `p` (R123, R124). -/
def fetchFound (p : Fin 32) (s : State) : State :=
  let s := { s with seq := { s.seq with guard := 0 } }
  match entryError s s.editList[p] with
  | some err => seqStop err .absent p s
  | none => takeEntry p s

/-- A NOP or LINK passed by a fetch at entry `p` (R123): the guard counts one, and past 32 the fetch stops with LOOP; at an
end flag the walk ends; otherwise the fetch goes on, by `more`, at entry `q`. -/
def fetchPass (p q : Fin 32) (more : State → State) (s : State) : State :=
  let s := { s with seq := { s.seq with guard := s.seq.guard + 1 } }
  if 32 < s.seq.guard then seqStop .loop .absent p s
  else if s.editList[p].endFlag then endWalk .complete p s
  else more { s with seq := { s.seq with pointer := q } }

/-- A fetch (R123) of at most `fuel` entries. The guard stops every fetch by its 34th entry. -/
def fetchFrom : Nat → State → State
  | 0, s => s
  | fuel + 1, s =>
    let p := s.seq.pointer
    match entryAction s.editList[p] with
    | .nop => fetchPass p (nextEntry p) (fetchFrom fuel) s
    | .link => fetchPass p (entryTarget s.editList[p]) (fetchFrom fuel) s
    | .punch => fetchFound p s
    | .assemble => fetchFound p s
    | .mark => fetchFound p s

/-- A fetch at the pointer (R123). -/
def fetch (s : State) : State := fetchFrom 34 s

/-! ## Completion -/

/-- The held entry completes (R131). -/
def complete (s : State) : State :=
  match heldEntry s with
  | none => s
  | some (k, e) =>
    let q := s.seq
    let s := clearPending (giveUp { s with seq := { s.seq with state := .idle, pointer := k } })
    if q.error.isSome then raiseEvent .seqFault (setSeqState .fault s)
    else if q.abortPending then endWalk .aborted k s
    else if e.endFlag then endWalk .complete k s
    else if q.holdPending then { s with seq := { s.seq with state := .held, pointer := nextEntry k } }
    else fetch { s with seq := { s.seq with pointer := nextEntry k } }

/-- Whether the sequencer writes: RECORDING or CLOSING. -/
def inWrite (s : State) : Bool := s.seq.state == .recording || s.seq.state == .closing

/-- Whether the held entry is a rehearsal. -/
def heldRehearsal (s : State) : Bool := (heldEntry s).any fun x => isRehearsal x.2

/-- Whether the gate is OPEN or an open is pending. -/
def gateInPlay (s : State) : Bool := s.formatter.gate == .opened || s.formatter.pendingOpen.isSome

/-! ## Forced closes -/

/-- The end of an entry in FAULT with an error of phase RUN (R129, R137): the entry is given up, the pointer stays at it
and SEQ_FAULT is raised. -/
def failEntry (kind : ErrorKind) (detail : ErrorDetail) (k : Fin 32) (s : State) : State :=
  raiseEvent .seqFault <| giveUp <| clearPending <| recordError kind .run (nextEntry k) detail <|
    { s with seq := { s.seq with state := .fault, pointer := k } }

/-- A forced close by the sequencer (R137), for a cause that does not reach a rehearsal (R138). -/
def seqForcedClose (kind : ErrorKind) (detail : ErrorDetail) (s : State) : State :=
  match heldEntry s with
  | none => s
  | some (k, e) =>
    if inWrite s ∧ gateInPlay s ∧ isRehearsal e = false then
      failEntry kind detail k (cutRequest (forcedCloseRequest s))
    else s

/-- A forced close for an accepted jump or a tape unload, which end a rehearsal too, with no request to the formatter
(R137). -/
def seqForcedCloseAll (kind : ErrorKind) (detail : ErrorDetail) (s : State) : State :=
  match heldEntry s with
  | none => s
  | some (k, e) =>
    if inWrite s then
      failEntry kind detail k (cutRequest (if isRehearsal e then s else forcedCloseRequest s))
    else s

/-- The normal end of an ASSEMBLE when the mode leaves RECORD (R133). -/
def assembleEnd (s : State) : State := complete (cutRequest (forcedCloseRequest s))

/-- The mode leaves RECORD while the gate is OPEN (R133, R138). -/
def leftRecord (s : State) : State :=
  match heldEntry s with
  | some (_, e) =>
    if inWrite s ∧ entryAction e = .assemble then assembleEnd s else seqForcedClose .transport .notRecord s
  | none => s

/-- The loss of the write window as the transport interface hands it (R28, R138), from the transport `t` held before: the
first cause that applies of leaving RECORD, loss of servo lock, protection, and speed or direction (log entry 14). A tape
unload is handled as such (R139). -/
def windowLoss (t : Transport) (s : State) : State :=
  if writeWindow t ∧ writeWindow s.transport = false ∧ s.formatter.gate = .opened ∧ s.transport.mode ≠ .unloaded then
    if s.transport.mode ≠ .record then leftRecord s
    else if s.transport.lock = false then seqForcedClose .transport .noLock s
    else if s.transport.prot then seqForcedClose .tapeProtected .absent s
    else seqForcedClose .transport .speed s
  else s

/-- What a tape unload does at the sequencer (R139). The last frame position becomes none. In HELD with no kept entry the
error names the pointer, where R142 names no entry (DESIGN CHOICE, log entry 38). -/
def seqUnload (s : State) : State :=
  let s := { s with seq := { s.seq with lastPosition := none } }
  match s.seq.state with
  | .idle => s
  | .recording => seqForcedCloseAll .unloaded .absent s
  | .closing => seqForcedCloseAll .unloaded .absent s
  | .armed => seqStop .unloaded .absent s.seq.pointer s
  | .held => seqStop .unloaded .absent s.seq.pointer s
  | .fault =>
    match s.seq.error with
    | some r =>
      { s with seq := { s.seq with error := some { r with kind := .unloaded, detail := .absent, afa := knownAfa s } } }
    | none => recordError .unloaded .fetch s.seq.pointer .absent s

/-- An accepted jump at the sequencer (R138, R140). -/
def seqJump (s : State) : State := seqForcedCloseAll .position .absent s

/-! ## The in-address -/

/-- The first of the gate-open conditions that fails (R127). -/
def gateRefusal (s : State) (e : EditEntry) : Option (ErrorKind × ErrorDetail) :=
  if s.formatter.writeEnable = false then some (.writeOff, .absent)
  else if s.transport.prot then some (.tapeProtected, .absent)
  else if writeWindow s.transport = false then
    some (.mode, if s.transport.mode ≠ .record then .notRecord else if s.transport.lock = false then .noLock else .speed)
  else if recordsNew e then
    match selectedState s with
    | .rightsNone => some (.denied, .rightsNone)
    | .rightsUnstated => some (.denied, .rightsUnstated)
    | .rightsOpen | .rightsOne =>
      if entrySource e = .digital ∧ s.faults.records.input.action then some (.input, .absent) else none
  else none

/-- The kind of write of an entry (R43). -/
def writeKindOf (e : EditEntry) : WriteKind :=
  match entryAction e with
  | .assemble => .assemble
  | .mark => .mark
  | .punch | .nop | .link => .punch

/-- The open request of an entry for the frame completed at the present tick (R128), whose frame position `fp` was handed
with the position state `st` (R103, R122). -/
def spanOf (e : EditEntry) (fp : Option Afa) (st : PosState) (s : State) : Span :=
  { first := s.transport.tick, firstAfa := fp, kind := writeKindOf e, marker := entryMarker e, startAfa := entryStart e
    posState := st, prev := none }

/-- An entry is opened at its in-address arrival (R128). -/
def openEntry (e : EditEntry) (fp : Option Afa) (st : PosState) (offset : Nat) (s : State) : State :=
  let s := if isRehearsal e then s else openRequest (spanOf e fp st s) s
  let s := if recordsNew e then fadeInRequest e offset s else s
  setSeqState .recording s

/-- The in-address arrival of the held entry `k` (R127, R128). -/
def inArrival (k : Fin 32) (e : EditEntry) (fp : Option Afa) (st : PosState) (offset : Nat) (s : State) : State :=
  if isRehearsal e then openEntry e fp st offset s
  else match gateRefusal s e with
    | some (kind, detail) => seqStop kind detail k s
    | none => openEntry e fp st offset s

/-- A frame position taken while ARMED (R126). `decoding` says that it came with a completion in DECODING. -/
def armedPosition (fp : Option Afa) (st : PosState) (decoding : Bool) (s : State) : State :=
  match heldEntry s with
  | none => s
  | some (k, e) =>
    match entryIn e with
    | some (ia, off) =>
      match fp with
      | some p =>
        if s.transport.dir = .forward then
          if p = ia then inArrival k e fp st off s
          else if ia < p then seqStop .late .absent k s
          else s
        else s
      | none => s
    | none => if decoding ∧ writeWindow s.transport then inArrival k e fp st 0 s else s

/-- A frame position taken while RECORDING (R130). -/
def recordingPosition (fp : Option Afa) (s : State) : State :=
  match heldEntry s with
  | none => s
  | some (_, e) =>
    match entryOut e, fp with
    | some (oa, off), some p =>
      if s.transport.dir = .forward ∧ oa ≤ p then
        setSeqState .closing (fadeOutRequest e (if p = oa then off else 0) s)
      else s
    | _, _ => s

/-- A frame position at the sequencer (R122, R126, R130), with the position state after handling and whether it came with a
completion in DECODING. -/
def seqFramePosition (fp : Option Afa) (st : PosState) (decoding : Bool) (s : State) : State :=
  let s := { s with seq := { s.seq with lastPosition := fp } }
  match s.seq.state with
  | .armed => armedPosition fp st decoding s
  | .recording => recordingPosition fp s
  | .idle | .closing | .held | .fault => s

/-! ## Reports of the formatter, the blend unit and the rights unit -/

/-- A refusal of the open, or a build stop of the first frame (R129). -/
def seqRefused (kind : ErrorKind) (detail : ErrorDetail) (s : State) : State :=
  match heldEntry s with
  | none => s
  | some (k, _) => if inWrite s then failEntry kind detail k (cutRequest s) else s

/-- A build stop of a later frame (R129). -/
def seqLaterStop (kind : ErrorKind) (detail : ErrorDetail) (s : State) : State :=
  match heldEntry s with
  | none => s
  | some (k, _) =>
    if inWrite s then setSeqState .closing (recordError kind .run (nextEntry k) detail (cutRequest s)) else s

/-- The end of a fade-out naming frame `g` (R131): a close request for it; a rehearsal completes. -/
def fadeOutReport (g : FrameNo) (s : State) : State :=
  if inWrite s then if heldRehearsal s then complete s else closeRequest g s else s

/-- The end of a MARK run, naming the frame built with index 99 (R132). -/
def markRunReport (g : FrameNo) (s : State) : State :=
  match heldEntry s with
  | some (_, e) => if inWrite s ∧ entryAction e = .mark then setSeqState .closing (closeRequest g s) else s
  | none => s

/-- A GATE_CLOSED at the sequencer (R131). -/
def gateClosedReport (s : State) : State :=
  if s.seq.state = .closing ∧ s.formatter.pendingOpen = none ∧ heldRehearsal s = false then complete s else s

/-- Whether a fade-out runs on either channel. -/
def fadeOutRuns (s : State) : Bool :=
  (s.blend.left.running.any fun f => f.dir == .fadeOut) || (s.blend.right.running.any fun f => f.dir == .fadeOut)

/-- The NONE report of the rights unit (R141). -/
def noneReport (s : State) : State :=
  match heldEntry s with
  | none => s
  | some (k, e) =>
    if inWrite s ∧ recordsNew e ∧ isRehearsal e = false then
      if s.formatter.gate = .opened then
        let s := silenceRequest s
        let s := if fadeOutRuns s then s else fadeOutNowRequest e s
        setSeqState .closing (recordError .denied .run (nextEntry k) .rightsNone s)
      else if s.formatter.pendingOpen.isSome then seqForcedClose .denied .rightsNone s
      else s
    else s

/-! ## Fault actions -/

/-- A fault action handed to the sequencer (R138, R140, R161 to R167). -/
def applyAction (k : FaultKind) (s : State) : State :=
  match k with
  | .servo => seqForcedClose .transport .absent s
  | .confirm => seqForcedClose .write .absent s
  | .input => seqForcedClose .input .absent s
  | .position =>
    match s.seq.state with
    | .armed => seqStop .position .absent s.seq.pointer s
    | .recording | .closing | .idle | .held | .fault => seqForcedClose .position .absent s
  | .clog | .uncorr | .rate => s

/-- A kind's condition evaluated, and the action of a raise applied (R159). -/
def evaluate (k : FaultKind) (cond : Option FaultDetail) (s : State) : State :=
  let s' := conditionTo k cond s
  if raisedWithAction k s s' then applyAction k s' else s'

/-- The INPUT condition evaluated with its action applied (R164). -/
def evaluateInputAction (s : State) : State := evaluate .input (inputCondition s) s

/-- Operations of a control port on the selected source deliver an INPUT action that `evaluateInput` raised on the way from
`s0` to `s` (R164). -/
def deliverInput (s0 s : State) : State :=
  if raisedWithAction .input s0 s then applyAction .input s else s

/-! ## The requests -/

/-- EDIT START at entry `p` in IDLE or FAULT (R125). -/
def editStartAt (p : Fin 32) (s : State) : State :=
  fetch { s with seq := { s.seq with error := none, guard := 0, pointer := p, holdPending := false, abortPending := false } }

/-- ABORT (R136). -/
def abortWalk (s : State) : State :=
  match s.seq.state with
  | .idle => s
  | .armed => giveUp (endWalk .aborted s.seq.pointer s)
  | .held => giveUp (endWalk .aborted s.seq.pointer s)
  | .fault => setSeqState .idle s
  | .closing => { s with seq := { s.seq with abortPending := true } }
  | .recording =>
    match heldEntry s with
    | none => s
    | some (k, e) =>
      if s.formatter.pendingOpen.isSome then
        giveUp (clearPending (endWalk .aborted k (cutRequest (forcedCloseRequest s))))
      else
        let s := fadeOutNowRequest e s
        { s with seq := { s.seq with state := .closing, abortPending := true } }

/-- CONTINUE in HELD (R135). A kept entry that becomes ARMED again leaves kept entry no, of which R135 says nothing (DESIGN
CHOICE, log entry 46). -/
def continueHeld (s : State) : State :=
  match heldEntry s with
  | some (k, e) =>
    if s.seq.kept then
      if isLate s e then seqStop .late .absent k s
      else { s with seq := { s.seq with state := .armed, kept := false } }
    else fetch s
  | none => fetch s

end Sys2Proof.Machine
end

