-- ==== Sys2Proof/Machine/Decoder.lean ====
section
/-! DEFINITION. The track decoders (chapter 4): state called for, discarding, placement of an arriving block, and the
completion of an assembly with its outer decode, reliability map, packs and tally (R2, R10 to R13, R56 to R74). -/

namespace Sys2Proof.Machine

open Sys2Proof

/-! ## Decoder state -/

/-- The decoder of a path. -/
def State.decoder (s : State) : ReadPath → TrackDecoder
  | .pre => s.preDecoder
  | .conf => s.confDecoder

/-- The state with the decoder of a path replaced. -/
def State.withDecoder (s : State) (path : ReadPath) (d : TrackDecoder) : State :=
  match path with
  | .pre => { s with preDecoder := d }
  | .conf => { s with confDecoder := d }

/-- Both assemblies discarded and CURRENT's whole flag cleared (R70). -/
def TrackDecoder.discard (d : TrackDecoder) : TrackDecoder := { d with current := none, next := none, whole := false }

/-- What a decoder does when an arrival finds its state (R57). -/
def TrackDecoder.findState (d : TrackDecoder) (want : DecoderState) : TrackDecoder :=
  if want = d.state then d else { d.discard with state := want }

/-! ## Placement -/

/-- The block in a place of an assembly (R56). -/
def Assembly.place? (a : Assembly) (t : Track) (b : Nat) : Option Place :=
  a.places.find? fun p => p.track == t && p.number == b

/-- A block given to an assembly (R61): it fills a vacant place, and replaces the block in a filled one only when its
inner result ranks better. -/
def Assembly.put (a : Assembly) (p : Place) : Assembly :=
  match a.place? p.track p.number with
  | none => { a with places := a.places ++ [p] }
  | some q =>
    if resultRank q.result < resultRank p.result then
      { a with places := a.places.map fun x => if x.track = p.track ∧ x.number = p.number then p else x }
    else a

/-- The leading track (R60). -/
def leadingTrack : Direction → Track
  | .forward => .a
  | .reverse => .b

/-- The placement of a block with tag `tag` (R60 to R62). -/
def TrackDecoder.placeBlock (d : TrackDecoder) (dir : Direction) (half : HalfPeriod) (tag : Byte) (p : Place) :
    TrackDecoder :=
  let inCurrent := d.current.any fun a => a.tag == tag
  let inNext := d.next.any fun a => a.tag == tag
  if inCurrent then { d with current := d.current.map (·.put p) }
  else if inNext then { d with next := d.next.map (·.put p) }
  else if p.track = leadingTrack dir ∧ half = .second then
    match d.next with
    | none => { d with next := some ⟨tag, [p]⟩ }
    | some _ => d
  else
    match d.current with
    | none => { d with current := some ⟨tag, [p]⟩ }
    | some _ => d

/-- Whether a block of a decoder in a state is placed and not discarded (R59). -/
def acceptsBlock (st : DecoderState) (b : Nat) : Bool :=
  match st with
  | .idle => false
  | .subcode => isSubcodeBlock b
  | .decoding => isAudioBlock b || isSubcodeBlock b

/-- A decoder that takes a block arrival in its state (R59). -/
def TrackDecoder.arrival (d : TrackDecoder) (dir : Direction) (blk : BlockArrival) : TrackDecoder :=
  let res := arrivalResult blk
  let b := headerNumber blk.header
  if res = .lost ∨ acceptsBlock d.state b = false then d
  else d.placeBlock dir blk.half (headerTag blk.header) ⟨blk.track, b, res, blk.payload⟩

/-! ## Completion -/

/-- A row of a track as the outer decode takes it: its 40 symbols (none where not received) and its flag (R11, R74). -/
structure TrackRow where
  symbols : List Symbol
  flagged : Bool
  deriving DecidableEq, Repr

/-- The place of an assembly that may be EMPTY. -/
def placeOf (a : Option Assembly) (t : Track) (b : Nat) : Option Place := a.bind fun x => x.place? t b

/-- The 56 rows of a track (R7, R11): a row is flagged when its block was received FLAGGED, was taken as FLAGGED by the
override (R74), or was not received. -/
def trackRows (a : Option Assembly) (ovr : Bool) (t : Track) : List TrackRow :=
  (List.range 56).map fun r =>
    match placeOf a t (r + 2) with
    | none => ⟨[], true⟩
    | some p => ⟨p.payload, p.result == .flagged || ovr⟩

/-- A column before the outer decode: each row's symbol and flag. A padding position of a frame decoded at 44K1 is set to
0 and not counted (R2, R11). -/
def columnIn (rate : Rate) (rows : List TrackRow) (col : Nat) : List (Symbol × Bool) :=
  rows.zipIdx.map fun (x, r) => if isPadding rate r col then (0, false) else (x.symbols.getD col 0, x.flagged)

/-- The erasure count of a column (R11). -/
def erasures (c : List (Symbol × Bool)) : Nat := c.countP (·.2)

/-- The outer decode of a column (R11). -/
def decodeColumn (c : List (Symbol × Bool)) : List (Symbol × Bool) :=
  if 1 ≤ erasures c ∧ erasures c ≤ 8 then
    let known := c.map fun x => if x.2 then none else some x.1
    c.zipIdx.map fun (x, r) => if x.2 then (outerRestore known r, false) else x
  else c

/-- Whether a column is uncorrectable (R11). -/
def columnUncorrectable (c : List (Symbol × Bool)) : Bool := decide (9 ≤ erasures c)

/-- The decoded columns 0..39 of a track. -/
def decodeTrack (rate : Rate) (rows : List TrackRow) : List (List (Symbol × Bool)) :=
  (List.range 40).map fun col => decodeColumn (columnIn rate rows col)

/-- The uncorrectable columns of a track, 0..40 (R11, R65). -/
def uncorrectableColumns (rate : Rate) (rows : List TrackRow) : Nat :=
  (List.range 40).countP fun col => columnUncorrectable (columnIn rate rows col)

/-- The sample in slot `n` of a decoded track, with its reliability (R4, R12). -/
def sampleOf (cols : List (List (Symbol × Bool))) (n : Nat) : DecodedSample :=
  let h := (cols.getD (2 * colPair n) []).getD (rowOf n) (0, true)
  let l := (cols.getD (2 * colPair n + 1) []).getD (rowOf n) (0, true)
  ⟨rebuildSample h.1 l.1, !(h.2 || l.2)⟩

/-- The samples of a channel below the pairs per frame, with the reliability map (R3, R12). -/
def channelSamples (rate : Rate) (colsA colsB : List (List (Symbol × Bool))) (ch : Channel) : List DecodedSample :=
  (List.range (pairsPerFrame rate)).map fun n =>
    match trackOf ch n with
    | .a => sampleOf colsA n
    | .b => sampleOf colsB n

/-- A track's valid pack of a kind (R13), after the override (R74). -/
def trackPack {α : Type} (a : Option Assembly) (ovr : Bool) (t : Track) (b : Nat) (parse : List Symbol → Option α) :
    Option α :=
  match placeOf a t b with
  | none => none
  | some p => if ovr || p.result == .flagged || p.result == .lost then none else parse p.payload

/-- A frame's valid pack of a kind: track A's when valid, else track B's (R13). -/
def framePack {α : Type} (a : Option Assembly) (overA overB : Bool) (b : Nat) (parse : List Symbol → Option α) :
    Option α :=
  match trackPack a overA .a b parse with
  | some p => some p
  | none => trackPack a overB .b b parse

/-- The valid packs of a frame (R7, R13). -/
def assemblyPacks (a : Option Assembly) (overA overB : Bool) : FramePacks :=
  { position := framePack a overA overB 0 parsePosition
    rights := framePack a overA overB 1 parseRights
    program := framePack a overA overB 58 parseProgram
    edit := framePack a overA overB 59 parseEdit }

/-- The audio blocks of a head placed with an inner result as received (R65). -/
def countBlocks (a : Option Assembly) (t : Track) (r : InnerResult) : Nat :=
  (List.range 56).countP fun i => (placeOf a t (i + 2)).any fun p => p.result == r

/-- One head's part of the tally (R65). -/
def headTally (a : Option Assembly) (ovr : Bool) (t : Track) : HeadTally :=
  let c := countBlocks a t .clean
  let f := countBlocks a t .fixed
  let g := countBlocks a t .flagged
  ⟨c, f, g, 56 - (c + f + g), ovr⟩

/-- The identity of a completed frame (R63, R64). -/
def frameIdentity (a : Option Assembly) (packs : FramePacks) : FrameIdentity :=
  match packs.position, a with
  | some p, _ => .afa p.afa
  | none, some x => .lowBits x.tag
  | none, none => .absent

/-- A completed frame (R63): its packs, rate, samples with their map, and tally. -/
structure Completion where
  packs : FramePacks
  rate : Rate
  frame : RepairFrame
  tally : Tally
  deriving DecidableEq, Repr

/-- A completion in DECODING of an assembly (R63, R64): override, packs, rate (R2), outer decode, samples and map, tally.
`held` is the rate of the tape map's record. -/
def completeFrame (a : Option Assembly) (overA overB : Bool) (held : Option Rate) : Completion :=
  let packs := assemblyPacks a overA overB
  let rate := match packs.position with
    | some p => p.rate
    | none => held.getD .r48k
  let rowsA := trackRows a overA .a
  let rowsB := trackRows a overB .b
  let colsA := decodeTrack rate rowsA
  let colsB := decodeTrack rate rowsB
  { packs := packs, rate := rate
    frame := ⟨channelSamples rate colsA colsB .left, channelSamples rate colsA colsB .right, rate, true⟩
    tally := ⟨frameIdentity a packs, headTally a overA .a, headTally a overB .b, uncorrectableColumns rate rowsA,
      uncorrectableColumns rate rowsB⟩ }

/-- The blank note of a completion (R67): none of the 112 audio blocks placed and no valid pack. -/
def Completion.blank (c : Completion) : Bool :=
  c.tally.headA.lost == 56 && c.tally.headB.lost == 56 && c.packs == FramePacks.empty

/-- BAD entries of a completed frame's map below its pairs per frame, both channels (R66). -/
def Completion.badSamples (c : Completion) : Nat :=
  c.frame.left.countP (fun x => !x.good) + c.frame.right.countP (fun x => !x.good)

/-- What a tick makes of a decoder's CURRENT assembly (R58). -/
inductive TickResult where
  | completion (c : Completion)
  | subcode (packs : FramePacks)
  | noFrame
  deriving DecidableEq, Repr

/-- The result of a tick at a decoder (R58): a completion in DECODING, a completion in SUBCODE, or none. -/
def decoderResult (path : ReadPath) (s : State) : TickResult :=
  let d := s.decoder path
  let want := stateCalledFor path s.transport
  if want = d.state then
    match d.state with
    | .idle => .noFrame
    | .decoding =>
      if d.whole then
        .completion (completeFrame d.current (overrideFlag s path .a) (overrideFlag s path .b) s.tapeMap.pos.rate)
      else .noFrame
    | .subcode => .subcode (assemblyPacks d.current (overrideFlag s path .a) (overrideFlag s path .b))
  else .noFrame

/-- A decoder's own action at a tick (R58). -/
def TrackDecoder.tick (d : TrackDecoder) (want : DecoderState) : TrackDecoder :=
  if want = d.state then
    match d.state with
    | .idle => d
    | .decoding => { d with current := d.next, next := none, whole := true }
    | .subcode => { d with current := d.next, next := none }
  else { d.discard with state := want, whole := want == .decoding }

/-- The counters of a path with a completed frame added (R66). -/
def PathCounters.add (k : PathCounters) (c : Completion) : PathCounters :=
  let a := c.tally.headA
  let b := c.tally.headB
  { k with
    clean := k.clean + BitVec.ofNat 32 (a.clean + b.clean)
    fixed := k.fixed + BitVec.ofNat 32 (a.fixed + b.fixed)
    flagged := k.flagged + BitVec.ofNat 32 (a.flagged + b.flagged)
    lost := k.lost + BitVec.ofNat 32 (a.lost + b.lost)
    uncorr := k.uncorr + BitVec.ofNat 32 (c.tally.uncorrA + c.tally.uncorrB)
    frames := k.frames + 1
    bad := k.bad + BitVec.ofNat 32 c.badSamples }

/-- A path's counters replaced. -/
def State.withPathCounters (s : State) (path : ReadPath) (f : PathCounters → PathCounters) : State :=
  let k := s.faults.counters
  let k' := match path with
    | .pre => { k with pre := f k.pre }
    | .conf => { k with conf := f k.conf }
  { s with faults := { s.faults with counters := k' } }

/-- The arrival of a frame at a repair unit (R76). -/
def RepairUnit.handed (u : RepairUnit) (f : RepairFrame) : RepairUnit := { u with output := u.ahead, ahead := f }

/-- A repair unit of a path handed a frame. -/
def handRepair (path : ReadPath) (f : RepairFrame) (s : State) : State :=
  match path with
  | .pre => { s with preRepair := s.preRepair.handed f }
  | .conf => { s with confRepair := s.confRepair.handed f }

/-- The substitute frame handed when a decoder completes no audio frame (R69). -/
def substituteFor (s : State) : RepairFrame := substituteFrame (s.tapeMap.pos.rate.getD .r48k)

/-- The frame a tick's result hands to the repair unit (R67 to R69). -/
def TickResult.repairFrame (r : TickResult) (s : State) : RepairFrame :=
  match r with
  | .completion c => c.frame
  | .subcode _ => substituteFor s
  | .noFrame => substituteFor s

/-- The valid packs a tick's result hands on. -/
def TickResult.packs : TickResult → FramePacks
  | .completion c => c.packs
  | .subcode p => p
  | .noFrame => .empty

end Sys2Proof.Machine
end

