-- ==== Sys2Proof/Machine/TapeOps.lean ====
section
/-! DEFINITION. The tape map's own work (chapter 6): reckoning and range clamps (R98), POSITION packs and jumps (R99 to
R102), frame position (R103), blank run and edit generation (R104, R105), marker debounce and program index (R106 to
R113), tape unload (R117). -/

namespace Sys2Proof.Machine

open Sys2Proof

/-! ## The program index -/

/-- A change of the index (R106): the change count counts one and INDEX_CHANGED is raised. -/
def indexChange (s : State) : State :=
  raiseEvent .indexChanged { s with tapeMap := { s.tapeMap with changeCount := s.tapeMap.changeCount + 1 } }

/-- Whether an entry's start lies within S − 2..S + 2 (R108, R110). -/
def IndexEntry.near (e : IndexEntry) (start : Afa) : Bool := decide (e.start ≤ start + 2) && decide (start ≤ e.start + 2)

/-- The distance of an entry's start from S. -/
def IndexEntry.dist (e : IndexEntry) (start : Afa) : Nat := if e.start ≤ start then start - e.start else e.start - start

/-- The entry nearest to S among those within 2 of it, of two equally near the one with the lower start (R108, R110). The
index rises, so the first of the nearest is the lower. -/
def nearestEntry (ix : List IndexEntry) (start : Afa) : Option IndexEntry :=
  match ix.find? fun e => e.dist start == 0 with
  | some e => some e
  | none =>
    match ix.find? fun e => e.dist start == 1 with
    | some e => some e
    | none => ix.find? fun e => e.dist start == 2

/-- An entry put in its place in order (R106). -/
def insertOrdered (e : IndexEntry) : List IndexEntry → List IndexEntry
  | [] => [e]
  | x :: xs => if e.start < x.start then e :: x :: xs else x :: insertOrdered e xs

/-- The entry that starts at `start` replaced by another. -/
def replaceEntry (start : Afa) (e : IndexEntry) (ix : List IndexEntry) : List IndexEntry :=
  ix.map fun x => if x.start = start then e else x

/-- The index replaced. -/
def setIndex (ix : List IndexEntry) (s : State) : State := { s with tapeMap := { s.tapeMap with index := ix } }

/-- An insertion (R108, R110, R112): with 64 entries held it is not made and INDEX_FULL is set. -/
def insertEntry (e : IndexEntry) (s : State) : State :=
  if s.tapeMap.index.length < 64 then indexChange (setIndex (insertOrdered e s.tapeMap.index) s)
  else { s with tapeMap := { s.tapeMap with indexFull := true } }

/-- A run confirmed from reading is applied to the index (R108). -/
def applyReadRun (start : Afa) (kind : MarkerKind) (number : Nat) (s : State) : State :=
  match nearestEntry s.tapeMap.index start with
  | none => insertEntry ⟨start, kind, number, .read⟩ s
  | some e =>
    if e.kind = kind ∧ e.number = number then s
    else indexChange (setIndex (replaceEntry e.start ⟨e.start, kind, number, .read⟩ s.tapeMap.index) s)

/-- A written run at start S is applied to the index (R110). -/
def applyWrittenRun (start : Afa) (kind : MarkerKind) (number : Nat) (s : State) : State :=
  let e' : IndexEntry := ⟨start, kind, number, .written⟩
  match nearestEntry s.tapeMap.index start with
  | none => insertEntry e' s
  | some e => if e = e' then s else indexChange (setIndex (replaceEntry e.start e' s.tapeMap.index) s)

/-- A written frame that begins no run removes the entry that starts at its AFA, and so clears INDEX_FULL (R111, R112). -/
def removeWritten (afa : Afa) (s : State) : State :=
  if s.tapeMap.index.any fun e => e.start == afa then
    indexChange { s with tapeMap := { s.tapeMap with
      index := s.tapeMap.index.filter fun e => e.start != afa, indexFull := false } }
  else s

/-- A written frame handed once its track A has been sent (R52, R110, R111). -/
def handWritten (afa : Afa) (p : ProgramPack) (s : State) : State :=
  match p.marker with
  | some k => if p.runIndex = 0 then applyWrittenRun afa k p.number s else removeWritten afa s
  | none => removeWritten afa s

/-- The number the tape map gives an AUTO marker at start S (R113). -/
def autoNumber (ix : List IndexEntry) (start : Afa) : Nat :=
  match (ix.filter fun e => decide (e.start < start)).getLast? with
  | some e => min 999 (e.number + 1)
  | none => 1

/-- The index, INDEX_FULL and the debounce emptied (R116, R117). -/
def emptyIndex (s : State) : State :=
  let s' := { s with tapeMap := { s.tapeMap with index := [], indexFull := false, debounce := none } }
  if s.tapeMap.index.isEmpty then s' else indexChange s'

/-- What a tape unload does at the tape map (R117). -/
def tapeMapUnload (s : State) : State :=
  emptyIndex { s with tapeMap := { s.tapeMap with pos := .reset } }

/-! ## The position record -/

/-- An AFA moved by one frame, not clamped (R98). -/
def moveFrame (dir : Direction) (v : Int) : Int :=
  match dir with
  | .forward => v + 1
  | .reverse => v - 1

/-- The AFA after a move, with whether it was clamped (R98). -/
def moveAfa (dir : Direction) (a : Afa) : Afa × Bool :=
  match dir with
  | .forward => if a + 1 ≤ afaMax then (a + 1, false) else (afaMax, true)
  | .reverse => if a = 0 then (0, true) else (a - 1, false)

/-- The position record at a frame tick (R98), with whether the move was clamped. Dropping a candidate of age 9 is
JUMP_CANDIDATE_EXPIRY's. -/
def PositionRecord.tick (p : PositionRecord) (dir : Direction) : PositionRecord × Bool :=
  let cand := p.candidate.map fun c => { c with projected := moveFrame dir c.projected, age := c.age + 1 }
  if p.state = .unknown then ({ p with candidate := cand }, false)
  else
    let (a, clamped) := moveAfa dir p.afa
    ({ p with afa := a, candidate := cand }, clamped)

/-- JUMP_CANDIDATE_EXPIRY is due (R98). -/
def candidateDue (s : State) : Bool := s.tapeMap.pos.candidate.any fun c => decide (9 ≤ c.age)

/-- JUMP_CANDIDATE_EXPIRY (R98): a candidate whose age has become 9 is dropped. -/
def expireCandidate (s : State) : State :=
  if candidateDue s then { s with tapeMap := { s.tapeMap with pos := { s.tapeMap.pos with candidate := none } } } else s

/-- Whether two AFAs lie within the snap tolerance (R100). -/
def withinSnap (v a : Afa) : Bool := decide (v ≤ a + 2) && decide (a ≤ v + 2)

/-- A pack taken as the position (R100, R105). -/
def PositionRecord.take (p : PositionRecord) (k : PositionPack) : PositionRecord :=
  { p with state := .read, afa := k.afa, rate := some k.rate, framesSince := 0, candidate := none }

/-- What a completion with no pack taken, or a notice, does (R101). -/
def PositionRecord.carry (p : PositionRecord) : PositionRecord :=
  { p with framesSince := min 65535 (p.framesSince + 1), state := if p.state = .read then .reckoned else p.state }

/-- How a POSITION pack reached the record (R100). -/
inductive PackCase where
  | notTaken | taken | jumped
  deriving DecidableEq, Repr

/-- A valid POSITION pack at the position record (R100), taken before its completing tick, so that its present value is its
AFA and a new candidate starts with age 0 (R99). -/
def PositionRecord.pack (p : PositionRecord) (k : PositionPack) : PositionRecord × PackCase :=
  if p.state = .unknown ∨ withinSnap k.afa p.afa then
    (if p.state = .unknown then { p.take k with candidate := p.candidate } else p.take k, .taken)
  else
    match p.candidate with
    | some c =>
      if c.projected = (k.afa : Int) then (p.take k, .jumped)
      else ({ p with candidate := some ⟨k.afa, 0⟩ }.carry, .notTaken)
    | none => ({ p with candidate := some ⟨k.afa, 0⟩ }.carry, .notTaken)

/-- The POSITION pack of a completion, or none, at the position record (R100, R101). -/
def PositionRecord.handle (p : PositionRecord) (k : Option PositionPack) : PositionRecord × PackCase :=
  match k with
  | some k => p.pack k
  | none => (p.carry, .notTaken)

/-- The frame position (R103), from the record after the POSITION pack was handled. The completion is taken before its
tick, so the period value is the AFA held. -/
def framePositionOf (k : Option PositionPack) (c : PackCase) (p : PositionRecord) : Option Afa :=
  match c, k with
  | .taken, some k => some k.afa
  | .jumped, some k => some k.afa
  | _, _ => if p.state = .unknown then none else some p.afa

/-- The EDIT pack of a completion (R105). -/
def PositionRecord.edit (p : PositionRecord) (e : Option EditPack) : PositionRecord :=
  match e with
  | some e => { p with lastGeneration := e.generation }
  | none => p

/-- The blank test of a completion (R104). -/
def PositionRecord.blank (p : PositionRecord) (isBlank : Bool) : PositionRecord :=
  if isBlank then
    let n := min 8 (p.blankRun + 1)
    if p.blankRun < 8 ∧ n = 8 then { p with blankRun := n, state := .blank, rate := none, candidate := none }
    else { p with blankRun := n }
  else { p with blankRun := 0 }

/-! ## The marker debounce -/

/-- Whether a marker pack goes on with a debounce record (R107). -/
def Debounce.continues (d : Debounce) (kind : MarkerKind) (number : Nat) (start : Afa) (i : Nat) (dir : Direction) : Bool :=
  d.kind == kind && d.number == number && d.start == start &&
    match dir with
    | .forward => i == d.lastIndex + 1
    | .reverse => i + 1 == d.lastIndex

/-- The debounce after a completion's PROGRAM pack (R107): `afa` is the frame's AFA, none when it has none. -/
def nextDebounce (d : Option Debounce) (k : Option ProgramPack) (afa : Option Afa) (dir : Direction) : Option Debounce :=
  match k, afa with
  | some p, some a =>
    match p.marker with
    | none => none
    | some kind =>
      if a < p.runIndex then none
      else
        let start := a - p.runIndex
        match d with
        | some d =>
          if d.continues kind p.number start p.runIndex dir then
            some { d with count := min 3 (d.count + 1), lastIndex := p.runIndex }
          else some ⟨kind, p.number, start, p.runIndex, 1, false⟩
        | none => some ⟨kind, p.number, start, p.runIndex, 1, false⟩
  | _, _ => none

/-- The debounce after a completion, with the confirmation it may bring (R107 to R109). -/
def updateDebounce (k : Option ProgramPack) (afa : Option Afa) (dir : Direction) (s : State) : State :=
  let d := nextDebounce s.tapeMap.debounce k afa dir
  match d with
  | some r =>
    if r.count = 3 ∧ r.applied = false then
      let s := { s with tapeMap := { s.tapeMap with debounce := some { r with applied := true } } }
      let s := applyReadRun r.start r.kind r.number s
      if s.transport.mode = .play then raiseEvent .markerSeen s else s
    else { s with tapeMap := { s.tapeMap with debounce := d } }
  | none => { s with tapeMap := { s.tapeMap with debounce := none } }

/-- The AFA of a frame for the debounce (R107): its valid POSITION pack's, else its frame position. -/
def debounceAfa (k : Option PositionPack) (fp : Option Afa) : Option Afa :=
  match k with
  | some k => some k.afa
  | none => fp

/-- What the tape map does with a completion or notice after its POSITION pack (R97): EDIT pack, blank test, PROGRAM
pack. -/
def tapeMapRest (packs : FramePacks) (isBlank : Bool) (fp : Option Afa) (s : State) : State :=
  let s := { s with tapeMap := { s.tapeMap with pos := (s.tapeMap.pos.edit packs.edit).blank isBlank } }
  updateDebounce packs.program (debounceAfa packs.position fp) s.transport.dir s

end Sys2Proof.Machine
end

