-- ==== Sys2Proof/Machine/FaultOps.lean ====
section
/-! DEFINITION. The fault monitor's own work (chapter 9): SERVO, CONFIRM, CLOG, POSITION, UNCORR and RATE (R161 to R168),
mode changes (R160), tape unload (R170), CLEAR FAULTS (R171) and the verify scan (R174 to R177). -/

namespace Sys2Proof.Machine

open Sys2Proof

/-! ## Conditions -/

/-- The SERVO condition is evaluated (R161). -/
def evaluateServo (s : State) : State := evaluate .servo (servoCondition s.transport) s

/-- A report of the tape map reaches the POSITION condition (R166), tagged with the present tick. In OFF it has no effect
(R159); while the mode is UNLOADED it is dropped (R169). -/
def positionReport (d : FaultDetail) (s : State) : State :=
  if s.transport.mode = .unloaded ∨ (s.faults.records.get .position).mode = .off then s
  else evaluate .position (some d) { s with faults := { s.faults with positionTag := some s.transport.tick } }

/-- The fault monitor takes a frame tick (R166): POSITION goes when the tick is later than the last report's tag. -/
def positionTick (s : State) : State :=
  match s.faults.positionTag with
  | some t =>
    if t < s.transport.tick then
      conditionTo .position none { s with faults := { s.faults with positionTag := none } }
    else s
  | none => s

/-- The UNCORR condition at a PRE tally (R167). -/
def uncorrTally (t : Tally) (s : State) : State :=
  evaluate .uncorr (if t.uncorrA + t.uncorrB = 0 then none else some (.uncorr t.identity t.uncorrA t.uncorrB)) s

/-- The FLAGGED and LOST audio blocks of both heads together (R168, R176). -/
def Tally.unusable (t : Tally) : Nat := t.headA.flagged + t.headA.lost + t.headB.flagged + t.headB.lost

/-- A number joins the rate window, the oldest of eight dropped (R168). -/
def pushWindow (w : List Nat) (n : Nat) : List Nat := (w ++ [n]).drop (w.length + 1 - 8)

/-- The RATE condition against the thresholds for a sum (R168). -/
def rateCondition (present : Bool) (high low sum : Nat) : Bool := if present then decide (low < sum) else decide (high < sum)

/-- The RATE condition at a PRE tally (R168). In OFF the window stays at its reset value (R159). -/
def rateTally (t : Tally) (s : State) : State :=
  let r := s.faults.records.rate
  if r.mode = .off then s
  else
    let w := pushWindow s.faults.window t.unusable
    let cond := rateCondition r.present s.faults.high s.faults.low w.sum
    evaluate .rate (if cond then some (.rateSum w.sum) else none) { s with faults := { s.faults with window := w } }

/-! ## CLOG -/

/-- The CLOG record's condition and action as its heads give them (R165). -/
def clogRecord (s : State) : State :=
  let h := s.faults.heads.list
  let r := s.faults.records.clog
  setRecord .clog { r with present := h.any (·.present), action := h.any (·.action) } s

/-- One head replaced, the record following. -/
def setHead (path : ReadPath) (t : Track) (c : ClogHead) (s : State) : State :=
  clogRecord { s with faults := { s.faults with heads := s.faults.heads.set path t c } }

/-- A head's action ends: the override flag is cleared and FAULT_ENDED raised (R165, R73). -/
def endHeadAction (path : ReadPath) (t : Track) (s : State) : State :=
  let c := s.faults.heads.get path t
  if c.action then raiseEvent .faultEnded (setHead path t { c with action := false } s) else s

/-- A head's condition becomes present: a raise of the kind, whose detail names the head (R159, R165). -/
def raiseHead (path : ReadPath) (t : Track) (s : State) : State :=
  let c := s.faults.heads.get path t
  let act := c.action || appliesAction s.faults.records.clog.mode
  setHead path t { c with count := 4, present := true, action := act } (faultRaise .clog (.clogHead path t) s)

/-- A head's part of a tally (R165). -/
def clogTallyHead (path : ReadPath) (t : Track) (h : HeadTally) (s : State) : State :=
  if s.faults.records.clog.mode = .off then s
  else
    let c := s.faults.heads.get path t
    let good := h.clean + h.fixed
    if c.present then
      if 28 ≤ good then
        let s := setHead path t { c with count := 0, present := false } s
        if s.faults.records.clog.mode = .auto then endHeadAction path t s else s
      else s
    else if good = 0 then
      if c.count + 1 < 4 then setHead path t { c with count := c.count + 1 } s else raiseHead path t s
    else setHead path t { c with count := 0 } s

/-- The clog counts of a decoder's two heads at its tally (R165). The rule does not order the two; head A comes before head B,
so that of two raises the detail names head B (DESIGN CHOICE, log entry 48). -/
def clogTally (path : ReadPath) (t : Tally) (s : State) : State :=
  clogTallyHead path .b t.headB (clogTallyHead path .a t.headA s)

/-- The clog counts and head conditions at their reset values (R160, R170), the actions as given. -/
def clearHead (path : ReadPath) (t : Track) (s : State) : State :=
  let c := s.faults.heads.get path t
  setHead path t { c with count := 0, present := false } s

/-- An operation on each of the four heads in turn. -/
def eachHead (f : ReadPath → Track → State → State) (s : State) : State :=
  f .conf .b (f .conf .a (f .pre .b (f .pre .a s)))

/-! ## CONFIRM -/

/-- Whether a written-list entry matches an identity (R162). -/
def matchesIdentity (i : FrameIdentity) (w : WrittenFrame) : Bool :=
  match i with
  | .afa a => w.afa == a
  | .lowBits t => BitVec.ofNat 8 w.afa == t
  | .absent => false

/-- The written-list entry that a CONF tally matches, of several the oldest (R162). -/
def matchedEntry (t : Tally) (s : State) : Option WrittenFrame := s.formatter.written.find? (matchesIdentity t.identity)

/-- The oldest entry equal to `w` removed. -/
def removeEntry (w : WrittenFrame) (l : List WrittenFrame) : List WrittenFrame := l.erase w

/-- The outcome of checking an entry against its tally (R162): none when both tracks are left out, else whether it is
clean. -/
def checkOutcome (t : Tally) : Option Bool :=
  if t.headA.overridden ∧ t.headB.overridden then none
  else some ((t.headA.overridden || t.uncorrA == 0) && (t.headB.overridden || t.uncorrB == 0))

/-- A failed CONFIRM check (R163). -/
def confirmFailed (c : ConfirmCause) (afa : Afa) (s : State) : State := evaluate .confirm (some (.confirm c afa)) s

/-- The tag of the CONF tally taken, kept unless the kind is OFF, when trackers stay at their reset values (R159, R162). -/
def noteConf (s : State) : State :=
  if s.faults.records.confirm.mode = .off then s
  else { s with faults := { s.faults with lastConf := some s.transport.tick } }

/-- A CONF tally at the CONFIRM check (R162, R163). -/
def confirmTally (t : Tally) (s : State) : State :=
  let m := matchedEntry t s
  let s := noteConf s
  match m with
  | none => s
  | some w =>
    let s := { s with formatter := { s.formatter with written := removeEntry w s.formatter.written } }
    match checkOutcome t with
    | none => s
    | some true => conditionTo .confirm none s
    | some false => confirmFailed .columns w.afa s

/-! ## Verify scan -/

/-- The verify record replaced. -/
def setVerify (v : VerifyRecord) (s : State) : State := { s with faults := { s.faults with verify := v } }

/-- A scan stopped with a cause (R174, R177). -/
def stopScan (c : StopCause) (s : State) : State :=
  raiseEvent .verifyDone (setVerify { s.faults.verify with state := .stopped, stopCause := some c } s)

/-- Whether a scan is running. -/
def scanRuns (v : VerifyRecord) : Bool := v.state == .waiting || v.state == .scanning

/-- Whether two scan AFAs break the succession of a CONF scan (R176). -/
def scanBreaks (prev scan : Option Afa) : Bool :=
  match prev, scan with
  | some a, some b => b != a + 1
  | _, _ => false

/-- The first cause for which a checked frame fails (R176). -/
def verifyCause (v : VerifyRecord) (scan : Option Afa) (jumped : Bool) (t : Tally) : Option VerifyCause :=
  let position := match v.source with
    | .pre => jumped
    | .conf => scanBreaks v.prevScan scan
  if position then some .position
  else if t.uncorrA + t.uncorrB ≠ 0 then some .columns
  else if v.threshold < t.unusable then some .blocks
  else none

/-- The failure a frame records (R176). -/
def verifyFailureOf (c : VerifyCause) (scan : Option Afa) (t : Tally) : VerifyFailure :=
  { afa := scan
    track := if t.headA.flagged + t.headA.lost < t.headB.flagged + t.headB.lost then .b else .a
    flagged := t.unusable, uncorr := t.uncorrA + t.uncorrB, cause := c }

/-- The check of a frame in SCANNING (R176, R177). -/
def verifyCheck (scan : Option Afa) (jumped : Bool) (t : Tally) (s : State) : State :=
  let v := { s.faults.verify with state := .scanning, checked := min 65535 (s.faults.verify.checked + 1) }
  match verifyCause v scan jumped t with
  | some c =>
    raiseEvent .verifyDone (setVerify { v with state := .fail, prevScan := scan
                                               failure := some (verifyFailureOf c scan t) } s)
  | none =>
    match scan with
    | none => setVerify { v with prevScan := none } s
    | some a =>
      let v := { v with lastScan := some a, prevScan := some a }
      if a < v.stop then setVerify v s
      else if v.loop then
        setVerify { v with state := .waiting, passes := min 255 (v.passes + 1), lastScan := none, prevScan := none } s
      else raiseEvent .verifyDone (setVerify { v with state := .pass } s)

/-- A completion of a decoder in DECODING at the verify scan (R175, R176). -/
def verifyStep (path : ReadPath) (scan : Option Afa) (jumped : Bool) (t : Tally) (s : State) : State :=
  let v := s.faults.verify
  if v.source ≠ path then s
  else match v.state with
    | .waiting => if v.start.isSome ∧ scan = v.start then verifyCheck scan jumped t s else s
    | .scanning => verifyCheck scan jumped t s
    | .idle | .pass | .fail | .stopped => s

/-- What a change at the transport interface from `t` does to a scan in SCANNING (R177). -/
def verifyRange (t : Transport) (s : State) : State :=
  let v := s.faults.verify
  if v.state = .scanning ∧ ((decodeRange t ∧ decodeRange s.transport = false) ∨
      (v.source = .conf ∧ t.mode = .record ∧ s.transport.mode ≠ .record)) then
    stopScan .range s
  else s

/-! ## Tape unload -/

/-- What a tape unload does at the fault monitor (R170). -/
def faultUnload (s : State) : State :=
  let s := conditionTo .position none { s with faults := { s.faults with positionTag := none } }
  let s := conditionTo .uncorr none s
  let s := eachHead (fun p t s => endHeadAction p t (clearHead p t s)) s
  if scanRuns s.faults.verify then stopScan .unload s else s

/-! ## Requests -/

/-- A LATCHED head action whose own condition is gone ends at CLEAR FAULTS (R165, R171). -/
def clearClogHead (path : ReadPath) (t : Track) (s : State) : State :=
  if s.faults.records.clog.mode = .latched ∧ (s.faults.heads.get path t).present = false then endHeadAction path t s
  else s

/-- A LATCHED action ends at CLEAR FAULTS (R159, R171); CLOG's are its heads'. -/
def clearLatched (k : FaultKind) (s : State) : State :=
  match k with
  | .clog => eachHead clearClogHead s
  | .servo | .confirm | .input | .position | .uncorr | .rate =>
    if (s.faults.records.get k).mode = .latched then endAction k s else s

/-- CLEAR FAULTS on one kind (R171). -/
def clearKind (k : FaultKind) (s : State) : State :=
  if (s.faults.records.get k).present then
    if k = .clog then eachHead clearClogHead s else s
  else
    let s := clearLatched k s
    setRecord k { s.faults.records.get k with seen := false, count := 0, firstAfa := none, detail := .absent } s

/-- CLEAR FAULTS (R171). -/
def clearFaults (s : State) : State := faultKinds.foldl (fun s k => clearKind k s) s

/-- A kind's action in force ends (R160); CLOG's are its heads'. -/
def endKindAction (k : FaultKind) (s : State) : State :=
  match k with
  | .clog => eachHead endHeadAction s
  | .servo | .confirm | .input | .position | .uncorr | .rate => endAction k s

/-- A kind's trackers at their reset values (R159, R160): the clog counts, the tag of POSITION, the rate window, and the tag
and the handed entries of CONFIRM (log entry 26). -/
def resetTrackers (k : FaultKind) (s : State) : State :=
  match k with
  | .clog => eachHead clearHead s
  | .position => { s with faults := { s.faults with positionTag := none } }
  | .rate => { s with faults := { s.faults with window := [] } }
  | .confirm => { s with faults := { s.faults with lastConf := none, handed := [] } }
  | .servo | .input | .uncorr => s

/-- LATCHED to AUTO (R160): an action whose condition is gone ends; for CLOG head by head. -/
def endGoneAction (k : FaultKind) (s : State) : State :=
  match k with
  | .clog => eachHead (fun p t s => if (s.faults.heads.get p t).present then s else endHeadAction p t s) s
  | .servo | .confirm | .input | .position | .uncorr | .rate =>
    if (s.faults.records.get k).present then s else endAction k s

/-- A kind's mode set, its record otherwise as it stands. -/
def setMode (k : FaultKind) (m : FaultMode) (s : State) : State :=
  setRecord k { s.faults.records.get k with mode := m } s

/-- A kind's record as OFF leaves it (R160). -/
def clearedRecord (s : State) (k : FaultKind) : FaultRecord :=
  { s.faults.records.get k with
    mode := .off, present := false, seen := false, count := 0, firstAfa := none, detail := .absent }

/-- Monitoring begins from OFF (R160): INPUT, which follows state, is evaluated at once. -/
def beginMonitoring (k : FaultKind) (s : State) : State := if k = .input then evaluateInputAction s else s

/-- A change of a kind's mode (R160). -/
def changeMode (k : FaultKind) (m : FaultMode) (s : State) : State :=
  let r := s.faults.records.get k
  if r.mode = m then s
  else if m = .off then
    let s := resetTrackers k (endKindAction k s)
    setRecord k (clearedRecord s k) s
  else if r.mode = .off then beginMonitoring k (setMode k m s)
  else match m with
    | .warn => setMode k m (endKindAction k s)
    | .auto => setMode k m (if r.mode = .latched then endGoneAction k s else s)
    | .latched => setMode k m s
    | .off => s

end Sys2Proof.Machine
end

