-- ==== Sys2Proof/Machine/FormatterOps.lean ====
section
/-! DEFINITION. The record formatter's frames and gate (chapter 3): build start (R44, R45, R47, R54), build completion with
the four packs (R43, R45 to R48, R55, R153), gate test and closes (R49 to R51), tracks sent and the written list (R52,
R53), and the usability of the DIGITAL source (R37). -/

namespace Sys2Proof.Machine

open Sys2Proof

/-! ## Usability -/

/-- What a change of lock, status record or record rate, from `s0` to `s`, does by way of usability (R37): a loss empties
the input FIFO; a change is reported to the fault monitor. -/
def afterUsability (s0 s : State) : State :=
  if usable s0 = usable s then s
  else evaluateInputAction (if usable s then s else emptyFifo s)

/-! ## Build start -/

/-- The span that the frame `f` is marked in (R43, R49, R50), none when it is not marked. -/
def markedSpan (s : State) (f : FrameNo) : Option Span :=
  let m := s.formatter
  let pend := match m.pendingOpen with
    | some sp =>
      let within := match m.gate, m.closePoint with
        | .closed, some (.normal g) => decide (f ≤ g)
        | _, _ => true
      if sp.first ≤ f ∧ within then some sp else none
    | none => none
  match pend with
  | some sp => some sp
  | none =>
    match m.gate, m.openSpan, m.closePoint with
    | .opened, some sp, none => some sp
    | .opened, some sp, some (.normal g) => if f ≤ g then some sp else none
    | _, _, _ => none

/-- The old frame as kept for a frame about to be built: nothing known when the pipeline no longer holds it (R67). -/
def oldFrameFor (s : State) (f : FrameNo) : OldFrame :=
  match s.formatter.oldNow with
  | some o => o
  | none => ⟨f, none, .unknown, .absent, s.tapeMap.pos.rate.getD .r48k, none, none, none, false⟩

/-- The AFA of a frame of a span (R45). -/
def spanAfa (sp : Span) : Afa :=
  match sp.prev with
  | some (a, _) => a + 1
  | none =>
    if sp.kind = .assemble ∧ (sp.posState = .unknown ∨ sp.posState = .blank) then sp.startAfa.getD 0
    else sp.firstAfa.getD 0

/-- The rate of a frame of a span (R45). -/
def spanRate (s : State) (sp : Span) (o : OldFrame) : Rate := if sp.kind = .mark then o.rate else s.formatter.recordRate

/-- The marker run for the frame about to be built (R54): begun at the first frame of a span that carries a marker. -/
def runFor (s : State) (sp : Span) (afa : Afa) : Option MarkerRun :=
  match sp.prev with
  | some _ => s.formatter.run
  | none => sp.marker.map fun m =>
      ⟨m.kind, if m.number = 0 then autoNumber s.tapeMap.index afa else m.number, 0⟩

/-- The program number of a frame outside a run (R47). R47 does not say when the carried number is taken; it is the one held
as the building of the frame begins (DESIGN CHOICE, log entry 57). -/
def programNumber (s : State) (sp : Span) (o : OldFrame) : Nat :=
  let asRead := match o.program with
    | some p => p.number
    | none => s.formatter.carried
  match sp.kind with
  | .punch => asRead
  | .mark => asRead
  | .assemble =>
    match sp.prev with
    | some (_, n) => n
    | none => if sp.posState = .unknown ∨ sp.posState = .blank then 0 else s.formatter.carried

/-- The PROGRAM pack of a frame (R47). -/
def programFor (s : State) (sp : Span) (o : OldFrame) (run : Option MarkerRun) : ProgramPack :=
  match run with
  | some r => ⟨r.number, some r.kind, r.next⟩
  | none => ⟨programNumber s sp o, none, 0⟩

/-- A build stop with its error (R44, R129): of the first frame of a span, whose open is pending, the pending open is
cancelled; of a later frame, the span ends with a normal close after the frame being written. -/
def buildStop (sp : Span) (kind : ErrorKind) (detail : ErrorDetail) (s : State) : State :=
  if sp.prev.isNone ∧ s.formatter.pendingOpen.isSome then
    seqRefused kind detail { s with formatter := { s.formatter with
      pendingOpen := none, closePoint := if s.formatter.gate = .opened then s.formatter.closePoint else none
      build := none, run := none } }
  else seqLaterStop kind detail (closeRequest (writtenFrame s) s)

/-- The span's record of the last frame built in it (R45, R47). -/
def noteBuilt (f : FrameNo) (sp : Span) (m : Formatter) : Formatter :=
  match m.pendingOpen with
  | some p => if p.first ≤ f ∧ p.first = sp.first then { m with pendingOpen := some sp } else { m with openSpan := some sp }
  | none => { m with openSpan := some sp }

/-- The building of the marked frame `f` of a span begins (R43, R45, R47, R54). -/
def beginBuild (f : FrameNo) (sp : Span) (o : OldFrame) (s : State) : State :=
  let afa := spanAfa sp
  let run := (runFor s sp afa).filter fun r => r.next < 100
  let program := programFor s sp o run
  let b : Build :=
    { frame := f, afa := afa, rate := spanRate s sp o, kind := sp.kind, program := program, old := o, placed := []
      built := none }
  { s with formatter := { noteBuilt f { sp with prev := some (afa, program.number) } s.formatter with
      build := some b, run := run.map fun r => { r with next := r.next + 1 } } }

/-- The start of building at a tick (R43, R44): the frame blended in the period that begins, if it is marked and the rate
and address checks let it. R44 does not order the two checks; of a frame that fails both the cause is RATE (DESIGN CHOICE, log
entry 53). -/
def buildStart (s : State) : State :=
  let f := blendedFrame s
  match markedSpan s f with
  | none => s
  | some sp =>
    let o := oldFrameFor s f
    if spanRate s sp o ≠ s.clock.rate then buildStop sp .rate .absent s
    else if afaMax < spanAfa sp then buildStop sp .range .address s
    else beginBuild f sp o s

/-! ## Build completion -/

/-- The samples of a channel placed in a frame, slots not placed and padding taking 0 (R43). -/
def slotsOf (placed : List PlacedPair) (rate : Rate) (ch : PlacedPair → PlacedSample) : List Sample :=
  let given := (placed.take (pairsPerFrame rate)).map fun p => (ch p).value
  given ++ List.replicate (960 - given.length) 0

/-- Every placed sample of both channels. -/
def placedSamples (b : Build) : List PlacedSample := b.placed.map (·.l) ++ b.placed.map (·.r)

/-- Whether any sample has a new weight above 0 (R46, R153). -/
def hasNewWeight (b : Build) : Bool := (placedSamples b).any fun x => decide (0 < x.weight)

/-- Whether any sample has an old weight 4096 − g above 0 (R153). -/
def hasOldWeight (b : Build) : Bool := (placedSamples b).any fun x => decide (x.weight < 4096)

/-- Whether a placed sample is baked (R55). -/
def PlacedSample.baked (x : PlacedSample) : Bool := x.mark != .unmarked && decide (x.weight < 4096)

/-- The baked samples of a track (R55). -/
def bakedOf (b : Build) (t : Track) : Nat :=
  b.placed.zipIdx.countP fun (p, n) => match channelOf t n with
    | .left => p.l.baked
    | .right => p.r.baked

/-- Whether a frame counts as one with no new weight (R46): a MARK frame, or no sample with new weight. -/
def oldOnly (b : Build) : Bool := b.kind == .mark || !hasNewWeight b

/-- The old frame's copy state, NONE when it gave no valid RIGHTS pack (R46, R153). -/
def oldCopy (o : OldFrame) : CopyState :=
  match o.rights with
  | some r => r.copy
  | none => .copyNone

/-- The copy state the rights unit gives a frame under period rights (R153). -/
def frameCopy (b : Build) (period : SourceState) : CopyState :=
  if oldOnly b then oldCopy b.old
  else if !hasOldWeight b || (b.old.completed && b.old.identity == .absent) then writtenState period
  else maxCopy (writtenState period) (oldCopy b.old)

/-- The source class of new audio (R46). -/
def sourceClass (s : State) : SourceClass :=
  match selectedSource s with
  | .analog => .analog
  | .digital =>
    match s.rights.accepted with
    | none => .unstated
    | some r => match r.cls with
      | .pro => .pro
      | .consumer => .consumer

/-- The source class of a frame (R46). -/
def frameClass (b : Build) (s : State) : SourceClass :=
  if oldOnly b then match b.old.rights with
    | some r => r.cls
    | none => .unstated
  else sourceClass s

/-- The edit generation of a frame (R48). -/
def frameGeneration (b : Build) (lastRead : Nat) : Nat :=
  match b.kind, b.old.edit with
  | .mark, some e => e.generation
  | .mark, none => lastRead
  | .punch, some e => min 255 (e.generation + 1)
  | .punch, none => min 255 (lastRead + 1)
  | .assemble, some e => min 255 (e.generation + 1)
  | .assemble, none =>
    if b.old.posState = .blank ∨ b.old.posState = .unknown then 0 else min 255 (lastRead + 1)

/-- The EDIT pack of a frame (R48). -/
def frameEdit (b : Build) (lastRead : Nat) : EditPack :=
  let fades := (placedSamples b).filterMap (·.fade)
  let splice := b.kind != .mark && !fades.isEmpty
  ⟨frameGeneration b lastRead, splice, if splice && fades.contains .fadeOut then .spliceOut else .spliceIn⟩

/-- A frame under construction made complete under period rights (R43, R45 to R48, R55, R153). R48 does not say when the tape
map's last edit generation read is taken for an old frame without a valid EDIT pack; it is the one held as the frame is
completed (DESIGN CHOICE, log entry 56). -/
def completeBuild (b : Build) (period : SourceState) (s : State) : BuiltFrame :=
  { frame := b.frame, afa := b.afa, position := ⟨b.afa, b.rate⟩
    rights := ⟨frameCopy b period, frameClass b s⟩
    program := b.program, edit := frameEdit b s.tapeMap.pos.lastGeneration
    left := slotsOf b.placed b.rate (·.l), right := slotsOf b.placed b.rate (·.r)
    bakedA := bakedOf b .a, bakedB := bakedOf b .b }

/-- FRAME_BUILD_COMPLETE is due (R43): the last sample has been placed. -/
def buildDue (s : State) : Bool :=
  s.formatter.build.any fun b => b.built.isNone && decide (pairsPerFrame b.rate ≤ b.placed.length)

/-- FRAME_BUILD_COMPLETE (R43, R153): the frame is complete under the period rights as they stand. -/
def buildComplete (s : State) : State :=
  match s.formatter.build with
  | none => s
  | some b =>
    if buildDue s then
      { s with formatter := { s.formatter with
          build := some { b with built := some (completeBuild b s.rights.period s) } } }
    else s

/-- The tick that ends the blend period (R43, R153): a frame not yet complete is completed under the period rights kept at
that tick, and the frame waits for its write. -/
def buildAtTick (s : State) : State :=
  match s.formatter.build with
  | none => s
  | some b =>
    let f := match b.built with
      | some f => f
      | none => completeBuild b s.rights.kept s
    { s with formatter := { s.formatter with build := none, ready := some f } }

/-! ## Gate -/

/-- The gate becomes CLOSED at a close point and GATE_CLOSED is raised (R50, R51). What belongs to a pending open stays. -/
def closeGate (s : State) : State :=
  let m := s.formatter
  let keep := m.pendingOpen.isSome
  gateClosedReport <| reselect <| raiseEvent .gateClosed
    { s with formatter := { m with
        gate := .closed, closePoint := none, openSpan := none, sending := none
        build := if keep then m.build else none, ready := if keep then m.ready else none
        run := if keep then m.run else none } }

/-- NORMAL_CLOSE_EFFECT is due (R50): at the boundary that ends the named frame's write. It is due after that boundary's tick has
been taken whole, so that of a frame position and a GATE_CLOSED of one tick, which R124 lets the sequencer take in either order,
the frame position comes first (DESIGN CHOICE, log entry 54). -/
def normalCloseDue (s : State) : Bool :=
  let m := s.formatter
  m.gate == .opened && m.sending.isNone &&
    match m.closePoint with
    | some (.normal g) => decide (g + 3 ≤ s.transport.tick)
    | _ => false

/-- NORMAL_CLOSE_EFFECT (R50). -/
def normalClose (s : State) : State := if normalCloseDue s then closeGate s else s

/-- FORCED_CLOSE_EFFECT is due (R51): the track under way at the forced close has been sent. -/
def forcedCloseDue (s : State) : Bool :=
  s.formatter.gate == .opened && s.formatter.sending.isNone && s.formatter.closePoint == some .forced

/-- FORCED_CLOSE_EFFECT (R51). -/
def forcedClose (s : State) : State := if forcedCloseDue s then closeGate s else s

/-- GATE_OPEN_TEST is due (R49): the boundary that begins the pending frame's write has come, and a gate that closes there
has closed (R50). -/
def gateTestDue (s : State) : Bool :=
  s.formatter.gate == .closed && s.formatter.pendingOpen.any fun sp => decide (sp.first + 2 ≤ s.transport.tick)

/-- The cause of a refused open (R49), as the error it records (R129). -/
def openRefusal (s : State) : ErrorKind × ErrorDetail :=
  if s.formatter.writeEnable = false then (.writeOff, .absent)
  else if s.transport.prot then (.tapeProtected, .absent)
  else if s.transport.mode ≠ .record then (.transport, .notRecord)
  else if s.transport.lock = false then (.transport, .noLock)
  else (.transport, .speed)

/-- The gate opens for the span `sp` and its first frame's write begins (R49, R52). -/
def openGate (sp : Span) (s : State) : State :=
  reselect <| raiseEvent .gateOpened
    { s with formatter := { s.formatter with
        gate := .opened, pendingOpen := none, openSpan := some sp
        sending := s.formatter.ready.map fun f => (f, .a), ready := none } }

/-- The pending open and the built frame are discarded and the refusal reported (R49, R129). -/
def refuseOpen (s : State) : State :=
  seqRefused (openRefusal s).1 (openRefusal s).2
    { s with formatter := { s.formatter with
        pendingOpen := none, closePoint := none, build := none, ready := none, run := none } }

/-- GATE_OPEN_TEST (R49). -/
def gateTest (s : State) : State :=
  if gateTestDue s then
    match s.formatter.pendingOpen with
    | none => s
    | some sp => if s.formatter.writeEnable && writeWindow s.transport then openGate sp s else refuseOpen s
  else s

/-- The sending of the frame that waits begins at a frame boundary within an open gate (R52). -/
def startSending (s : State) : State :=
  let m := s.formatter
  if m.gate = .opened ∧ m.sending = none ∧ normalCloseDue s = false ∧ forcedCloseDue s = false then
    { s with formatter := { m with sending := m.ready.map fun f => (f, .a), ready := none } }
  else s

/-- A track's baked samples are added to the BAKED counter and to the sequencer's count (R55). -/
def addBaked (n : Nat) (s : State) : State :=
  { s with
    faults := { s.faults with counters := { s.faults.counters with
      baked := s.faults.counters.baked + BitVec.ofNat 32 n } }
    seq := { s.seq with baked := s.seq.baked + BitVec.ofNat 32 n } }

/-- TRACK_A_SENT (R52, R55): the frame's AFA and PROGRAM values are handed to the tape map. A forced close lets no track B
follow (R51). -/
def trackASent (s : State) : State :=
  match s.formatter.sending with
  | some (f, .a) =>
    let next := if s.formatter.closePoint = some .forced then none else some (f, Track.b)
    handWritten f.afa f.program (addBaked f.bakedA { s with formatter := { s.formatter with sending := next } })
  | _ => s

/-- The written list with an entry joined, the oldest dropped when it held 4 (R53). -/
def joinWritten (l : List WrittenFrame) (w : WrittenFrame) : List WrittenFrame := l.drop (l.length + 1 - 4) ++ [w]

/-- FRAME_WRITE_COMPLETE (R52, R53, R55). -/
def writeComplete (s : State) : State :=
  match s.formatter.sending with
  | some (f, .b) =>
    addBaked f.bakedB { s with formatter := { s.formatter with
      sending := none, written := joinWritten s.formatter.written ⟨f.afa, f.frame⟩ } }
  | _ => s

/-- Whether an entry's CONF completion was due by the tick now past (R53): the tick that ends its period k+4. -/
def overdue (s : State) (w : WrittenFrame) : Bool := decide (w.frame + 4 ≤ s.transport.tick)

/-- WRITTEN_LIST_TIMEOUT on its oldest overdue entry (R53, R162): with a CONF tally of that tick already taken the check
fails with NOT READ; otherwise the fault monitor keeps the entry. -/
def timeoutEntry (w : WrittenFrame) (s : State) : State :=
  let s := { s with formatter := { s.formatter with written := removeEntry w s.formatter.written } }
  if s.faults.records.confirm.mode = .off then s
  else if s.faults.lastConf = some (w.frame + 4) then confirmFailed .notRead w.afa s
  else { s with faults := { s.faults with handed := s.faults.handed ++ [w] } }

/-- WRITTEN_LIST_TIMEOUT is due (R53). -/
def timeoutDue (s : State) : Bool := s.formatter.written.any (overdue s)

/-- WRITTEN_LIST_TIMEOUT (R53): every overdue entry, in the order written. -/
def writtenTimeout (s : State) : State :=
  (s.formatter.written.filter (overdue s)).foldl (fun s w => timeoutEntry w s) s

/-- CONFIRM_DROP_UNCHECKED is due (R162): an entry handed off before the present tick is held. -/
def dropDue (s : State) : Bool := s.faults.handed.any fun w => decide (w.frame + 4 < s.transport.tick)

/-- CONFIRM_DROP_UNCHECKED (R162). -/
def dropUnchecked (s : State) : State :=
  { s with faults := { s.faults with
      handed := s.faults.handed.filter fun w => !decide (w.frame + 4 < s.transport.tick) } }

end Sys2Proof.Machine
end

