-- ==== Sys2Proof/Machine/DerivedSteps.lean ====
section
/-! DEFINITION. The steps that come due of themselves. Each is a row of the command table (95_what_each_step_holds.md: "the
part's steps, each whole and indivisible"): its condition is brought about by a frame tick or a pair period, and the step
has its effect when it is taken while due. `settleDue` takes every step that is due, in one order (log entry 1). -/

namespace Sys2Proof.Machine

open Sys2Proof

/-! ## Blend unit, marker run and transmitter -/

/-- A channel of the blend unit rewritten. -/
def mapBlend (ch : Channel) (f : BlendChannel → BlendChannel) (s : State) : State :=
  { s with blend := s.blend.set ch (f (s.blend.get ch)) }

/-- PENDING_FADE_START on a channel (R87, R88): `n` is the index of the next pair period. -/
def fadeStart (ch : Channel) (s : State) : State := mapBlend ch (fun c => c.start s.clock.next) s

/-- FADE_IN_END on a channel (R87). -/
def fadeInEnd (ch : Channel) (s : State) : State := mapBlend ch BlendChannel.inEnd s

/-- FADE_OUT_END is due (R88): a fade-out was asked for and every selected channel's has ended. -/
def fadeOutEndDue (s : State) : Bool := s.blend.outAsked && !s.blend.left.fadingOut && !s.blend.right.fadingOut

/-- FADE_OUT_END (R88, R131): the end is reported, naming the frame of the last fade sample, or the frame being blended
when there was none. -/
def fadeOutEnd (s : State) : State :=
  if fadeOutEndDue s then
    fadeOutReport (s.blend.lastFade.getD (blendedFrame s))
      { s with blend := { s.blend with
        left := s.blend.left.outEnd, right := s.blend.right.outEnd, outAsked := false, lastFade := none } }
  else s

/-- MARKER_RUN_END is due (R54): run index 99 has been built. -/
def runEndDue (s : State) : Bool := s.formatter.run.any fun r => decide (100 ≤ r.next)

/-- MARKER_RUN_END (R54, R132). -/
def runEnd (s : State) : State :=
  if runEndDue s then markRunReport (blendedFrame s) { s with formatter := { s.formatter with run := none } } else s

/-- TX_STATUS_RECORD is due (R156): 256 pairs have been sent. -/
def txDue (s : State) : Bool := decide (256 ≤ s.outputs.txPairs)

/-- TX_STATUS_RECORD (R156): the record of the block: class CONSUMER, tag 0, and the most restrictive word in force during
it. Its rate is the clock rate as the block ends (DESIGN CHOICE, log entry 40: R156 does not say which, when the rate
changes during a block). -/
def txRecord (s : State) : State :=
  if txDue s then
    let w := wordOf s.outputs.txWorst
    { s with outputs := { s.outputs with
        txPairs := 0, txWorst := s.rights.word.copy, txSent := some ⟨.consumer, w.permit, w.generation, s.clock.rate, 0⟩ } }
  else s

/-! ## Repairers and concealers -/

/-- A new-path concealer. -/
def State.concealer (s : State) : Channel → Concealer
  | .left => s.formatter.concealL
  | .right => s.formatter.concealR

/-- A new-path concealer rewritten. -/
def mapConcealer (ch : Channel) (f : Concealer → Concealer) (s : State) : State :=
  match ch with
  | .left => { s with formatter := { s.formatter with concealL := f s.formatter.concealL } }
  | .right => { s with formatter := { s.formatter with concealR := f s.formatter.concealR } }

/-- The repair unit of a path. -/
def State.repairUnit (s : State) : ReadPath → RepairUnit
  | .pre => s.preRepair
  | .conf => s.confRepair

/-- A channel repairer of a repair unit. -/
def RepairUnit.get (u : RepairUnit) : Channel → Repairer
  | .left => u.left
  | .right => u.right

/-- A channel repairer of a repair unit rewritten. -/
def RepairUnit.mapChannel (u : RepairUnit) (ch : Channel) (f : Repairer → Repairer) : RepairUnit :=
  match ch with
  | .left => { u with left := f u.left }
  | .right => { u with right := f u.right }

/-- A channel repairer rewritten. -/
def mapRepairer (path : ReadPath) (ch : Channel) (f : Repairer → Repairer) (s : State) : State :=
  match path with
  | .pre => { s with preRepair := s.preRepair.mapChannel ch f }
  | .conf => { s with confRepair := s.confRepair.mapChannel ch f }

/-- The ends and expiries due at the repairers and the new-path concealers. -/
def settleRepair (s : State) : State :=
  { s with
    preRepair := { s.preRepair with left := s.preRepair.left.settle, right := s.preRepair.right.settle }
    confRepair := { s.confRepair with left := s.confRepair.left.settle, right := s.confRepair.right.settle }
    formatter := { s.formatter with
      concealL := s.formatter.concealL.settle, concealR := s.formatter.concealR.settle } }

/-- The fades that start or end before the next sample. -/
def settleFades (s : State) : State :=
  fadeInEnd .right (fadeInEnd .left (fadeStart .right (fadeStart .left s)))

/-! ## Everything that is due -/

/-- Every step that is due, in one order (log entry 1). -/
def settleDue (s : State) : State :=
  settleRepair <| endSwitch <| txRecord <| gateTest <| forcedClose <| normalClose <| fadeOutEnd <| settleFades <|
    buildComplete <| runEnd <| expireCandidate <| writtenTimeout <| dropUnchecked s

/-- The end of the frame period at the write streams: the tracks of the frame being sent have been sent by the tick that
ends the period (R1, R52), and a forced close takes effect at the track boundaries passed (R51). -/
def finishSending (s : State) : State := forcedClose (writeComplete (forcedClose (trackASent s)))

end Sys2Proof.Machine
end

