-- ==== Sys2Proof/Machine/TickOps.lean ====
section
/-! DEFINITION. The work of a frame tick at each block (R22), and of a change at the transport interface. The blocks take a
tick in the order in which `frameTick` calls them (log entry 4). -/

namespace Sys2Proof.Machine

open Sys2Proof

/-! ## Transport interface and sample clock -/

/-- What the transport interface hands on at a change of the mode record or an entry into the tick history (R19, R23): the
verify scan's range (R177), the loss of the write window (R28) and the SERVO condition (R161). `t` is the transport held
before. At a change that both closes the window and raises SERVO the rules order the two nowhere; the loss goes first, so
that the error carries its detail (DESIGN CHOICE, log entry 35). -/
def afterTransport (t : Transport) (s : State) : State := evaluateServo (windowLoss t (verifyRange t s))

/-- The transport at a frame tick (R22, R23, R25). -/
def Transport.atTick (t : Transport) (dir : Direction) (micros : Nat) : Transport :=
  let h := t.history.push (historyEntry micros)
  { t with tick := t.tick + 1, dir := dir, history := h, stalled := false, ratio := speedRatio false h }

/-- The transport at a stall timeout (R24, R25). -/
def Transport.atStall (t : Transport) : Transport :=
  let h := t.history.push 65535
  { t with history := h, stalled := true, ratio := speedRatio true h }

/-- The transport interface at a frame tick. -/
def tickTransport (dir : Direction) (micros : Nat) (s : State) : State :=
  afterTransport s.transport { s with transport := s.transport.atTick dir micros }

/-- The clock rate found at a tick (R29). -/
def clockRate (s : State) : Rate :=
  match s.transport.mode, s.tapeMap.pos.rate with
  | .play, some r => r
  | .record, some r => r
  | _, _ => s.formatter.recordRate

/-- The sample clock at a frame tick (R29, R30). It changes its manner here alone (DESIGN CHOICE for a stall timeout, log entry
49). -/
def tickClock (s : State) : State := { s with clock := ⟨clockRate s, clockFollows s.transport, 0⟩ }

/-! ## Rights unit -/

/-- The rights unit at a frame tick (R148). -/
def tickRights (s : State) : State :=
  { s with rights := { s.rights with kept := s.rights.period, period := selectedState s } }

/-- The tape rights replaced, with RIGHTS_CHANGED and the word formed again when they differ (R147, R154, R155). -/
def setTapeRights (t : TapeRights) (s : State) : State :=
  if s.rights.tape = t then s
  else raiseEvent .rightsChanged (refreshWord { s with rights := { s.rights with tape := t } })

/-- The RIGHTS pack of a PRE completion, or none, at the rights unit (R154). -/
def takeRightsPack (k : Option RightsPack) (s : State) : State :=
  match k with
  | none => s
  | some p =>
    if s.transport.mode = .unloaded then s
    else if s.rights.candidate = some p then setTapeRights ⟨sourceOfCopy p.copy, p.cls⟩ s
    else { s with rights := { s.rights with candidate := some p } }

/-! ## PRE decoder and its users -/

/-- The jump that a completion brought, reported on (R102, R140, R166). The POSITION action, where the mode puts it in force,
reaches the sequencer before the frame position of the same completion (DESIGN CHOICE, log entry 42). -/
def reportJump (s : State) : State :=
  let s := raiseEvent .positionJump s
  let k := s.faults.counters
  let s := { s with faults := { s.faults with counters := { k with jumps := k.jumps + 1 } } }
  seqJump (positionReport (.positionJump s.tapeMap.pos.afa) s)

/-- The identity a tick's result gives the old frame. -/
def TickResult.identity : TickResult → FrameIdentity
  | .completion c => c.tally.identity
  | .subcode _ => .absent
  | .noFrame => .absent

/-- Whether a tick's result is a completion in DECODING. -/
def TickResult.completed : TickResult → Bool
  | .completion _ => true
  | .subcode _ => false
  | .noFrame => false

/-- What the formatter keeps of the frame that the tick ended (R67, R103), and its carried number (R47, R72). R67 hands a rate
as decoded at a completion alone; at a tick without one the rate kept is the position record's after the tick's packs, or
48K (DESIGN CHOICE, log entry 45). -/
def keepOldFrame (r : TickResult) (fp : Option Afa) (st : PosState) (s : State) : State :=
  let k := r.packs
  let o : OldFrame :=
    { frame := s.transport.tick, position := fp, posState := st, identity := r.identity
      rate := (r.repairFrame s).rate, rights := k.rights, program := k.program, edit := k.edit, completed := r.completed }
  { s with formatter := { s.formatter with
      oldNow := s.formatter.oldNext, oldNext := some o
      carried := match k.program with
        | some p => p.number
        | none => s.formatter.carried } }

/-- The blank note of a tick's result, taken in PLAY or RECORD (R104). -/
def blankNote (r : TickResult) (s : State) : Bool :=
  match r with
  | .completion c => c.blank && (s.transport.mode == .play || s.transport.mode == .record)
  | .subcode _ => false
  | .noFrame => false

/-- The tally of a PRE completion at the fault monitor (R165, R167, R168). -/
def preTally (r : TickResult) (s : State) : State :=
  match r with
  | .completion c => clogTally .pre c.tally (rateTally c.tally (uncorrTally c.tally s))
  | .subcode _ => s
  | .noFrame => s

/-- The verify step of a completion (R175). -/
def verifyResult (path : ReadPath) (r : TickResult) (scan : Option Afa) (jumped : Bool) (s : State) : State :=
  match r with
  | .completion c => verifyStep path scan jumped c.tally s
  | .subcode _ => s
  | .noFrame => s

/-- The decoder's own part of a tick (R58, R66, R69): it moves its assemblies, adds to its counters and hands its repair
unit a frame. -/
def decoderTick (path : ReadPath) (r : TickResult) (s : State) : State :=
  let f := r.repairFrame s
  let s := s.withDecoder path ((s.decoder path).tick (stateCalledFor path s.transport))
  let s := match r with
    | .completion c => s.withPathCounters path fun k => k.add c
    | .subcode _ => s
    | .noFrame => s
  handRepair path f s

/-- The PRE result at the tape map while a tape is loaded, and the frame position handed on (R97, R100 to R105, R107,
R122). The state handed with it is the one after the POSITION pack was handled, before the blank test (R103; log entry
22), to the record formatter and to the sequencer alike. R67 leaves the users of the completion independent of one another;
they take it in the order written here (DESIGN CHOICE, log entry 50), so that a raise from the tally finds the AFA after the
frame's packs. -/
def tapeMapArrival (r : TickResult) (s : State) : State :=
  let k := r.packs
  let (p, c) := s.tapeMap.pos.handle k.position
  let fp := framePositionOf k.position c p
  let s := { s with tapeMap := { s.tapeMap with pos := p } }
  let s := if c = .jumped then reportJump s else s
  let s := tapeMapRest k (blankNote r s) fp s
  let s := preTally r (takeRightsPack k.rights (keepOldFrame r fp p.state s))
  let s := seqFramePosition fp p.state r.completed s
  verifyResult .pre r fp (c == .jumped) s

/-- The PRE decoder and its users at a tick (R58, R67, R72, R97). While the mode is UNLOADED the tape map, the rights unit
and the fault monitor drop what they are handed (R97, R154, R169). -/
def preTick (s : State) : State :=
  let r := decoderResult .pre s
  let s := decoderTick .pre r s
  if s.transport.mode = .unloaded then keepOldFrame r none .unknown s else tapeMapArrival r s

/-! ## CONF decoder and its users -/

/-- The scan AFA of a CONF completion (R175). -/
def confScan (c : Completion) (m : Option WrittenFrame) : Option Afa :=
  match c.packs.position with
  | some p => some p.afa
  | none => m.map (·.afa)

/-- A CONF completion at the fault monitor (R162, R165, R175). The rules do not order the CONFIRM check, the clog counts and the
verify step; they come in the order written here (DESIGN CHOICE, log entry 50). -/
def confUsers (r : TickResult) (s : State) : State :=
  match r with
  | .completion c =>
    let m := matchedEntry c.tally s
    verifyStep .conf (confScan c m) false c.tally (clogTally .conf c.tally (confirmTally c.tally s))
  | .subcode _ => s
  | .noFrame => s

/-- The CONF decoder and its users at a tick (R58, R68). -/
def confTick (s : State) : State :=
  let r := decoderResult .conf s
  confUsers r (decoderTick .conf r s)

/-! ## Tape map, blend unit -/

/-- The tape map at a frame tick (R98). -/
def tapeMapTick (s : State) : State :=
  let (p, clamped) := s.tapeMap.pos.tick s.transport.dir
  let s := { s with tapeMap := { s.tapeMap with periodValue := s.tapeMap.pos.afa, pos := p } }
  if clamped then positionReport (.positionRange p.afa) s else s

/-- The blend unit at a frame tick (R87). -/
def tickBlend (s : State) : State :=
  { s with blend := { s.blend with left := s.blend.left.tick, right := s.blend.right.tick } }

/-! ## The whole tick -/

/-- What had to happen before the tick: the steps due, and the end of the period at the write streams. -/
def beforeTick (s : State) : State := finishSending (settleDue s)

/-- A frame tick at the transport interface, the rights unit and the frame just blended. -/
def tickFront (dir : Direction) (micros : Nat) (s : State) : State :=
  buildAtTick (tickRights (tickTransport dir micros s))

/-- A frame tick at the tape map, the blend unit, the fault monitor and the sample clock. -/
def tickBack (s : State) : State := tickClock (positionTick (tickBlend (tapeMapTick s)))

/-- FRAME_TICK (R22), block by block (log entry 4). -/
def frameTick (dir : Direction) (micros : Nat) (s : State) : State :=
  startSending (buildStart (tickBack (confTick (preTick (tickFront dir micros (beforeTick s))))))

/-- STALL_TIMEOUT (R24). R30 has the clock run free unless STALLED is clear, and has it change its manner at a frame tick; it
is left as it is (DESIGN CHOICE, log entry 49). -/
def stallTimeout (s : State) : State := afterTransport s.transport { s with transport := s.transport.atStall }

/-! ## Mode reports -/

/-- What a tape unload does at the track decoders (R70). -/
def decodersUnload (s : State) : State :=
  { s with preDecoder := s.preDecoder.discard, confDecoder := s.confDecoder.discard }

/-- What a tape unload does at the rights unit (R154). -/
def rightsUnload (s : State) : State :=
  setTapeRights ⟨.rightsUnstated, .unstated⟩ { s with rights := { s.rights with candidate := none } }

/-- A tape unload at the blocks it is handed to (R20), in one order (log entry 10). -/
def tapeUnload (s : State) : State := faultUnload (rightsUnload (decodersUnload (seqUnload (tapeMapUnload s))))

/-- A MODE REPORT whose codes are in their sets (R19, R20). A report of UNLOADED during SCANNING is for the verify scan both a
tape unload and a change out of decode range, which R170 and R177 do not order; the unload comes first, so the stop cause is
UNLOAD (DESIGN CHOICE, log entry 52). -/
def modeChange (m : Mode) (lock prot : Bool) (s : State) : State :=
  let t := s.transport
  let s := { s with transport := { t with mode := m, lock := lock, prot := prot } }
  let s := if m = t.mode then s else raiseEvent .modeChanged s
  let s := if m = .unloaded ∧ t.mode ≠ .unloaded then tapeUnload s else s
  afterTransport t s

end Sys2Proof.Machine
end

