-- ==== Sys2Proof/Machine/BlendCommands.lean ====
section
/-! DEFINITION. The meanings of the commands of the blend unit and the monitor selection (R87, R88, R92, R93). -/

namespace Sys2Proof.Machine

open Sys2Proof

/-- PENDING_FADE_START (R87). -/
def execPendingFadeStart (ch : Channel) (s : State) : Host.Outcome State Fault Refusal := .next (fadeStart ch s)

/-- FADE_IN_END (R87). -/
def execFadeInEnd (ch : Channel) (s : State) : Host.Outcome State Fault Refusal := .next (fadeInEnd ch s)

/-- FADE_OUT_END (R88). -/
def execFadeOutEnd (s : State) : Host.Outcome State Fault Refusal := .next (fadeOutEnd s)

/-- MONITOR_SWITCH_END (R93). -/
def execMonitorSwitchEnd (s : State) : Host.Outcome State Fault Refusal := .next (endSwitch s)

/-- SET MONITOR at the blend unit (R92). -/
def setMonitor (mode : Byte) (s : State) : State × ResultCode × Payload :=
  match monitorOfCode mode with
  | none => (s, .range, .zeros)
  | some m =>
    let s := reselect { s with monitor := { s.monitor with mode := m } }
    (s, .ok, .monitor m s.monitor.source s.monitor.switch.isSome)

/-- SET_MONITOR (R92). -/
def execSetMonitor (port : Port) (mode : Byte) (s : State) : Host.Outcome State Fault Refusal :=
  .next (request port 0x1C .openClass (setMonitor mode) s)

end Sys2Proof.Machine
end

