-- ==== Sys2Proof/Machine/FaultCommands.lean ====
section
/-! DEFINITION. The meanings of the commands of the fault monitor (R160, R162, R168, R171 to R174). -/

namespace Sys2Proof.Machine

open Sys2Proof

/-- CONFIRM_DROP_UNCHECKED (R162). -/
def execConfirmDropUnchecked (s : State) : Host.Outcome State Fault Refusal := .next (dropUnchecked s)

/-- One kind's line of READ FAULTS code 0 (R172). -/
def faultLine (s : State) (k : FaultKind) : FaultLine :=
  let r := s.faults.records.get k
  ⟨r.mode, r.present, r.action, r.seen⟩

/-- A kind's whole record, with what CLOG and RATE add to it (R172). -/
def faultView (s : State) (k : FaultKind) : Payload :=
  .faultRecord k (s.faults.records.get k) (if k = .clog then s.faults.heads.list else [])
    (if k = .rate then some (s.faults.window.sum, s.faults.window.length) else none)

/-- READ FAULTS (R172). -/
def readFaults (kind : Byte) (s : State) : State × ResultCode × Payload :=
  if kind = 0 then
    (s, .ok, .faultSummary (faultKinds.map (faultLine s)) (faultCode s.faults.records) s.faults.high s.faults.low)
  else match faultKindOfCode kind with
    | some k => (s, .ok, faultView s k)
    | none => (s, .range, .zeros)

/-- READ_FAULTS (R172). -/
def execReadFaults (port : Port) (kind : Byte) (s : State) : Host.Outcome State Fault Refusal :=
  .next (request port 0x14 .openClass (readFaults kind) s)

/-- One kind's line of CLEAR FAULTS (R171). -/
def clearLine (s : State) (k : FaultKind) : ClearLine :=
  let r := s.faults.records.get k
  ⟨r.present, r.action, r.seen⟩

/-- CLEAR FAULTS with its payload (R171). -/
def clearFaultsRequest (s : State) : State × ResultCode × Payload :=
  let s := clearFaults s
  (s, .ok, .faultClear (faultKinds.map (clearLine s)))

/-- CLEAR_FAULTS (R171). -/
def execClearFaults (port : Port) (s : State) : Host.Outcome State Fault Refusal :=
  .next (request port 0x15 .openClass clearFaultsRequest s)

/-- The ten counters of a path in order (R173). -/
def PathCounters.list (k : PathCounters) : List Word32 :=
  [k.clean, k.fixed, k.flagged, k.lost, k.uncorr, k.frames, k.bad, k.interpolated, k.held, k.muted]

/-- The 23 counters by number (R173). -/
def Counters.list (k : Counters) : List Word32 := k.pre.list ++ k.conf.list ++ [k.baked, k.slip, k.jumps]

/-- A port's snapshot (R173). -/
def snapshotOf (s : State) : Port → Counters
  | .p1 => s.faults.snap1
  | .p2 => s.faults.snap2
  | .p3 => s.faults.snap3

/-- A port's snapshot replaced by the counters as held (R173). -/
def takeSnapshot (p : Port) (s : State) : State :=
  match p with
  | .p1 => { s with faults := { s.faults with snap1 := s.faults.counters } }
  | .p2 => { s with faults := { s.faults with snap2 := s.faults.counters } }
  | .p3 => { s with faults := { s.faults with snap3 := s.faults.counters } }

/-- READ COUNTS (R173). -/
def readCounts (port : Port) (first : Byte) (snapshot : Bool) (s : State) : State × ResultCode × Payload :=
  let n := first.toNat
  if n < 23 then
    let s := if snapshot then takeSnapshot port s else s
    let l := (snapshotOf s port).list
    (s, .ok, .counters (l.getD n 0) (l.getD (n + 1) 0) (l.getD (n + 2) 0))
  else (s, .range, .zeros)

/-- READ_COUNTS (R173). -/
def execReadCounts (port : Port) (first : Byte) (snapshot : Bool) (s : State) : Host.Outcome State Fault Refusal :=
  .next (request port 0x16 .openClass (readCounts port first snapshot) s)

/-- VERIFY START (R174). Its payload is the verify state (R194); answered CLAMPED it gives the threshold held as well (R184),
after the state (log entry 43). -/
def verifyStart (source : Byte) (start : Option (BitVec 20)) (stop : BitVec 20) (threshold : Byte) (loop : Bool)
    (s : State) : State × ResultCode × Payload :=
  if scanRuns s.faults.verify then (s, .busy, .zeros)
  else match pathOfCode source with
    | none => (s, .range, .zeros)
    | some path =>
      if (start.any fun a => decide (stop.toNat < a.toNat)) || (loop && start.isNone) then (s, .range, .zeros)
      else if path = .conf ∧ s.transport.mode ≠ .record then (s, .state, .zeros)
      else
        let v : VerifyRecord :=
          { state := if start.isSome then .waiting else .scanning, source := path
            start := start.map BitVec.toNat, stop := stop.toNat, threshold := min 112 threshold.toNat, loop := loop
            checked := 0, passes := 0, lastScan := none, prevScan := none, failure := none, stopCause := none }
        if 112 < threshold.toNat then (setVerify v s, .clamped, .verifyClamped v.state v.threshold)
        else (setVerify v s, .ok, .verifyState v.state)

/-- VERIFY_START (R174). -/
def execVerifyStart (port : Port) (source : Byte) (start : Option (BitVec 20)) (stop : BitVec 20) (threshold : Byte)
    (loop : Bool) (s : State) : Host.Outcome State Fault Refusal :=
  .next (request port 0x18 .openClass (verifyStart source start stop threshold loop) s)

/-- VERIFY STOP (R174). -/
def verifyStop (s : State) : State × ResultCode × Payload :=
  let s := if scanRuns s.faults.verify then stopScan .request s else s
  (s, .ok, .verifyState s.faults.verify.state)

/-- VERIFY_STOP (R174). -/
def execVerifyStop (port : Port) (s : State) : Host.Outcome State Fault Refusal :=
  .next (request port 0x19 .openClass verifyStop s)

/-- Page 0 of VERIFY READ (R174). -/
def verifyView (v : VerifyRecord) : VerifyView :=
  ⟨v.state, v.source, v.start, v.stop, v.threshold, v.loop, v.checked, v.passes, v.stopCause⟩

/-- VERIFY READ (R174). -/
def verifyRead (page : Byte) (s : State) : State × ResultCode × Payload :=
  let v := s.faults.verify
  if page = 0 then (s, .ok, .verifyPage0 (verifyView v))
  else if page = 1 then (s, .ok, .verifyPage1 v.state v.lastScan v.failure)
  else (s, .range, .zeros)

/-- VERIFY_READ (R174). -/
def execVerifyRead (port : Port) (page : Byte) (s : State) : Host.Outcome State Fault Refusal :=
  .next (request port 0x1A .openClass (verifyRead page) s)

/-- FAULT MODE (R160). Its payload is the kind's record as held afterwards, without what READ FAULTS adds (R172, R194). -/
def faultModeRequest (kind mode : Byte) (s : State) : State × ResultCode × Payload :=
  match faultKindOfCode kind, faultModeOfCode mode with
  | some k, some m =>
    if k = .servo ∧ m = .off then (s, .range, .zeros)
    else
      let s := changeMode k m s
      (s, .ok, .kindRecord k (s.faults.records.get k))
  | _, _ => (s, .range, .zeros)

/-- FAULT_MODE (R160). -/
def execFaultMode (port : Port) (kind mode : Byte) (s : State) : Host.Outcome State Fault Refusal :=
  .next (request port 0x52 .editClass (faultModeRequest kind mode) s)

/-- SET THRESHOLDS (R168). -/
def setThresholds (high low : BitVec 16) (s : State) : State × ResultCode × Payload :=
  let h := min 896 high.toNat
  let l := min h (min 896 low.toNat)
  ({ s with faults := { s.faults with high := h, low := l } },
    if h = high.toNat ∧ l = low.toNat then .ok else .clamped, .thresholds h l)

/-- SET_THRESHOLDS (R168). -/
def execSetThresholds (port : Port) (high low : BitVec 16) (s : State) : Host.Outcome State Fault Refusal :=
  .next (request port 0x53 .editClass (setThresholds high low) s)

end Sys2Proof.Machine
end

