-- ==== Sys2Proof/Machine/PlaybackCommands.lean ====
section
/-! DEFINITION. The meanings of the commands of the play path: block arrivals (R59), pair periods (R30), the ends and expiries
of the repairers (R79, R80, R82) and of the jump candidate (R98), and SET REPAIR (R85). -/

namespace Sys2Proof.Machine

open Sys2Proof

/-- A block arrival at the decoder of its path (R57, R59). -/
def blockArrival (blk : BlockArrival) (s : State) : State :=
  let d := (s.decoder blk.path).findState (stateCalledFor blk.path s.transport)
  s.withDecoder blk.path (d.arrival s.transport.dir blk)

/-- BLOCK_ARRIVAL (R59). -/
def execBlockArrival (blk : BlockArrival) (s : State) : Host.Outcome State Fault Refusal := .next (blockArrival blk s)

/-- JUMP_CANDIDATE_EXPIRY (R98). -/
def execJumpCandidateExpiry (s : State) : Host.Outcome State Fault Refusal := .next (expireCandidate s)

/-- One pair period of the sample clock, if it gives one before the next tick (R30). The steps due come first (log entry
1). -/
def pairPeriod (s : State) : State :=
  let s := settleDue s
  match nextPairIndex s.clock with
  | none => s
  | some n => pairWork n s

/-- PAIR_PERIOD (R30). -/
def execPairPeriod (s : State) : Host.Outcome State Fault Refusal := .next (pairPeriod s)

/-- HOLD_EXPIRY (R79). -/
def execHoldExpiry (path : ReadPath) (ch : Channel) (s : State) : Host.Outcome State Fault Refusal :=
  .next (mapRepairer path ch Repairer.expireHold s)

/-- MUTE_RAMP_END (R80). -/
def execMuteRampEnd (path : ReadPath) (ch : Channel) (s : State) : Host.Outcome State Fault Refusal :=
  .next (mapRepairer path ch Repairer.endMute s)

/-- RECOVERY_END (R82). -/
def execRecoveryEnd (path : ReadPath) (ch : Channel) (s : State) : Host.Outcome State Fault Refusal :=
  .next (mapRepairer path ch Repairer.endRecovery s)

/-- A repair setting given or left out, brought into its allowed values by `f`. -/
def broughtOr (f : Nat → Nat) (held : Nat) (v : Option Nat) : Nat :=
  match v with
  | some n => f n
  | none => held

/-- Whether a value given was changed by `f`. -/
def wasBrought (f : Nat → Nat) (v : Option Nat) : Bool := v.any fun n => f n != n

/-- SET REPAIR at the repair settings (R85). -/
def setRepair (p h : Option Byte) (m u : Option (BitVec 16)) (s : State) : State × ResultCode × Payload :=
  let pn := p.map BitVec.toNat
  let hn := h.map BitVec.toNat
  let mn := m.map BitVec.toNat
  let un := u.map BitVec.toNat
  let r : RepairSettings :=
    ⟨broughtOr bringP s.settings.p pn, broughtOr bringH s.settings.h hn, broughtOr bringM s.settings.m mn,
      broughtOr bringU s.settings.u un⟩
  let clamped := wasBrought bringP pn || wasBrought bringH hn || wasBrought bringM mn || wasBrought bringU un
  ({ s with settings := r }, if clamped then .clamped else .ok, .repairSettings r)

/-- SET_REPAIR (R85). -/
def execSetRepair (port : Port) (p h : Option Byte) (m u : Option (BitVec 16)) (s : State) :
    Host.Outcome State Fault Refusal :=
  .next (request port 0x51 .editClass (setRepair p h m u) s)

end Sys2Proof.Machine
end

