-- ==== Sys2Proof/Machine/PortCommands.lean ====
section
/-! DEFINITION. The meanings of the commands of the control ports and the claim table (R178 to R192). -/

namespace Sys2Proof.Machine

open Sys2Proof

/-- The fall of select (R179, R185): the summary as held is put in front of the pending response. -/
def exchangeStart (p : Port) (s : State) : State :=
  let c := s.ports.get p
  if c.select = .waitRise then s
  else { s with ports := s.ports.set p { c with select := .exchange (summaryOf s p) c.response } }

/-- EXCHANGE_START (R179). -/
def execExchangeStart (port : Port) (s : State) : Host.Outcome State Fault Refusal := .next (exchangeStart port s)

/-- A port context after a frame error (R181). -/
def PortContext.badFrame (c : PortContext) : PortContext :=
  { c with response := ⟨.frame, 0, .zeros⟩, frameError := true, select := .high }

/-- The rise of select of an exchange of other than 128 clocks (R181). -/
def frameError (p : Port) (s : State) : State :=
  if waitsForRise s p then endWait p s else { s with ports := s.ports.set p (s.ports.get p).badFrame }

/-- FRAME_ERROR (R181). -/
def execFrameError (port : Port) (s : State) : Host.Outcome State Fault Refusal := .next (frameError port s)

/-- UNKNOWN_OPCODE (R183). -/
def execUnknownOpcode (port : Port) (opcode : Byte) (s : State) : Host.Outcome State Fault Refusal :=
  .next (if waitsForRise s port then endWait port s else respond port opcode .unknown .zeros s)

/-- NOOP (R186). -/
def execNoop (port : Port) (s : State) : Host.Outcome State Fault Refusal :=
  .next (request port 0x00 .openClass (fun s => (s, .ok, .zeros)) s)

/-- The sequencer fields of STATUS page 0 (R143). -/
def seqView (s : State) : SeqView :=
  let q := s.seq
  ⟨q.state, q.pointer, q.held, q.kept, q.holdPending, q.abortPending, q.guard, q.lastClose, q.baked, q.error⟩

/-- A port's RESET flag cleared (R186). -/
def clearReset (p : Port) (s : State) : State :=
  { s with ports := s.ports.set p { s.ports.get p with resetFlag := false } }

/-- STATUS (R143, R186): the payload is formed before the flag is cleared. -/
def statusRequest (p : Port) (page : Byte) (s : State) : State × ResultCode × Payload :=
  let c := s.ports.get p
  if page = 0 then (clearReset p s, .ok, .sequencer (seqView s))
  else if page = 1 then
    (clearReset p s, .ok, .portView p s.claims.edit s.claims.transport c.report c.attn c.events)
  else (s, .range, .zeros)

/-- STATUS (R186). -/
def execStatus (port : Port) (page : Byte) (s : State) : Host.Outcome State Fault Refusal :=
  .next (request port 0x01 .openClass (statusRequest port page) s)

/-- A port made the holder of a claim (R187). -/
def grantClaim (k : ClaimKind) (p : Port) (s : State) : State :=
  { s with claims := s.claims.setHolder k (some p) }

/-- CLAIM at the claim table (R187, R188). -/
def claimRequest (p : Port) (which : Byte) (take : Bool) (s : State) : State × ResultCode × Payload :=
  match claimOfCode which with
  | none => (s, .range, .zeros)
  | some k =>
    match s.claims.holder k with
    | none => (grantClaim k p s, .ok, .claimHolder (some p))
    | some q =>
      if q = p then (s, .ok, .claimHolder (some p))
      else if take && claimQuiet s k then (raiseFor q .claimLost (grantClaim k p s), .ok, .claimHolder (some p))
      else (s, .held, .claimHolder (some q))

/-- CLAIM (R187). -/
def execClaim (port : Port) (which : Byte) (take : Bool) (s : State) : Host.Outcome State Fault Refusal :=
  .next (request port 0x02 .openClass (claimRequest port which take) s)

/-- RELEASE at the claim table (R189). -/
def releaseRequest (p : Port) (which : Byte) (s : State) : State × ResultCode × Payload :=
  match claimOfCode which with
  | none => (s, .range, .zeros)
  | some k =>
    if s.claims.holder k = some p then
      ({ s with claims := s.claims.setHolder k none }, .ok, .claimHolder none)
    else (s, .noClaim, .zeros)

/-- RELEASE (R189). -/
def execRelease (port : Port) (which : Byte) (s : State) : Host.Outcome State Fault Refusal :=
  .next (request port 0x03 .openClass (releaseRequest port which) s)

/-- An event set given or left out, none when it names a kind outside the 13 (R191, R197). -/
def optSet (held : EventSet) : Option (BitVec 16) → Option EventSet
  | none => some held
  | some m => eventSetOfMask m

/-- A port context with new report-enable and attention-enable sets (R191). -/
def PortContext.withSets (c : PortContext) (report attn : EventSet) : PortContext :=
  { c with report := report, attn := attn, events := c.events &&& report }

/-- REPORT SET (R191). -/
def reportSet (p : Port) (report attn : Option (BitVec 16)) (s : State) : State × ResultCode × Payload :=
  let c := s.ports.get p
  match optSet c.report report, optSet c.attn attn with
  | some r, some a =>
    let c' := c.withSets r a
    ({ s with ports := s.ports.set p c' }, .ok, .eventSets r a c'.events)
  | _, _ => (s, .range, .zeros)

/-- REPORT_SET (R191). -/
def execReportSet (port : Port) (report attn : Option (BitVec 16)) (s : State) : Host.Outcome State Fault Refusal :=
  .next (request port 0x04 .openClass (reportSet port report attn) s)

/-- READ EVENTS (R192). -/
def readEvents (p : Port) (s : State) : State × ResultCode × Payload :=
  let c := s.ports.get p
  (s, .ok, .eventSets c.report c.attn c.events)

/-- READ_EVENTS (R192). -/
def execReadEvents (port : Port) (s : State) : Host.Outcome State Fault Refusal :=
  .next (request port 0x05 .openClass (readEvents port) s)

/-- ACK EVENTS (R192). -/
def ackEvents (p : Port) (mask : BitVec 16) (s : State) : State × ResultCode × Payload :=
  match eventSetOfMask mask with
  | none => (s, .range, .zeros)
  | some m =>
    let c := s.ports.get p
    let after := c.events &&& ~~~m
    ({ s with ports := s.ports.set p { c with events := after } }, .ok, .ackSets c.events after)

/-- ACK_EVENTS (R192). -/
def execAckEvents (port : Port) (mask : BitVec 16) (s : State) : Host.Outcome State Fault Refusal :=
  .next (request port 0x06 .openClass (ackEvents port mask) s)

end Sys2Proof.Machine
end

