-- ==== Sys2Proof/Machine/RecordCommands.lean ====
section
/-! DEFINITION. The meanings of the commands of the record path: pair arrivals (R36 to R38), the ends and expiries of the
new-path concealers (R40), frame building, the gate and the tracks sent (R43 to R54), SET RECORD (R41) and write enable
(R42). -/

namespace Sys2Proof.Machine

open Sys2Proof

/-- NEW_PATH_HOLD_EXPIRY (R40). -/
def execNewPathHoldExpiry (ch : Channel) (s : State) : Host.Outcome State Fault Refusal :=
  .next (mapConcealer ch Concealer.expireHold s)

/-- NEW_PATH_MUTE_END (R40). -/
def execNewPathMuteEnd (ch : Channel) (s : State) : Host.Outcome State Fault Refusal :=
  .next (mapConcealer ch Concealer.endMute s)

/-- NEW_PATH_RECOVERY_END (R40). -/
def execNewPathRecoveryEnd (ch : Channel) (s : State) : Host.Outcome State Fault Refusal :=
  .next (mapConcealer ch Concealer.endRecovery s)

/-- A pair converted to 20 bits (R36). -/
def convertPair (l r : BitVec 24) : Pair := ⟨convert24 l, convert24 r⟩

/-- CONVERTER_PAIR_ARRIVAL (R36, R38): it arrives at the input FIFO while ANALOG is selected. -/
def execConverterPairArrival (l r : BitVec 24) (s : State) : Host.Outcome State Fault Refusal :=
  .next (if selectedSource s = .analog then fifoArrival (convertPair l r) s else s)

/-- RECEIVER_PAIR_ARRIVAL (R36 to R38): it arrives at the input FIFO while DIGITAL is selected and usable. -/
def execReceiverPairArrival (l r : BitVec 24) (s : State) : Host.Outcome State Fault Refusal :=
  .next (if selectedSource s = .digital ∧ usable s then fifoArrival (convertPair l r) s else s)

/-- MARKER_RUN_END (R54). -/
def execMarkerRunEnd (s : State) : Host.Outcome State Fault Refusal := .next (runEnd s)

/-- FRAME_BUILD_COMPLETE (R43). -/
def execFrameBuildComplete (s : State) : Host.Outcome State Fault Refusal := .next (buildComplete s)

/-- GATE_OPEN_TEST (R49). -/
def execGateOpenTest (s : State) : Host.Outcome State Fault Refusal := .next (gateTest s)

/-- NORMAL_CLOSE_EFFECT (R50). -/
def execNormalCloseEffect (s : State) : Host.Outcome State Fault Refusal := .next (normalClose s)

/-- FORCED_CLOSE_EFFECT (R51). -/
def execForcedCloseEffect (s : State) : Host.Outcome State Fault Refusal := .next (forcedClose s)

/-- TRACK_A_SENT (R52). -/
def execTrackASent (s : State) : Host.Outcome State Fault Refusal := .next (trackASent s)

/-- FRAME_WRITE_COMPLETE (R52). -/
def execFrameWriteComplete (s : State) : Host.Outcome State Fault Refusal := .next (writeComplete s)

/-- WRITTEN_LIST_TIMEOUT (R53). -/
def execWrittenListTimeout (s : State) : Host.Outcome State Fault Refusal := .next (writtenTimeout s)

/-- WRITE ENABLE at the record formatter (R42). -/
def writeEnable (s : State) : State × ResultCode × Payload :=
  ({ s with formatter := { s.formatter with writeEnable := true } }, .ok, .writeEnable true)

/-- WRITE_ENABLE (R42). -/
def execWriteEnable (port : Port) (s : State) : Host.Outcome State Fault Refusal :=
  .next (request port 0x48 .editClass writeEnable s)

/-- WRITE DISABLE at the record formatter (R42): with the gate OPEN it makes a forced close, which the sequencer hears of
(R138). -/
def writeDisable (s : State) : State × ResultCode × Payload :=
  let s := { s with formatter := { s.formatter with writeEnable := false } }
  let s := if s.formatter.gate = .opened then seqForcedClose .writeOff .absent (forcedCloseRequest s) else s
  (s, .ok, .writeEnable false)

/-- WRITE_DISABLE (R42). -/
def execWriteDisable (port : Port) (s : State) : Host.Outcome State Fault Refusal :=
  .next (request port 0x49 .editClass writeDisable s)

/-- Whether a change of record rate is refused (R41). -/
def recordBusy (s : State) : Bool :=
  gateInPlay s || s.seq.state == .armed || inWrite s

/-- The effects of new record settings, from `s0` to `s` (R35, R37, R41, R147, R148, R155, R164). -/
def afterSettings (s0 s : State) : State :=
  let s := afterSourceChange s0 s
  let s := if usable s0 = usable s then s else evaluateInput (if usable s then s else emptyFifo s)
  let s :=
    if s0.formatter.analogRights = s.formatter.analogRights then s
    else
      let s := raiseEvent .rightsChanged s
      if selectedSource s = .analog then refreshWord (countPeriodRights s) else s
  deliverInput s0 s

/-- The settings as SET RECORD gives them, each value kept when left out (R41). -/
def withSettings (rate : Option Rate) (source : Option AudioSource) (analog : Option CopyState) (s : State) : State :=
  { s with formatter := { s.formatter with
      recordRate := rate.getD s.formatter.recordRate, defaultSource := source.getD s.formatter.defaultSource
      analogRights := analog.getD s.formatter.analogRights } }

/-- SET RECORD at the record formatter (R41). -/
def setRecordSettings (rate source analog : Option Byte) (s : State) : State × ResultCode × Payload :=
  match optCode rateCode rate, optCode sourceOfCode source, optCode analogOfCode analog with
  | some r, some d, some a =>
    if (r.any fun x => x != s.formatter.recordRate) && recordBusy s then (s, .busy, .zeros)
    else
      let s' := withSettings r d a s
      let f := s'.formatter
      (afterSettings s s', .ok, .recordSettings f.recordRate f.defaultSource f.analogRights)
  | _, _, _ => (s, .range, .zeros)

/-- SET_RECORD (R41). -/
def execSetRecord (port : Port) (rate source analog : Option Byte) (s : State) : Host.Outcome State Fault Refusal :=
  .next (request port 0x50 .editClass (setRecordSettings rate source analog) s)

end Sys2Proof.Machine
end

