-- ==== Sys2Proof/Machine/RightsCommands.lean ====
section
/-! DEFINITION. The meanings of the commands of the digital links and the rights unit: status records and lock (R145, R146),
the transmitter's records (R156) and READ RIGHTS (R157). -/

namespace Sys2Proof.Machine

open Sys2Proof

/-- The digital source state replaced, with what a change brings (R147, R148, R151, R155). -/
def setDigital (st : SourceState) (s : State) : State :=
  if s.rights.digital = st then s
  else
    let s := raiseEvent .rightsChanged { s with rights := { s.rights with digital := st } }
    if selectedSource s = .digital then
      let s := refreshWord (countPeriodRights s)
      if st = .rightsNone then noneReport s else s
    else s

/-- The status history after a record (R145). -/
def joinHistory (h : List StatusRecord) (r : StatusRecord) : List StatusRecord :=
  match h.getLast? with
  | some n => if n.tag = r.tag then (h ++ [r]).drop (h.length + 1 - 2) else [r]
  | none => [r]

/-- Whether a history holds two records that agree in class, copy-permit and generation (R145). -/
def historyAgrees : List StatusRecord → Bool
  | [a, b] => a.cls == b.cls && a.permit == b.permit && a.generation == b.generation
  | _ => false

/-- A status record at the rights unit (R145). -/
def rightsRecord (r : StatusRecord) (s : State) : State :=
  let h := joinHistory s.rights.history r
  let s := { s with rights := { s.rights with history := h } }
  if historyAgrees h then
    let a : AcceptedRecord := ⟨r.cls, r.permit, r.generation, r.tag⟩
    setDigital (digitalStateOf (some a)) { s with rights := { s.rights with accepted := some a } }
  else s

/-- A status record of the receiver at the rights unit and the record formatter (R37, R145). The receiver delivers records
while locked. The rules do not order the two; the rights unit takes the record first (DESIGN CHOICE, log entry 47). -/
def statusRecord (r : StatusRecord) (s : State) : State :=
  if s.rights.lock then
    let s := rightsRecord r s
    afterUsability s { s with formatter := { s.formatter with linkRate := some r.rate } }
  else s

/-- STATUS_RECORD (R145). -/
def execStatusRecord (rec : StatusRecord) (s : State) : Host.Outcome State Fault Refusal := .next (statusRecord rec s)

/-- Loss of lock at the rights unit and the record formatter (R37, R146). The rules do not order the two; the rights unit takes
the loss first (DESIGN CHOICE, log entry 51). -/
def lossOfLock (s : State) : State :=
  let s' := { s with rights := { s.rights with history := [], accepted := none, lock := false } }
  afterUsability s (setDigital .rightsUnstated s')

/-- LOSS_OF_LOCK (R146). -/
def execLossOfLock (s : State) : Host.Outcome State Fault Refusal := .next (lossOfLock s)

/-- LOCK_REGAINED (R37, R146). -/
def execLockRegained (s : State) : Host.Outcome State Fault Refusal :=
  .next (afterUsability s { s with rights := { s.rights with lock := true } })

/-- TX_STATUS_RECORD (R156). -/
def execTxStatusRecord (s : State) : Host.Outcome State Fault Refusal := .next (txRecord s)

/-- The view READ RIGHTS returns (R157). -/
def rightsView (s : State) : RightsView :=
  { lock := s.rights.lock, historyCount := s.rights.history.length, accepted := s.rights.accepted
    digital := s.rights.digital, analog := sourceOfCopy s.formatter.analogRights, selected := selectedSource s
    selectedState := selectedState s, grantState := grantState (selectedState s), period := s.rights.period
    tape := s.rights.tape, candidate := s.rights.candidate, source := s.monitor.source
    switching := s.monitor.switch.isSome, outputCopy := outputCopy s, word := s.rights.word }

/-- READ RIGHTS at the rights unit (R157). -/
def readRights (s : State) : State × ResultCode × Payload := (s, .ok, .rights (rightsView s))

/-- READ_RIGHTS (R157). -/
def execReadRights (port : Port) (s : State) : Host.Outcome State Fault Refusal :=
  .next (request port 0x13 .openClass readRights s)

end Sys2Proof.Machine
end

