-- ==== Sys2Proof/Machine/SequencerCommands.lean ====
section
/-! DEFINITION. The meanings of the requests of the edit list and the edit sequencer (R119, R120, R125, R134 to R136). -/

namespace Sys2Proof.Machine

open Sys2Proof

/-- EDIT READ at the edit sequencer (R120, R199). -/
def editRead (k : BitVec 5) (part : Bool) (s : State) : State × ResultCode × Payload :=
  let i : Fin 32 := k.toFin
  (s, .ok, .entryHalf (entryHalfBits k part (s.seq.held == some i) s.editList[i]))

/-- EDIT_READ (R120). -/
def execEditRead (port : Port) (k : BitVec 5) (part : Bool) (s : State) : Host.Outcome State Fault Refusal :=
  .next (request port 0x12 .openClass (editRead k part) s)

/-- EDIT WRITE at the edit sequencer (R119). -/
def editWrite (k : BitVec 5) (e : EditEntry) (s : State) : State × ResultCode × Payload :=
  let i : Fin 32 := k.toFin
  if entryOutOfRange e then (s, .range, .zeros)
  else if s.seq.held = some i then (s, .busy, .zeros)
  else ({ s with editList := s.editList.set i (storedEntry e) }, .ok, .entryNumber k)

/-- EDIT_WRITE (R119). -/
def execEditWrite (port : Port) (k : BitVec 5) (entry : EditEntry) (s : State) : Host.Outcome State Fault Refusal :=
  .next (request port 0x40 .editClass (editWrite k entry) s)

/-- The sequencer state as a payload. -/
def withSeqState (s : State) (r : ResultCode) : State × ResultCode × Payload := (s, r, .seqState s.seq.state)

/-- EDIT START at the edit sequencer (R125). -/
def editStart (p : Byte) (s : State) : State × ResultCode × Payload :=
  if h : p.toNat < 32 then
    if s.seq.state = .idle ∨ s.seq.state = .fault then withSeqState (editStartAt ⟨p.toNat, h⟩ s) .ok
    else (s, .busy, .zeros)
  else (s, .range, .zeros)

/-- EDIT_START (R125). -/
def execEditStart (port : Port) (p : Byte) (s : State) : Host.Outcome State Fault Refusal :=
  .next (request port 0x41 .editClass (editStart p) s)

/-- HOLD at the edit sequencer (R134). -/
def holdWalk (s : State) : State × ResultCode × Payload :=
  match s.seq.state with
  | .armed => withSeqState { s with seq := { s.seq with state := .held, kept := true } } .ok
  | .recording => withSeqState { s with seq := { s.seq with holdPending := true } } .ok
  | .closing => withSeqState { s with seq := { s.seq with holdPending := true } } .ok
  | .idle => (s, .state, .zeros)
  | .held => (s, .state, .zeros)
  | .fault => (s, .state, .zeros)

/-- HOLD (R134). -/
def execHold (port : Port) (s : State) : Host.Outcome State Fault Refusal :=
  .next (request port 0x42 .editClass holdWalk s)

/-- CONTINUE at the edit sequencer (R135). -/
def continueWalk (s : State) : State × ResultCode × Payload :=
  if s.seq.state = .held then withSeqState (continueHeld s) .ok else (s, .state, .zeros)

/-- CONTINUE (R135). -/
def execContinueWalk (port : Port) (s : State) : Host.Outcome State Fault Refusal :=
  .next (request port 0x43 .editClass continueWalk s)

/-- ABORT (R136). -/
def execAbort (port : Port) (s : State) : Host.Outcome State Fault Refusal :=
  .next (request port 0x44 .editClass (fun s => withSeqState (abortWalk s) .ok) s)

end Sys2Proof.Machine
end

