-- ==== Sys2Proof/Machine/TapeMapCommands.lean ====
section
/-! DEFINITION. The meanings of the requests of the tape map and of the transport interface's page (R34, R114 to R116). -/

namespace Sys2Proof.Machine

open Sys2Proof

/-- The jump candidate as held: one whose age has become 9 is dropped (R98). -/
def heldCandidate (p : PositionRecord) : Option JumpCandidate := p.candidate.filter fun c => c.age < 9

/-- A projected AFA that lies within the AFA range (R114). -/
def projectedInRange (c : JumpCandidate) : Bool := decide (0 ≤ c.projected) && decide (c.projected ≤ (afaMax : Int))

/-- Page 0 of READ POSITION (R114). -/
def positionView (s : State) : PositionView :=
  let p := s.tapeMap.pos
  let c := heldCandidate p
  { state := p.state, afa := p.afa, rate := p.rate, lastGeneration := p.lastGeneration, framesSince := p.framesSince
    candidateHeld := c.isSome, candidateInRange := c.any projectedInRange
    candidateAfa := (c.filter projectedInRange).map fun c => c.projected.toNat
    entries := s.tapeMap.index.length, indexFull := s.tapeMap.indexFull, changeCount := s.tapeMap.changeCount }

/-- Page 1 of READ POSITION (R34). -/
def transportView (s : State) : TransportView :=
  let t := s.transport
  { mode := t.mode, lock := t.lock, prot := t.prot, dir := t.dir, ratio := t.ratio, stalled := t.stalled
    decodeRange := decodeRange t, writeWindow := writeWindow t }

/-- READ POSITION (R34, R114). -/
def readPosition (page : Byte) (s : State) : State × ResultCode × Payload :=
  if page = 0 then (s, .ok, .position (positionView s))
  else if page = 1 then (s, .ok, .transport (transportView s))
  else (s, .range, .zeros)

/-- READ_POSITION (R114). -/
def execReadPosition (port : Port) (page : Byte) (s : State) : Host.Outcome State Fault Refusal :=
  .next (request port 0x10 .openClass (readPosition page) s)

/-- READ INDEX at the tape map (R115): every payload carries the counts, that of a refusal too. -/
def readIndex (k : Byte) (s : State) : State × ResultCode × Payload :=
  let m := s.tapeMap
  if k.toNat < 64 then (s, .ok, .indexEntry m.index[k.toNat]? m.index.length m.indexFull m.changeCount)
  else (s, .range, .indexEntry none m.index.length m.indexFull m.changeCount)

/-- READ_INDEX (R115). -/
def execReadIndex (port : Port) (k : Byte) (s : State) : Host.Outcome State Fault Refusal :=
  .next (request port 0x11 .openClass (readIndex k) s)

/-- CLEAR INDEX at the tape map (R116). -/
def clearIndex (s : State) : State × ResultCode × Payload := (emptyIndex s, .ok, .zeros)

/-- CLEAR_INDEX (R116). -/
def execClearIndex (port : Port) (s : State) : Host.Outcome State Fault Refusal :=
  .next (request port 0x54 .editClass clearIndex s)

end Sys2Proof.Machine
end

