-- ==== Sys2Proof/Machine/TransportCommands.lean ====
section
/-! DEFINITION. The meanings of the commands of the transport lines: power-on reset (R178), frame ticks (R22), stall timeouts
(R24) and mode reports (R19). -/

namespace Sys2Proof.Machine

open Sys2Proof

/-- A port context after power-on reset (R178): an exchange in progress, or a select line still low, leaves the port waiting
for the rise. -/
def resetPort (c : PortContext) : PortContext :=
  { PortContext.reset with select := if c.select = .high then .high else .waitRise }

/-- The part after power-on reset. -/
def powerOnReset (s : State) : State :=
  { State.reset with
    ports := ⟨resetPort s.ports.p1, resetPort s.ports.p2, resetPort s.ports.p3⟩, pending := s.pending }

/-- POWER_ON_RESET (R178). -/
def execPowerOnReset (s : State) : Host.Outcome State Fault Refusal := .next (powerOnReset s)

/-- FRAME_TICK (R22). -/
def execFrameTick (dir : Direction) (micros : Nat) (s : State) : Host.Outcome State Fault Refusal :=
  .next (frameTick dir micros s)

/-- STALL_TIMEOUT (R24). -/
def execStallTimeout (s : State) : Host.Outcome State Fault Refusal := .next (stallTimeout s)

/-- What a MODE REPORT does at the transport interface (R19). -/
def modeReport (mode lock prot : Byte) (s : State) : State × ResultCode × Payload :=
  match modeOfCode mode, yesNoOfCode lock, yesNoOfCode prot with
  | some m, some l, some p => (modeChange m l p s, .ok, .modeRecord m l p)
  | _, _, _ => (s, .range, .zeros)

/-- MODE_REPORT (R19, R183). -/
def execModeReport (port : Port) (mode lock prot : Byte) (s : State) : Host.Outcome State Fault Refusal :=
  .next (request port 0x80 .transportClass (modeReport mode lock prot) s)

end Sys2Proof.Machine
end

