-- ==== Sys2Proof/Machine/Dispatch.lean ====
section
/-! DEFINITION. One arm per command of spec/opcode_table.json, in the table's order. -/

namespace Sys2Proof.Machine

def exec (i : Instr) (s : State) : Host.Outcome State Fault Refusal :=
  match i with
  | .powerOnReset => Sys2Proof.Machine.execPowerOnReset s
  | .frameTick dir micros => Sys2Proof.Machine.execFrameTick dir micros s
  | .stallTimeout => Sys2Proof.Machine.execStallTimeout s
  | .modeReport port mode lock prot => Sys2Proof.Machine.execModeReport port mode lock prot s
  | .blockArrival blk => Sys2Proof.Machine.execBlockArrival blk s
  | .jumpCandidateExpiry => Sys2Proof.Machine.execJumpCandidateExpiry s
  | .pairPeriod => Sys2Proof.Machine.execPairPeriod s
  | .newPathHoldExpiry ch => Sys2Proof.Machine.execNewPathHoldExpiry ch s
  | .newPathMuteEnd ch => Sys2Proof.Machine.execNewPathMuteEnd ch s
  | .newPathRecoveryEnd ch => Sys2Proof.Machine.execNewPathRecoveryEnd ch s
  | .holdExpiry path ch => Sys2Proof.Machine.execHoldExpiry path ch s
  | .muteRampEnd path ch => Sys2Proof.Machine.execMuteRampEnd path ch s
  | .recoveryEnd path ch => Sys2Proof.Machine.execRecoveryEnd path ch s
  | .converterPairArrival l r => Sys2Proof.Machine.execConverterPairArrival l r s
  | .receiverPairArrival l r => Sys2Proof.Machine.execReceiverPairArrival l r s
  | .statusRecord rec => Sys2Proof.Machine.execStatusRecord rec s
  | .lossOfLock => Sys2Proof.Machine.execLossOfLock s
  | .lockRegained => Sys2Proof.Machine.execLockRegained s
  | .txStatusRecord => Sys2Proof.Machine.execTxStatusRecord s
  | .markerRunEnd => Sys2Proof.Machine.execMarkerRunEnd s
  | .frameBuildComplete => Sys2Proof.Machine.execFrameBuildComplete s
  | .gateOpenTest => Sys2Proof.Machine.execGateOpenTest s
  | .normalCloseEffect => Sys2Proof.Machine.execNormalCloseEffect s
  | .forcedCloseEffect => Sys2Proof.Machine.execForcedCloseEffect s
  | .trackASent => Sys2Proof.Machine.execTrackASent s
  | .frameWriteComplete => Sys2Proof.Machine.execFrameWriteComplete s
  | .writtenListTimeout => Sys2Proof.Machine.execWrittenListTimeout s
  | .confirmDropUnchecked => Sys2Proof.Machine.execConfirmDropUnchecked s
  | .pendingFadeStart ch => Sys2Proof.Machine.execPendingFadeStart ch s
  | .fadeInEnd ch => Sys2Proof.Machine.execFadeInEnd ch s
  | .fadeOutEnd => Sys2Proof.Machine.execFadeOutEnd s
  | .monitorSwitchEnd => Sys2Proof.Machine.execMonitorSwitchEnd s
  | .exchangeStart port => Sys2Proof.Machine.execExchangeStart port s
  | .frameError port => Sys2Proof.Machine.execFrameError port s
  | .unknownOpcode port opcode => Sys2Proof.Machine.execUnknownOpcode port opcode s
  | .noop port => Sys2Proof.Machine.execNoop port s
  | .status port page => Sys2Proof.Machine.execStatus port page s
  | .claim port which take => Sys2Proof.Machine.execClaim port which take s
  | .release port which => Sys2Proof.Machine.execRelease port which s
  | .reportSet port report attn => Sys2Proof.Machine.execReportSet port report attn s
  | .readEvents port => Sys2Proof.Machine.execReadEvents port s
  | .ackEvents port mask => Sys2Proof.Machine.execAckEvents port mask s
  | .readPosition port page => Sys2Proof.Machine.execReadPosition port page s
  | .readIndex port k => Sys2Proof.Machine.execReadIndex port k s
  | .editRead port k part => Sys2Proof.Machine.execEditRead port k part s
  | .readRights port => Sys2Proof.Machine.execReadRights port s
  | .readFaults port kind => Sys2Proof.Machine.execReadFaults port kind s
  | .clearFaults port => Sys2Proof.Machine.execClearFaults port s
  | .readCounts port first snapshot => Sys2Proof.Machine.execReadCounts port first snapshot s
  | .verifyStart port source start stop threshold loop => Sys2Proof.Machine.execVerifyStart port source start stop threshold loop s
  | .verifyStop port => Sys2Proof.Machine.execVerifyStop port s
  | .verifyRead port page => Sys2Proof.Machine.execVerifyRead port page s
  | .setMonitor port mode => Sys2Proof.Machine.execSetMonitor port mode s
  | .editWrite port k entry => Sys2Proof.Machine.execEditWrite port k entry s
  | .editStart port p => Sys2Proof.Machine.execEditStart port p s
  | .hold port => Sys2Proof.Machine.execHold port s
  | .continueWalk port => Sys2Proof.Machine.execContinueWalk port s
  | .abort port => Sys2Proof.Machine.execAbort port s
  | .writeEnable port => Sys2Proof.Machine.execWriteEnable port s
  | .writeDisable port => Sys2Proof.Machine.execWriteDisable port s
  | .setRecord port rate source analog => Sys2Proof.Machine.execSetRecord port rate source analog s
  | .setRepair port p h m u => Sys2Proof.Machine.execSetRepair port p h m u s
  | .faultMode port kind mode => Sys2Proof.Machine.execFaultMode port kind mode s
  | .setThresholds port high low => Sys2Proof.Machine.execSetThresholds port high low s
  | .clearIndex port => Sys2Proof.Machine.execClearIndex port s

end Sys2Proof.Machine
end

