-- ==== Sys2Proof/Safety.lean ====
section
/-! DEFINITION. What the manual promises of every state the part can be in, in the terms the claims use: sets that hold only
what is enabled (R190), lists within their lengths (R38, R53, R106, R144, R168), the position record (R96), the fault
records (R159, R165) and the write gate (R49). -/

namespace Sys2Proof.Machine

open Sys2Proof

/-- A port's pending event set holds only kinds of its report-enable set (R190, R191). -/
def PortContext.eventsReported (c : PortContext) : Prop := c.events &&& c.report = c.events

/-- R190 at the three ports. -/
def eventsReported (s : State) : Prop :=
  s.ports.p1.eventsReported ∧ s.ports.p2.eventsReported ∧ s.ports.p3.eventsReported

/-- "The program index holds at most 64 entries, in strictly increasing start AFA" (R106). -/
def indexHeld (s : State) : Prop :=
  s.tapeMap.index.length ≤ 64 ∧ s.tapeMap.index.Pairwise fun x y => x.start < y.start

/-- The lists the manual bounds: input FIFO (R38), written list (R53), status history (R144), rate window (R168). -/
def listsHeld (s : State) : Prop :=
  s.formatter.fifo.length ≤ 2048 ∧ s.formatter.written.length ≤ 4 ∧ s.rights.history.length ≤ 2 ∧
    s.faults.window.length ≤ 8

/-- "The AFA lies within 0..1 048 575 and is 0 in state UNKNOWN" (R96). -/
def positionHeld (s : State) : Prop :=
  s.tapeMap.pos.afa ≤ afaMax ∧ (s.tapeMap.pos.state = .unknown → s.tapeMap.pos.afa = 0)

/-- What a fault kind's mode allows its record to hold (R159). -/
def FaultRecord.modeHeld (r : FaultRecord) : Prop :=
  (r.mode = .off → r.present = false ∧ r.action = false ∧ r.seen = false) ∧ (r.mode = .warn → r.action = false)

/-- R159 for the seven kinds, SERVO never OFF (R160), with the CLOG record following its four heads (R165). -/
def faultsHeld (s : State) : Prop :=
  (∀ k, (s.faults.records.get k).modeHeld) ∧ s.faults.records.servo.mode ≠ .off ∧
    s.faults.records.clog.present = s.faults.heads.list.any (·.present) ∧
    s.faults.records.clog.action = s.faults.heads.list.any (·.action)

/-- A kind's record once its condition has been evaluated (R159): `cond` is the detail of a condition found present, `afa` the
tape map's AFA as held then. CLOG's heads have a rule of their own (R165). -/
def FaultRecord.under (r : FaultRecord) (cond : Option FaultDetail) (afa : Option Afa) : FaultRecord :=
  match cond with
  | none => { r with present := false, action := if r.present ∧ r.mode = .auto then false else r.action }
  | some d =>
    if r.present ∨ r.mode = .off then r
    else { r with
      present := true, seen := true, count := min 255 (r.count + 1), detail := d
      firstAfa := if r.seen then r.firstAfa else afa
      action := decide (r.mode = .latched ∨ r.mode = .auto) || r.action }

/-- The sequencer writes: it is in RECORDING or CLOSING with a held entry that is no rehearsal. -/
def writingEntry (s : State) : Bool := inWrite s && (heldEntry s).any fun x => !isRehearsal x.2

/-- When the gate may be OPEN (R49): a forced close that lets a track finish apart, writing is enabled, the write window is
open and the sequencer writes, with no open pending; and an open is pending only for an entry the sequencer writes. -/
def gateHeld (s : State) : Prop :=
  (s.formatter.gate = .opened → s.formatter.closePoint ≠ some .forced →
    s.formatter.writeEnable = true ∧ writeWindow s.transport = true ∧ writingEntry s = true ∧
      s.formatter.pendingOpen = none) ∧
  (s.formatter.pendingOpen.isSome = true → writingEntry s = true)

/-- A state in which every promise holds. -/
def safe (s : State) : Prop :=
  eventsReported s ∧ indexHeld s ∧ listsHeld s ∧ positionHeld s ∧ faultsHeld s ∧ gateHeld s

end Sys2Proof.Machine
end

