-- ==== Sys2Proof/Certificates/Slice0/Obligations.lean ====
section
/-! DEFINITION. The statements for the provers: `def Obligations.<Name> : Prop`, family by family. A statement about a command
of a control port is about a port that takes commands (`waitsForRise s p = false`); `Obligations.BadExchangesAnswered`
says what happens at a port that waits for the rise after a reset. A state is written `{ s with … }`, so that whatever a
statement does not name is unchanged; where a field stands as `t.x` there, the other clauses say what it holds. -/

section

open Sys2Proof Sys2Proof.Machine

/-! ## The part as a whole -/

/-- A step takes the command at the front of the queue and carries it out with the queue's rest. On an empty queue the part
idles: the queue and the idling are the model's own (log entry 1). -/
def Obligations.StepRunsFront : Prop :=
  (∀ (c : Instr) (rest : List Instr) (s : State), s.pending = c :: rest → step s = exec c { s with pending := rest }) ∧
  ∀ s : State, s.pending = [] → step s = .next s

/-- Every command gives a next state in every state, and touches nothing of the queue of waiting commands (the model's own,
log entry 1). -/
def Obligations.CommandsRunAndLeaveTheQueue : Prop :=
  ∀ (c : Instr) (s : State), ∃ t, exec c s = .next t ∧ t.pending = s.pending

/-- The values that the manual gives for power-on reset. (The verify record's source and loop, the tag of the last POSITION
report, the entries handed off and the tag of the last CONF tally are the model's choice: log entry 13.) -/
def Obligations.ResetValues : Prop :=
  let s := State.reset
  (s.transport.mode = .unloaded ∧ s.transport.lock = false ∧ s.transport.prot = true ∧ s.transport.dir = .forward ∧
    s.transport.history = ⟨65535, 65535, 65535, 65535⟩ ∧ s.transport.stalled = true ∧ s.transport.ratio = 0) ∧
  (s.clock.rate = .r48k ∧ s.clock.following = false) ∧
  (s.formatter.recordRate = .r48k ∧ s.formatter.defaultSource = .analog ∧ s.formatter.analogRights = .copyOpen ∧
    s.formatter.writeEnable = false ∧ s.formatter.gate = .closed ∧ s.formatter.pendingOpen = none ∧
    s.formatter.closePoint = none ∧ s.formatter.written = [] ∧ s.formatter.run = none ∧ s.formatter.carried = 0 ∧
    s.formatter.fifo = [] ∧ s.formatter.fifoState = .priming ∧ s.formatter.heldPair = ⟨0, 0⟩ ∧
    selectedSource s = .analog) ∧
  ((∀ ch, (s.concealer ch).state = .muted ∧ (s.concealer ch).gain = 0) ∧
    ∀ path ch, ((s.repairUnit path).get ch).state = .muted ∧ ((s.repairUnit path).get ch).last = 0 ∧
      ((s.repairUnit path).get ch).rampBase = 0 ∧ ((s.repairUnit path).get ch).gain = 0 ∧
      ((s.repairUnit path).get ch).startGain = 0 ∧ ((s.repairUnit path).get ch).steps = 0 ∧
      ((s.repairUnit path).get ch).plan = none ∧ ((s.repairUnit path).get ch).captured = ⟨4, 32, 64, 256⟩) ∧
  (let silent : RepairFrame := ⟨List.replicate 960 ⟨0, false⟩, List.replicate 960 ⟨0, false⟩, .r48k, false⟩
    ∀ path, (s.repairUnit path).output = silent ∧ (s.repairUnit path).ahead = silent) ∧
  (∀ path, (s.decoder path).state = .idle ∧ (s.decoder path).current = none ∧ (s.decoder path).next = none ∧
    (s.decoder path).whole = false ∧ ∀ t, overrideFlag s path t = false) ∧
  (s.settings = ⟨4, 32, 64, 256⟩ ∧ s.blend.silence = false ∧
    (∀ ch, s.blend.get ch = ⟨0, 0, none, none, false⟩) ∧ s.monitor = ⟨.auto, .pre, none, none⟩) ∧
  (s.tapeMap.pos = ⟨.unknown, 0, none, 0, 65535, none, 0⟩ ∧ s.tapeMap.index = [] ∧ s.tapeMap.indexFull = false ∧
    s.tapeMap.changeCount = 0 ∧ s.tapeMap.debounce = none) ∧
  (s.seq = ⟨.idle, 0, none, false, false, false, 0, none, none, none, 0⟩ ∧
    ∀ k : Fin 32, entryAction s.editList[k] = .nop ∧ s.editList[k].endFlag = true ∧
      s.editList[k] = ⟨0, true, 0, 0, 0, 0, 0, 0, 0, false, 0, 0, false, 0, 0, false, 0⟩) ∧
  (s.rights.history = [] ∧ s.rights.accepted = none ∧ s.rights.lock = false ∧ s.rights.digital = .rightsUnstated ∧
    s.rights.period = .rightsOpen ∧ s.rights.tape = ⟨.rightsUnstated, .unstated⟩ ∧ s.rights.candidate = none ∧
    s.rights.word = ⟨.copyNone, false, .copy⟩) ∧
  ((∀ k, (s.faults.records.get k).present = false ∧ (s.faults.records.get k).action = false ∧
      (s.faults.records.get k).seen = false ∧ (s.faults.records.get k).count = 0 ∧
      (s.faults.records.get k).firstAfa = none ∧ (s.faults.records.get k).detail = .absent) ∧
    faultKinds.map (fun k => (s.faults.records.get k).mode) =
      [.latched, .latched, .auto, .auto, .warn, .warn, .warn] ∧
    s.faults.high = 40 ∧ s.faults.low = 16 ∧ s.faults.window = [] ∧ (∀ n ∈ s.faults.counters.list, n = 0) ∧
    (∀ p, ∀ n ∈ (snapshotOf s p).list, n = 0) ∧ (∀ path tr, s.faults.heads.get path tr = ⟨0, false, false⟩) ∧
    s.faults.positionTag = none ∧ s.faults.handed = [] ∧ s.faults.lastConf = none ∧
    s.faults.verify = ⟨.idle, .pre, none, 0, 0, false, 0, 0, none, none, none, none⟩) ∧
  (s.claims = ⟨none, none⟩ ∧ ∀ p, (s.ports.get p).response = ⟨.none, 0, .zeros⟩ ∧ (s.ports.get p).resetFlag = true ∧
    (s.ports.get p).frameError = false ∧ (s.ports.get p).report = 0 ∧ (s.ports.get p).attn = 0 ∧
    (s.ports.get p).events = 0 ∧ attentionLine (s.ports.get p) = false)

/-- Reset meets every promise of Safety.lean. -/
def Obligations.ResetSafe : Prop := safe State.reset

/-- POWER_ON_RESET: everything takes its reset value; a port whose select line is not high waits for the rise. The waiting
commands stay in the queue (the model's own, log entry 1). -/
def Obligations.PowerOnReset : Prop :=
  ∀ s : State, ∃ t, exec .powerOnReset s = .next t ∧
    t = { State.reset with ports := t.ports, pending := s.pending } ∧
    ∀ p, t.ports.get p =
      { PortContext.reset with select := if (s.ports.get p).select = .high then .high else .waitRise }

/-! ## Control ports and claims -/

/-- EXCHANGE_START: the summary as held at the fall of select stands in front of the response of the previous command, and
nothing else changes; a port that waits for the rise begins no exchange. The port gives the frame out most significant bit
first, and zeros beyond the 128th clock; each field of the summary, the result code, the echoed opcode and the payload has its
place, and each field of the summary its source. Every payload carries its fields, each in bits of its own, from byte 4 onward,
and zeros in the bytes it does not use; a value of more than one byte stands at the low end of its bytes. (Where bytes or codes
of a payload are given here, they are deduced, and the other places hold for every choice of the free value: log entry 3.) -/
def Obligations.ExchangeShiftsPreviousResponse : Prop :=
  ∀ (p : Port) (s : State),
    (waitsForRise s p = false → ∃ t, exec (.exchangeStart p) s = .next t ∧
      shiftedOut t p = some (responseFrame (summaryOf s p) (s.ports.get p).response) ∧
      t = { s with ports := t.ports } ∧
      t.ports.get p = { s.ports.get p with select := (t.ports.get p).select } ∧
      ∀ q, q ≠ p → t.ports.get q = s.ports.get q) ∧
    (waitsForRise s p = true → exec (.exchangeStart p) s = .next s) ∧
    (let m := summaryOf s p
      let c := s.ports.get p
      let r := s.faults.records
      m.reset = c.resetFlag ∧ m.frame = c.frameError ∧
      (m.attn = true ↔ ∃ e, EventSet.has c.events e = true ∧ EventSet.has c.attn e = true) ∧
      (m.editHeld = true ↔ s.claims.edit = some p) ∧ (m.transportHeld = true ↔ s.claims.transport = some p) ∧
      m.seq = s.seq.state ∧ m.error = s.seq.error.map (fun e => e.kind) ∧ m.gate = s.formatter.gate ∧
      (m.fault = true ↔ ∃ k, (r.get k).action = true) ∧
      (m.warn = true ↔ ∃ k, (r.get k).seen = true ∧ (r.get k).action = false) ∧
      (∀ k, (r.get k).action = true → (∀ j, codeOfFaultKind j < codeOfFaultKind k → (r.get j).action = false) →
        m.faultCode = codeOfFaultKind k) ∧
      (∀ k, (∀ j, (r.get j).action = false) → (r.get k).seen = true →
        (∀ j, codeOfFaultKind j < codeOfFaultKind k → (r.get j).seen = false) → m.faultCode = codeOfFaultKind k) ∧
      ((∀ k, (r.get k).action = false ∧ (r.get k).seen = false) → m.faultCode = 0)) ∧
    (∀ k f, shiftedOut s p = some f → shiftedBit s p k = some (if k < 128 then f.getLsbD (127 - k) else false)) ∧
    (∀ k, shiftedOut s p = none → shiftedBit s p k = none) ∧
    (∀ (m : Summary) (r : Response), let f := responseFrame m r
      f.getLsbD 127 = m.reset ∧ f.getLsbD 126 = m.frame ∧ f.getLsbD 125 = m.attn ∧ f.getLsbD 124 = m.editHeld ∧
      f.getLsbD 123 = m.transportHeld ∧ (f.extractLsb' 120 3).toNat = codeOfSeq m.seq ∧
      (f.getLsbD 119 = true ↔ m.gate = .opened) ∧ f.getLsbD 118 = m.fault ∧ f.getLsbD 117 = m.warn ∧
      f.extractLsb' 114 3 = BitVec.ofNat 3 m.faultCode ∧ f.extractLsb' 112 2 = 0 ∧
      (f.extractLsb' 108 4).toNat = codeOfError m.error ∧ (f.extractLsb' 104 4).toNat = codeOfResult r.result ∧
      f.extractLsb' 96 8 = r.echo ∧ f.extractLsb' 0 96 = payloadBits r.payload) ∧
    (payloadBits .zeros = 0 ∧ (∀ b, payloadBits (.entryHalf b) = b) ∧
      (∀ st, (payloadBits (.seqState st)).toNat = codeOfSeq st * 2 ^ 88) ∧
      (∀ on, (payloadBits (.writeEnable on)).toNat = (if on then 2 ^ 88 else 0)) ∧
      (∀ k, (payloadBits (.entryNumber k)).toNat = k.toNat * 2 ^ 88) ∧
      payloadBits (.claimHolder none) = 0 ∧ (payloadBits (.claimHolder (some .p3))).toNat = 3 * 2 ^ 88 ∧
      (∀ c0 c1 c2, let b := payloadBits (.counters c0 c1 c2)
        b.extractLsb' 64 32 = c0 ∧ b.extractLsb' 32 32 = c1 ∧ b.extractLsb' 0 32 = c2) ∧
      ∀ high low, let b := payloadBits (.thresholds high low)
        b.extractLsb' 80 16 = BitVec.ofNat 16 high ∧ b.extractLsb' 64 16 = BitVec.ofNat 16 low ∧ b.extractLsb' 0 64 = 0) ∧
    (∀ v : TransportView, let b := payloadBits (.transport v)
      (b.extractLsb' 88 8).toNat = codeOfMode v.mode ∧ b.getLsbD 80 = !v.lock ∧ b.getLsbD 72 = !v.prot ∧
      b.getLsbD 64 = (v.dir == .reverse) ∧ b.extractLsb' 48 16 = BitVec.ofNat 16 v.ratio ∧ b.getLsbD 40 = v.stalled ∧
      b.getLsbD 32 = v.decodeRange ∧ b.getLsbD 24 = v.writeWindow ∧ b.extractLsb' 0 24 = 0) ∧
    (∀ r a e : EventSet, let b := payloadBits (.eventSets r a e)
      b.extractLsb' 80 16 = e.zeroExtend 16 ∧ b.extractLsb' 64 16 = r.zeroExtend 16 ∧
      b.extractLsb' 48 16 = a.zeroExtend 16 ∧ b.extractLsb' 0 48 = 0) ∧
    (∀ form : PayloadForm, ∃ os : List Nat, os.length = form.widths.length ∧
      (∀ (i w o : Nat), form.widths[i]? = some w → os[i]? = some o → o + w ≤ 96 ∧
        (∀ (j w' o' : Nat), j ≠ i → form.widths[j]? = some w' → os[j]? = some o' → o + w ≤ o' ∨ o' + w' ≤ o) ∧
        (8 < w → (o + w) % 8 = 0) ∧ (w ≤ 8 → o / 8 = (o + w - 1) / 8) ∧
        (form ≠ .sequencer → 8 < w → ∀ j w' o' : Nat, form.widths[j]? = some w' → os[j]? = some o' →
          o' + w' ≤ o / 8 * 8 ∨ o ≤ o') ∧
        ∀ byte, byte < o / 8 → ∃ j w' o' : Nat, form.widths[j]? = some w' ∧ os[j]? = some o' ∧ o' / 8 ≤ byte ∧
          byte ≤ (o' + w' - 1) / 8) ∧
      ∀ (pl : Payload) (vs : List Nat), pl.laid = some (form, vs) → vs.length = form.widths.length →
        (∀ (i w o v : Nat), form.widths[i]? = some w → os[i]? = some o → vs[i]? = some v →
          ((payloadBits pl).extractLsb' (96 - o - w) w).toNat = v % 2 ^ w) ∧
        ∀ bit, bit < 96 → (∀ (i w o : Nat), form.widths[i]? = some w → os[i]? = some o → bit < o ∨ o + w ≤ bit) →
          (payloadBits pl).getLsbD (95 - bit) = false) ∧
    (∀ v w : SeqView, v.guard < 64 → w.guard < 64 → (∀ e a, v.error = some e → e.afa = some a → a ≤ 1048575) →
      (∀ e a, w.error = some e → e.afa = some a → a ≤ 1048575) →
      payloadBits (.sequencer v) = payloadBits (.sequencer w) → v = w) ∧
    ∀ v w : VerifyView, v.stop ≤ 1048575 → w.stop ≤ 1048575 → (∀ a, v.start = some a → a ≤ 1048575) →
      (∀ a, w.start = some a → a ≤ 1048575) → v.threshold ≤ 112 → w.threshold ≤ 112 → v.checked ≤ 65535 →
      w.checked ≤ 65535 → v.passes ≤ 255 → w.passes ≤ 255 →
      payloadBits (.verifyPage0 v) = payloadBits (.verifyPage0 w) → v = w

/-- What the answer to a good exchange does: the result, the echoed opcode and the payload become the port's pending
response, the exchange is over and the frame-error flag is clear; nothing else changes. -/
def Obligations.AnswerReplacesResponse : Prop :=
  ∀ (p : Port) (op : Byte) (res : ResultCode) (pl : Payload) (s : State),
    respond p op res pl s = { s with ports := (respond p op res pl s).ports } ∧
    (respond p op res pl s).ports.get p =
      { s.ports.get p with response := ⟨res, op, pl⟩, frameError := false, select := .high } ∧
    ∀ q, q ≠ p → (respond p op res pl s).ports.get q = s.ports.get q

/-- FRAME_ERROR: result FRAME with opcode 0 and zeros, and the frame-error flag set; UNKNOWN_OPCODE: result UNKNOWN, the opcode
as received, a payload of zeros. Nothing else changes. At a port that waits for the rise after a reset, that rise takes
nothing: no command of the port has any effect, and no frame error is counted. -/
def Obligations.BadExchangesAnswered : Prop :=
  (∀ (p : Port) (op : Byte) (s : State), waitsForRise s p = false →
    let c : PortContext :=
      { s.ports.get p with response := ⟨.frame, 0, .zeros⟩, frameError := true, select := .high }
    exec (.frameError p) s = .next { s with ports := s.ports.set p c } ∧
    exec (.unknownOpcode p op) s = .next (respond p op .unknown .zeros s)) ∧
  ∀ (c : Instr) (p : Port) (s : State), c.port? = some p → waitsForRise s p = true → c ≠ .exchangeStart p →
    exec c s = .next { s with ports := s.ports.set p { s.ports.get p with select := .high } }

/-- The class check: every request of class EDIT from a port without the EDIT claim, and a MODE REPORT from a port without
the TRANSPORT claim, gives NOCLAIM with zeros and does not reach its owner. -/
def Obligations.ClassCheckRefuses : Prop :=
  ∀ (p : Port) (s : State), waitsForRise s p = false →
    (s.claims.edit ≠ some p →
      (∀ k e, exec (.editWrite p k e) s = .next (respond p 0x40 .noClaim .zeros s)) ∧
      (∀ k, exec (.editStart p k) s = .next (respond p 0x41 .noClaim .zeros s)) ∧
      exec (.hold p) s = .next (respond p 0x42 .noClaim .zeros s) ∧
      exec (.continueWalk p) s = .next (respond p 0x43 .noClaim .zeros s) ∧
      exec (.abort p) s = .next (respond p 0x44 .noClaim .zeros s) ∧
      exec (.writeEnable p) s = .next (respond p 0x48 .noClaim .zeros s) ∧
      exec (.writeDisable p) s = .next (respond p 0x49 .noClaim .zeros s) ∧
      (∀ r d a, exec (.setRecord p r d a) s = .next (respond p 0x50 .noClaim .zeros s)) ∧
      (∀ a h m u, exec (.setRepair p a h m u) s = .next (respond p 0x51 .noClaim .zeros s)) ∧
      (∀ k m, exec (.faultMode p k m) s = .next (respond p 0x52 .noClaim .zeros s)) ∧
      (∀ h l, exec (.setThresholds p h l) s = .next (respond p 0x53 .noClaim .zeros s)) ∧
      exec (.clearIndex p) s = .next (respond p 0x54 .noClaim .zeros s)) ∧
    (s.claims.transport ≠ some p → ∀ m l r,
      exec (.modeReport p m l r) s = .next (respond p 0x80 .noClaim .zeros s))

/-- NOOP and STATUS: NOOP changes nothing; STATUS gives the sequencer fields on page 0 and the port's own view on page 1,
and clears the port's RESET flag and no other port's, so that the next summary shows it clear. (That a refused page gives
zeros is deduced: log entry 19.) -/
def Obligations.NoopAndStatus : Prop :=
  ∀ (p : Port) (s : State), waitsForRise s p = false →
    let cleared : State := { s with ports := s.ports.set p { s.ports.get p with resetFlag := false } }
    exec (.noop p) s = .next (respond p 0x00 .ok .zeros s) ∧
    exec (.status p 0) s = .next (respond p 0x01 .ok (.sequencer
      ⟨s.seq.state, s.seq.pointer, s.seq.held, s.seq.kept, s.seq.holdPending, s.seq.abortPending, s.seq.guard,
        s.seq.lastClose, s.seq.baked, s.seq.error⟩) cleared) ∧
    exec (.status p 1) s = .next (respond p 0x01 .ok (.portView p s.claims.edit s.claims.transport
      (s.ports.get p).report (s.ports.get p).attn (s.ports.get p).events) cleared) ∧
    (∀ page : Byte, 1 < page.toNat → exec (.status p page) s = .next (respond p 0x01 .range .zeros s)) ∧
    (∀ res pl, (summaryOf (respond p 0x01 res pl cleared) p).reset = false) ∧
    ∀ q, q ≠ p → (cleared.ports.get q).resetFlag = (s.ports.get q).resetFlag

/-- CLAIM: a free claim is granted, one's own is confirmed, another port's is HELD unless take is set and the claim is
quiet; a takeover raises CLAIM_LOST for the losing port alone. A refusal with HELD carries the holder too. (That a refusal with
RANGE carries zeros is deduced: log entry 19.) -/
def Obligations.ClaimTable : Prop :=
  ∀ (p : Port) (s : State), waitsForRise s p = false →
    (∀ which take, 1 < which.toNat → exec (.claim p which take) s = .next (respond p 0x02 .range .zeros s)) ∧
    ∀ (k : ClaimKind) (take : Bool),
      let which : Byte := match k with | .edit => 0 | .transport => 1
      let granted : State := { s with claims := s.claims.setHolder k (some p) }
      (s.claims.holder k = none → exec (.claim p which take) s =
        .next (respond p 0x02 .ok (.claimHolder (some p)) granted)) ∧
      (s.claims.holder k = some p → exec (.claim p which take) s =
        .next (respond p 0x02 .ok (.claimHolder (some p)) s)) ∧
      ∀ q, q ≠ p → s.claims.holder k = some q →
        let quiet : Prop := match k with
          | .edit => (s.seq.state = .idle ∨ s.seq.state = .fault) ∧ s.formatter.gate = .closed
          | .transport => s.transport.mode = .stop ∨ s.transport.mode = .unloaded
        let loser : PortContext :=
          if EventSet.has (s.ports.get q).report .claimLost then
            { s.ports.get q with events := (s.ports.get q).events ||| Event.single .claimLost }
          else s.ports.get q
        (take = false ∨ ¬ quiet → exec (.claim p which take) s =
          .next (respond p 0x02 .held (.claimHolder (some q)) s)) ∧
        (take = true → quiet → exec (.claim p which take) s =
          .next (respond p 0x02 .ok (.claimHolder (some p)) { granted with ports := s.ports.set q loser }))

/-- RELEASE: the holder's release frees the claim in any state of the part; another port's is refused with NOCLAIM. (That the
refusals carry zeros is deduced: log entry 19.) -/
def Obligations.ReleaseFreesClaim : Prop :=
  ∀ (p : Port) (s : State), waitsForRise s p = false →
    (∀ which, 1 < which.toNat → exec (.release p which) s = .next (respond p 0x03 .range .zeros s)) ∧
    ∀ k : ClaimKind,
      let which : Byte := match k with | .edit => 0 | .transport => 1
      (s.claims.holder k = some p → exec (.release p which) s = .next
        (respond p 0x03 .ok (.claimHolder none) { s with claims := s.claims.setHolder k none })) ∧
      (s.claims.holder k ≠ some p → exec (.release p which) s = .next (respond p 0x03 .noClaim .zeros s))

/-- REPORT SET: each set given replaces the one held for this port, and kinds removed from the report-enable set leave the
pending set; a set that names a kind outside the 13 makes the whole request RANGE. (That the refusal carries zeros is deduced:
log entry 19.) -/
def Obligations.ReportSets : Prop :=
  ∀ (p : Port) (report attn : Option (BitVec 16)) (s : State), waitsForRise s p = false →
    let c := s.ports.get p
    let r : EventSet := match report with | some m => m.truncate 13 | none => c.report
    let a : EventSet := match attn with | some m => m.truncate 13 | none => c.attn
    ((∃ m, (report = some m ∨ attn = some m) ∧ 8191 < m.toNat) →
      exec (.reportSet p report attn) s = .next (respond p 0x04 .range .zeros s)) ∧
    ((∀ m, report = some m ∨ attn = some m → m.toNat ≤ 8191) →
      exec (.reportSet p report attn) s = .next (respond p 0x04 .ok (.eventSets r a (c.events &&& r))
        { s with ports := s.ports.set p { c with report := r, attn := a, events := c.events &&& r } }))

/-- An event raised by a block: each port whose report-enable set holds the kind adds it to its pending set, the others take no
notice, and nothing else changes. CLAIM_LOST, which no block raises so, reaches the losing port alone, as
`Obligations.ClaimTable` says. (That a refusal with RANGE carries zeros is deduced: log entry 19.) READ EVENTS gives the port's
three sets and changes nothing; ACK EVENTS removes the named kinds from the port's pending set, and gives the set before and
after. -/
def Obligations.EventsRaisedReadAndAcknowledged : Prop :=
  (∀ (e : Event) (s : State), e ≠ .claimLost → raiseEvent e s = { s with ports := (raiseEvent e s).ports } ∧
    ∀ p, (raiseEvent e s).ports.get p =
        { s.ports.get p with events := ((raiseEvent e s).ports.get p).events } ∧
      ∀ f, EventSet.has ((raiseEvent e s).ports.get p).events f =
        (EventSet.has (s.ports.get p).events f || (f == e && EventSet.has (s.ports.get p).report e))) ∧
  ∀ (p : Port) (s : State), waitsForRise s p = false →
    let c := s.ports.get p
    exec (.readEvents p) s = .next (respond p 0x05 .ok (.eventSets c.report c.attn c.events) s) ∧
    (∀ mask, 8191 < mask.toNat → exec (.ackEvents p mask) s = .next (respond p 0x06 .range .zeros s)) ∧
    ∀ mask, mask.toNat ≤ 8191 → ∃ after : EventSet,
      (∀ e, EventSet.has after e = (EventSet.has c.events e && !mask.getLsbD e.bit)) ∧
      exec (.ackEvents p mask) s = .next (respond p 0x06 .ok (.ackSets c.events after)
        { s with ports := s.ports.set p { c with events := after } })

/-- The frame a controller sends for a command decodes to that command: no bit of a request's arguments is dropped. -/
def Obligations.CommandRoundTrip : Prop :=
  ∀ (c : Instr) (p : Port) (f : Frame), c.wellFormed = true → c.port? = some p → encodeCommand c = some f →
    decodeExchange p 128 f = c

/-- A few frames written out from R196, R197 and R199; an exchange of other than 128 clocks is a frame error whatever its
bits, and a good one whose first byte names no request is an unknown opcode. The first bit clocked in is the most
significant bit of byte 0. -/
def Obligations.FramesDecode : Prop :=
  decodeExchange .p1 128 0x41030000000000000000000000000000#128 = .editStart .p1 3 ∧
  decodeExchange .p2 128 0x80030001000000000000000000000000#128 = .modeReport .p2 3 0 1 ∧
  decodeExchange .p3 128 0x02000100000000000000000000000000#128 = .claim .p3 0 true ∧
  decodeExchange .p1 128 0x53002800100000000000000000000000#128 = .setThresholds .p1 40 16 ∧
  decodeExchange .p1 127 0x41030000000000000000000000000000#128 = .frameError .p1 ∧
  ∀ (p : Port) (n : Nat) (f : Frame),
    (n ≠ 128 → decodeExchange p n f = .frameError p) ∧
    (f.extractLsb' 120 8 ∉ requestOpcodes → decodeExchange p 128 f = .unknownOpcode p (f.extractLsb' 120 8)) ∧
    ∀ bits : List Bool, (bits.length ≠ 128 → decodeBits p bits = .frameError p) ∧
      (bits.length = 128 → (∀ k, k < 128 → f.getLsbD (127 - k) = bits.getD k false) →
        decodeBits p bits = decodeExchange p 128 f)

/-! ## Transport -/

/-- The speed ratio: at every entry into the history it is 0 while STALLED is set and else 80 000 000 divided by the sum of
the four entries, rounded to nearest with halves up and clamped to 0..20 000; 0 after reset. -/
def Obligations.SpeedRatioRounded : Prop :=
  State.reset.transport.ratio = 0 ∧
  (∀ h : History, speedRatio true h = 0) ∧
  (∀ h : History, 4 ≤ h.sum →
    let q := speedRatio false h
    q ≤ 20000 ∧ 2 * q * h.sum ≤ 160000000 + h.sum ∧ (q < 20000 → 160000000 + h.sum < 2 * (q + 1) * h.sum)) ∧
  speedRatio false ⟨1, 1, 1, 1⟩ = 20000 ∧ speedRatio false ⟨65535, 65535, 65535, 65535⟩ = 305 ∧
  speedRatio false ⟨20000, 20000, 20000, 20000⟩ = 1000 ∧ speedRatio false ⟨20000, 20020, 19980, 20100⟩ = 999 ∧
  (∀ (dir : Direction) (us : Nat) (s : State), ∃ t, exec (.frameTick dir us) s = .next t ∧
    t.transport.ratio = speedRatio false t.transport.history) ∧
  ∀ s : State, ∃ t, exec .stallTimeout s = .next t ∧ t.transport.ratio = 0

/-- FRAME_TICK and STALL_TIMEOUT at the transport interface and the sample clock: the tick samples the direction, enters its
period and clears STALLED, and starts the pair index again at the clock rate found, by the position record as it stands after
the tick's completion (the model's order: log entry 4); the timeout enters 65 535 and sets STALLED, and leaves the clock.
Neither touches the claims, the settings, the edit list or the sources' records. The SERVO condition is evaluated, and a
window lost by speed or direction while the entry writes with the gate OPEN is a forced close: the error, FAULT, the cut,
and a gate that stays OPEN to the track boundary. A SERVO action applied with an open pending is one too. (That a loss
comes before the SERVO action is the model's choice: log entry 35. That the clock keeps its manner at a stall is too: log
entry 49.) -/
def Obligations.TicksAndStalls : Prop :=
  let servo : Transport → Option FaultDetail := fun x =>
    if x.mode = .play ∨ x.mode = .record then
      if x.lock = false then some .servoNoLock
      else if x.stalled then some .servoStalled
      else if x.ratio < 850 ∨ 1150 < x.ratio then some .servoSpeed else none
    else none
  let window : Transport → Prop := fun x => x.mode = .record ∧ x.lock = true ∧ x.prot = false ∧ x.stalled = false ∧
    x.dir = .forward ∧ 990 ≤ x.ratio ∧ x.ratio ≤ 1010
  let afa : State → Option Afa := fun s => if s.tapeMap.pos.state = .unknown then none else some s.tapeMap.pos.afa
  let failed : State → Fin 32 → ErrorDetail → Option Afa → Sequencer := fun s k d lp => { s.seq with
    state := .fault, pointer := k, held := none, kept := false, holdPending := false, abortPending := false
    lastPosition := lp
    error := if s.seq.error.isSome then s.seq.error else some ⟨.transport, .run, k + 1, d, afa s⟩ }
  (∀ (dir : Direction) (us : Nat) (s : State), ∃ t, exec (.frameTick dir us) s = .next t ∧
    let e := if us < 1 then 1 else if 65535 < us then 65535 else us
    let h : History := ⟨s.transport.history.e2, s.transport.history.e3, s.transport.history.e4, e⟩
    t.transport = { s.transport with
      tick := s.transport.tick + 1, dir := dir, history := h, stalled := false, ratio := speedRatio false h } ∧
    t.clock.next = 0 ∧
    (t.clock.following = true ↔ 875 ≤ t.transport.ratio ∧ t.transport.ratio ≤ 1125) ∧
    (∀ r, (s.transport.mode = .play ∨ s.transport.mode = .record) → t.tapeMap.pos.rate = some r → t.clock.rate = r) ∧
    ((s.transport.mode ≠ .play ∧ s.transport.mode ≠ .record) ∨ t.tapeMap.pos.rate = none →
      t.clock.rate = s.formatter.recordRate) ∧
    t.claims = s.claims ∧ t.settings = s.settings ∧ t.editList = s.editList ∧ t.pending = s.pending ∧
    t.formatter.recordRate = s.formatter.recordRate ∧ t.formatter.defaultSource = s.formatter.defaultSource ∧
    t.formatter.analogRights = s.formatter.analogRights ∧ t.formatter.writeEnable = s.formatter.writeEnable ∧
    t.rights.digital = s.rights.digital ∧ t.rights.lock = s.rights.lock ∧ t.rights.history = s.rights.history ∧
    t.rights.accepted = s.rights.accepted ∧
    t.faults.records.servo = s.faults.records.servo.under (servo t.transport) (afa s) ∧
    (∀ k, beforeTick s = s → s.formatter.gate = .opened → window s.transport → ¬ window t.transport →
      writingEntry s = true → s.seq.held = some k →
      t.seq = failed s k .speed t.seq.lastPosition ∧ t.formatter.gate = .opened ∧
      t.formatter.closePoint = some .forced ∧ t.formatter.pendingOpen = none ∧ t.formatter.openSpan = none ∧
      t.formatter.build = none ∧ t.formatter.ready = none ∧ t.formatter.run = none ∧
      (∀ ch, t.blend.get ch = ⟨0, 0, none, none, false⟩) ∧
      ∀ q, EventSet.has (s.ports.get q).report .seqFault = true → EventSet.has (t.ports.get q).events .seqFault = true)) ∧
  ∀ s : State, ∃ t, exec .stallTimeout s = .next t ∧
    t.transport = { s.transport with
      history := ⟨s.transport.history.e2, s.transport.history.e3, s.transport.history.e4, 65535⟩, stalled := true
      ratio := 0 } ∧
    t = { s with
      transport := t.transport, ports := t.ports, formatter := t.formatter, blend := t.blend, monitor := t.monitor
      outputs := t.outputs, seq := t.seq, rights := t.rights, faults := t.faults } ∧
    t.faults.counters = s.faults.counters ∧ t.rights.digital = s.rights.digital ∧ t.rights.tape = s.rights.tape ∧
    t.formatter.recordRate = s.formatter.recordRate ∧ t.formatter.writeEnable = s.formatter.writeEnable ∧
    t.formatter.written = s.formatter.written ∧
    t.faults.records.servo = s.faults.records.servo.under (servo t.transport) (afa s) ∧
    (s.faults.records.servo.present = false → s.faults.records.servo.mode ≠ .off → (servo t.transport).isSome = true →
      ∀ q, EventSet.has (s.ports.get q).report .faultRaised = true →
        EventSet.has (t.ports.get q).events .faultRaised = true) ∧
    (∀ k, s.formatter.gate = .opened → window s.transport → writingEntry s = true → s.seq.held = some k →
      t.seq = failed s k .speed s.seq.lastPosition ∧ t.formatter.gate = .opened ∧
      t.formatter.closePoint = some .forced ∧ t.formatter.pendingOpen = none ∧ t.formatter.openSpan = none ∧
      t.formatter.build = none ∧ t.formatter.ready = none ∧ t.formatter.run = none ∧
      t.formatter.sending = s.formatter.sending ∧ ∀ ch, t.blend.get ch = ⟨0, 0, none, none, false⟩) ∧
    (∀ k, s.formatter.gate = .closed → s.formatter.pendingOpen.isSome = true → writingEntry s = true →
      s.seq.held = some k → (s.transport.mode = .play ∨ s.transport.mode = .record) →
      (s.faults.records.servo.mode = .latched ∨ s.faults.records.servo.mode = .auto) →
      s.faults.records.servo.present = false →
      t.seq = failed s k .absent s.seq.lastPosition ∧ t.formatter.gate = .closed ∧ t.formatter.pendingOpen = none ∧
      t.formatter.build = none ∧ t.formatter.ready = none ∧ ∀ ch, t.blend.get ch = ⟨0, 0, none, none, false⟩) ∧
    (s.formatter.gate = .closed → s.faults.records.servo.present = true → t.seq = s.seq ∧ t.blend = s.blend)

/-- A tick in STOP or WIND, where the decoders complete nothing: the AFA moves by one frame in the tick's direction and stops
at the ends of its range, an UNKNOWN position does not move, READ becomes RECKONED, the jump candidate moves and ages, and
the sequencer takes the frame position of the period that ended. In every mode with a tape, by what the PRE decoder completes
at the tick: a POSITION pack is a snap, a new candidate or an accepted jump, which is counted and raises POSITION_JUMP; no
pack taken makes READ RECKONED; an EDIT pack gives the last generation; the eighth blank completion in PLAY or RECORD makes
BLANK; then the tick moves the record on. (That the completion comes before its tick at the tape map is the model's order,
for which the manual gives the same result: log entry 4. That a candidate whose age becomes 9 is still held after the tick, until
JUMP_CANDIDATE_EXPIRY, due then, drops it before the next one, is the model's choice: log entry 1.) -/
def Obligations.TickReckons : Prop :=
  (∀ (dir : Direction) (us : Nat) (s : State), s.transport.mode = .stop ∨ s.transport.mode = .wind →
    ∃ t, exec (.frameTick dir us) s = .next t ∧
      let p := s.tapeMap.pos
      t.tapeMap.pos =
        { state := if p.state = .read then .reckoned else p.state
          afa := if p.state = .unknown then p.afa
            else match dir with | .forward => min (p.afa + 1) 1048575 | .reverse => p.afa - 1
          rate := p.rate, lastGeneration := p.lastGeneration, framesSince := min 65535 (p.framesSince + 1)
          candidate := (p.candidate.filter fun c => c.age < 9).map fun c =>
            ⟨match dir with | .forward => c.projected + 1 | .reverse => c.projected - 1, c.age + 1⟩
          blankRun := 0 } ∧
      t.tapeMap.debounce = none ∧
      t.seq.lastPosition = (if p.state = .unknown then none else some p.afa)) ∧
  ∀ (dir : Direction) (us : Nat) (s : State), s.transport.mode ≠ .unloaded →
    ∃ (t : State) (q u : PositionRecord) (jumped : Bool), exec (.frameTick dir us) s = .next t ∧
      let r := decoderResult .pre { s with transport := t.transport }
      let packs : FramePacks := match r with
        | .completion c => c.packs
        | .subcode k => k
        | .noFrame => ⟨none, none, none, none⟩
      let blank : Prop := (s.transport.mode = .play ∨ s.transport.mode = .record) ∧ ∃ c, r = .completion c ∧
        c.tally.headA.lost = 56 ∧ c.tally.headB.lost = 56 ∧ packs = ⟨none, none, none, none⟩
      let p : PositionRecord := { s.tapeMap.pos with candidate := s.tapeMap.pos.candidate.filter fun c => c.age < 9 }
      let carried : PositionRecord := { p with
        framesSince := min 65535 (p.framesSince + 1), state := if p.state = .read then .reckoned else p.state }
      (packs.position = none → q = carried ∧ jumped = false) ∧
      (∀ k, packs.position = some k →
        let taken : PositionRecord := { p with state := .read, afa := k.afa, rate := some k.rate, framesSince := 0 }
        let far : Prop := p.state ≠ .unknown ∧ (p.afa + 2 < k.afa ∨ k.afa + 2 < p.afa)
        (p.state = .unknown → q = taken ∧ jumped = false) ∧
        (p.state ≠ .unknown → ¬ far → q = { taken with candidate := none } ∧ jumped = false) ∧
        (far → (∀ c, p.candidate = some c → c.projected ≠ k.afa) →
          q = { carried with candidate := some ⟨k.afa, 0⟩ } ∧ jumped = false) ∧
        (far → ∀ c, p.candidate = some c → c.projected = k.afa →
          q = { taken with candidate := none } ∧ jumped = true)) ∧
      u.lastGeneration = (match packs.edit with | some e => e.generation | none => q.lastGeneration) ∧
      (¬ blank → u = { q with lastGeneration := u.lastGeneration, blankRun := 0 }) ∧
      (blank → q.blankRun ≠ 7 → u = { q with
        lastGeneration := u.lastGeneration, blankRun := min 8 (q.blankRun + 1) }) ∧
      (blank → q.blankRun = 7 → u = { q with
        lastGeneration := u.lastGeneration, blankRun := 8, state := .blank, rate := none, candidate := none }) ∧
      t.tapeMap.pos = { u with
        afa := if u.state = .unknown then u.afa
          else match dir with
            | .forward => if u.afa < 1048575 then u.afa + 1 else 1048575
            | .reverse => u.afa - 1
        candidate := u.candidate.map fun c =>
          ⟨match dir with | .forward => c.projected + 1 | .reverse => c.projected - 1, c.age + 1⟩ } ∧
      t.tapeMap.periodValue = u.afa ∧
      t.seq.lastPosition = (if q.state = .unknown then none else some q.afa) ∧
      (jumped = false → t.faults.counters.jumps = s.faults.counters.jumps) ∧
      (jumped = true → t.faults.counters.jumps = s.faults.counters.jumps + 1 ∧
        ∀ p, EventSet.has (s.ports.get p).report .positionJump = true →
          EventSet.has (t.ports.get p).events .positionJump = true)

/-- MODE REPORT from the claim holder: a code outside its set is refused with RANGE; otherwise all three fields are replaced
together, MODE_CHANGED reaches the ports that enable it when the mode differs, and claims, settings, write enable and counters
stand. (That yes is code 0 and no code 1 is deduced: log entry 5.) The SERVO condition is evaluated. A window lost while the
entry writes with the gate OPEN, the mode not UNLOADED, is the normal end of an ASSEMBLE when the mode leaves RECORD, and else
a forced close with the first cause that applies (of several in one report the order is the model's: log entry 14; before the
SERVO action: log entry 35). A SERVO action applied with an open pending is a forced close too. (That the refusal carries zeros
is deduced: log entry 19.) -/
def Obligations.ModeReportTaken : Prop :=
  ∀ (p : Port) (m l r : Byte) (s : State), waitsForRise s p = false → s.claims.transport = some p →
    (5 < m.toNat ∨ 1 < l.toNat ∨ 1 < r.toNat →
      exec (.modeReport p m l r) s = .next (respond p 0x80 .range .zeros s)) ∧
    ∀ mode, [Mode.unloaded, .stop, .play, .record, .cue, .wind][m.toNat]? = some mode → l.toNat ≤ 1 → r.toNat ≤ 1 →
      let servo : Option FaultDetail :=
        if mode = .play ∨ mode = .record then
          if l ≠ 0 then some .servoNoLock
          else if s.transport.stalled then some .servoStalled
          else if s.transport.ratio < 850 ∨ 1150 < s.transport.ratio then some .servoSpeed else none
        else none
      let afa := if s.tapeMap.pos.state = .unknown then none else some s.tapeMap.pos.afa
      let ended : SeqState → Fin 32 → Sequencer := fun st k => { s.seq with
        state := st, pointer := k, held := none, kept := false, holdPending := false, abortPending := false }
      let failed : Fin 32 → ErrorKind → ErrorDetail → Sequencer := fun k kind d => { ended .fault k with
        error := if s.seq.error.isSome then s.seq.error else some ⟨kind, .run, k + 1, d, afa⟩ }
      ∃ t, exec (.modeReport p m l r) s = .next t ∧
        t.transport = { s.transport with mode := mode, lock := decide (l = 0), prot := decide (r = 0) } ∧
        (t.ports.get p).response = ⟨.ok, 0x80, .modeRecord mode (decide (l = 0)) (decide (r = 0))⟩ ∧
        (mode ≠ s.transport.mode → ∀ q, EventSet.has (s.ports.get q).report .modeChanged = true →
          EventSet.has (t.ports.get q).events .modeChanged = true) ∧
        t.claims = s.claims ∧ t.clock = s.clock ∧ t.settings = s.settings ∧ t.editList = s.editList ∧
        t.preRepair = s.preRepair ∧ t.confRepair = s.confRepair ∧ t.pending = s.pending ∧
        t.formatter.recordRate = s.formatter.recordRate ∧ t.formatter.defaultSource = s.formatter.defaultSource ∧
        t.formatter.analogRights = s.formatter.analogRights ∧ t.formatter.writeEnable = s.formatter.writeEnable ∧
        t.formatter.written = s.formatter.written ∧ t.faults.counters = s.faults.counters ∧
        t.faults.high = s.faults.high ∧ t.faults.low = s.faults.low ∧ t.faults.window = s.faults.window ∧
        t.rights.digital = s.rights.digital ∧ t.rights.lock = s.rights.lock ∧
        (mode ≠ .unloaded ∨ s.transport.mode = .unloaded → t.tapeMap = s.tapeMap ∧ t.preDecoder = s.preDecoder ∧
          t.confDecoder = s.confDecoder ∧ t.rights.tape = s.rights.tape ∧ t.faults.heads = s.faults.heads) ∧
        t.faults.records.servo = s.faults.records.servo.under servo afa ∧
        (∀ k, mode ≠ .unloaded → s.formatter.gate = .opened → writingEntry s = true → s.seq.held = some k →
          s.transport.mode = .record → s.transport.lock = true → s.transport.prot = false →
          s.transport.stalled = false → s.transport.dir = .forward → 990 ≤ s.transport.ratio →
          s.transport.ratio ≤ 1010 → (mode ≠ .record ∨ l ≠ 0 ∨ r = 0) →
          t.formatter.gate = .opened ∧ t.formatter.closePoint = some .forced ∧ t.formatter.pendingOpen = none ∧
          t.formatter.openSpan = none ∧ t.formatter.build = none ∧ t.formatter.ready = none ∧
          t.formatter.run = none ∧ t.formatter.sending = s.formatter.sending ∧
          (∀ ch, t.blend.get ch = ⟨0, 0, none, none, false⟩) ∧
          (mode = .record → l ≠ 0 → t.seq = failed k .transport .noLock) ∧
          (mode = .record → l = 0 → t.seq = failed k .tapeProtected .absent) ∧
          (mode ≠ .record → entryAction s.editList[k] ≠ .assemble → t.seq = failed k .transport .notRecord) ∧
          (mode ≠ .record → entryAction s.editList[k] = .assemble →
            (s.seq.error.isSome = true → t.seq = ended .fault k) ∧
            (s.seq.error = none → s.seq.abortPending = true →
              t.seq = { ended .idle k with lastClose := some (.aborted, k) }) ∧
            (s.seq.error = none → s.seq.abortPending = false → s.editList[k].endFlag = true →
              t.seq = { ended .idle k with lastClose := some (.complete, k) }) ∧
            (s.seq.error = none → s.seq.abortPending = false → s.editList[k].endFlag = false →
              s.seq.holdPending = true → t.seq = ended .held (k + 1)) ∧
            (s.seq.error = none → s.seq.abortPending = false → s.editList[k].endFlag = false →
              s.seq.holdPending = false → ∃ u, t.seq = (fetch u).seq ∧ u.seq = ended .idle (k + 1) ∧
                u.editList = s.editList ∧ u.tapeMap = s.tapeMap ∧
                u.formatter.recordRate = s.formatter.recordRate))) ∧
        (∀ k, s.formatter.gate = .closed → s.formatter.pendingOpen.isSome = true → writingEntry s = true →
          s.seq.held = some k → servo.isSome = true → s.faults.records.servo.present = false →
          (s.faults.records.servo.mode = .latched ∨ s.faults.records.servo.mode = .auto) →
          t.seq = failed k .transport .absent ∧ t.formatter.gate = .closed ∧ t.formatter.pendingOpen = none ∧
          t.formatter.build = none ∧ t.formatter.ready = none ∧
          ∀ ch, t.blend.get ch = ⟨0, 0, none, none, false⟩)

/-- A MODE REPORT of UNLOADED while the mode is any other is the tape unload: what each block does with it. The POSITION, UNCORR
and CLOG conditions go, and an AUTO action on them ends. (The absent AFA of the error follows from the model's order of the
blocks: log entry 10. That an error held in FAULT keeps its phase and entry and loses its detail is deduced: log entry 31.
That HELD with no kept entry names the pointer is the model's choice: log entry 38. That a scan in SCANNING stops with UNLOAD,
though the report also takes the tape out of decode range, is its choice: log entry 52.) -/
def Obligations.TapeUnload : Prop :=
  ∀ (p : Port) (l r : Byte) (s : State), waitsForRise s p = false → s.claims.transport = some p →
    s.transport.mode ≠ .unloaded → l.toNat ≤ 1 → r.toNat ≤ 1 →
    ∃ t, exec (.modeReport p 0 l r) s = .next t ∧ t.transport.mode = .unloaded ∧
      t.tapeMap.pos = ⟨.unknown, 0, none, 0, 65535, none, 0⟩ ∧ t.tapeMap.index = [] ∧ t.tapeMap.indexFull = false ∧
      t.tapeMap.debounce = none ∧
      t.tapeMap.changeCount = (if s.tapeMap.index = [] then s.tapeMap.changeCount else s.tapeMap.changeCount + 1) ∧
      (∀ path, t.decoder path = { s.decoder path with current := none, next := none, whole := false }) ∧
      t.rights.tape = ⟨.rightsUnstated, .unstated⟩ ∧ t.rights.candidate = none ∧
      (∀ path tr, t.faults.heads.get path tr = ⟨0, false, false⟩) ∧
      (t.faults.records.clog.present = false ∧ t.faults.records.clog.action = false ∧ t.faults.positionTag = none) ∧
      (∀ k, k = .position ∨ k = .uncorr → let r := s.faults.records.get k
        t.faults.records.get k = { r with
          present := false, action := if r.present = true ∧ r.mode = .auto then false else r.action }) ∧
      (∀ q, EventSet.has (s.ports.get q).report .faultEnded = true →
        ((∃ path tr, (s.faults.heads.get path tr).action = true) ∨ ∃ k, (k = .position ∨ k = .uncorr) ∧
          (s.faults.records.get k).present = true ∧ (s.faults.records.get k).mode = .auto ∧
          (s.faults.records.get k).action = true) → EventSet.has (t.ports.get q).events .faultEnded = true) ∧
      (s.faults.verify.state = .waiting ∨ s.faults.verify.state = .scanning →
        t.faults.verify = { s.faults.verify with state := .stopped, stopCause := some .unload }) ∧
      t.seq.lastPosition = none ∧
      (s.seq.state = .idle → t.seq = { s.seq with lastPosition := none }) ∧
      (s.seq.state = .armed ∨ s.seq.state = .held →
        t.seq.state = .fault ∧ t.seq.held = none ∧
          t.seq.error = some ⟨.unloaded, .fetch, s.seq.pointer, .absent, none⟩) ∧
      (∀ k, (s.seq.state = .recording ∨ s.seq.state = .closing) → s.seq.held = some k →
        t.seq.state = .fault ∧ t.seq.held = none ∧ t.seq.pointer = k ∧
          t.seq.error = some ⟨.unloaded, .run, k + 1, .absent, none⟩ ∧ t.formatter.pendingOpen =
            (if isRehearsal s.editList[k] then s.formatter.pendingOpen else none) ∧
          (s.formatter.gate = .opened → isRehearsal s.editList[k] = false →
            t.formatter.gate = .opened ∧ t.formatter.closePoint = some .forced)) ∧
      (∀ e, s.seq.state = .fault → s.seq.error = some e →
        t.seq.error = some ⟨.unloaded, e.phase, e.entry, .absent, none⟩)

/-! ## The recorded frame and the decoders -/

/-- A sample's two symbols: the pattern u is v or v + 1 048 576, the high symbol u div 1024, the low symbol u mod 1024, and
the two rebuild the sample. -/
def Obligations.SymbolsCarrySamples : Prop :=
  (∀ v : Sample, -524288 ≤ v → v ≤ 524287 →
    let u := if 0 ≤ v then v else v + 1048576
    0 ≤ u ∧ u ≤ 1048575 ∧ ((highSymbol v).toNat : Int) = u / 1024 ∧ ((lowSymbol v).toNat : Int) = u % 1024 ∧
      rebuildSample (highSymbol v) (lowSymbol v) = v) ∧
  ∀ h l : Symbol, ∃ u : Nat, u = h.toNat * 1024 + l.toNat ∧
    rebuildSample h l = (if u < 524288 then (u : Int) else (u : Int) - 1048576)

/-- A pack whose fields lie in their sets is read back from the payload it is written in; a payload with a code outside its
set, a number above 999, a run index above 99, or a marker without a number gives no valid pack. -/
def Obligations.PacksReadBack : Prop :=
  (∀ k : PositionPack, k.afa ≤ 1048575 → parsePosition (positionPayload k) = some k) ∧
  (∀ k : RightsPack, parseRights (rightsPayload k) = some k) ∧
  (∀ k : ProgramPack, k.number ≤ 999 → k.runIndex ≤ 99 → (k.marker.isSome = true → k.number ≠ 0) →
    parseProgram (programPayload k) = some k) ∧
  (∀ k : EditPack, k.generation ≤ 255 → parseEdit (editPayload k) = some k) ∧
  ∀ p : List Symbol,
    (1 < (p.getD 2 0).toNat → parsePosition p = none) ∧
    (2 < (p.getD 0 0).toNat ∨ 3 < (p.getD 1 0).toNat → parseRights p = none) ∧
    (999 < (p.getD 0 0).toNat ∨ 2 < (p.getD 1 0).toNat ∨ 99 < (p.getD 2 0).toNat ∨
      ((p.getD 1 0).toNat ≠ 0 ∧ (p.getD 0 0).toNat = 0) → parseProgram p = none) ∧
    (255 < (p.getD 0 0).toNat ∨ 1 < (p.getD 1 0).toNat ∨ 1 < (p.getD 2 0).toNat → parseEdit p = none)

/-- The header the formatter writes is good on its own track's streams alone and carries its fields; a header whose check
fails, whose number exceeds 59 or whose track is the other one is not good, and its block is LOST. -/
def Obligations.HeadersReadBack : Prop :=
  (∀ (n : Nat) (t : Track) (afa : Afa), n ≤ 59 → afa ≤ 1048575 →
    let h := makeHeader n t afa
    headerGood h t = true ∧ headerNumber h = n ∧ headerTrack h = t ∧ (headerTag h).toNat = afa % 256 ∧
      headerGood h (otherTrack t) = false) ∧
  ∀ (blk : BlockArrival),
    (blk.header.s0 + blk.header.s1 + blk.header.s2 ≠ 1023#10 ∨ 59 < headerNumber blk.header ∨
      headerTrack blk.header ≠ blk.track → arrivalResult blk = .lost) ∧
    (blk.header.s0 + blk.header.s1 + blk.header.s2 = 1023#10 → headerNumber blk.header ≤ 59 →
      headerTrack blk.header = blk.track → arrivalResult blk = blk.inner)

/-- Every slot of a track has a matrix place of its own, and the place gives the slot back; at 44K1 the padding places are
those of slots 882..959. -/
def Obligations.MatrixHoldsEverySlot : Prop :=
  (∀ n : Nat, n < 960 → rowOf n < 48 ∧ colPair n < 20 ∧ slotAt (rowOf n) (2 * colPair n) = n ∧
    slotAt (rowOf n) (2 * colPair n + 1) = n) ∧
  (∀ r col : Nat, r < 48 → col < 40 → slotAt r col < 960 ∧ rowOf (slotAt r col) = r ∧
    colPair (slotAt r col) = col / 2 ∧ (isPadding .r44k1 r col = true ↔ 882 ≤ slotAt r col) ∧
    isPadding .r48k r col = false) ∧
  ∀ r col : Nat, 48 ≤ r → isPadding .r44k1 r col = false

/-- What the formatter writes, the decoder reads: when every block of a built frame is received CLEAN on both tracks and no
override is set, the completion yields the frame's four packs, its rate, its samples below the pairs per frame, all of them
GOOD, and a clean tally with the frame's AFA as its identity. A written column with 1 to 8 flagged symbols is restored to
what was written, whatever stood in them; one with more keeps its flags and is uncorrectable. -/
def Obligations.WrittenFrameReadsBack : Prop :=
  ∀ (f : BuiltFrame) (tag : Byte) (held : Option Rate),
    f.position.afa ≤ 1048575 → f.program.number ≤ 999 → f.program.runIndex ≤ 99 →
    (f.program.marker.isSome = true → f.program.number ≠ 0) → f.edit.generation ≤ 255 →
    (∀ n, -524288 ≤ f.left.getD n 0 ∧ f.left.getD n 0 ≤ 524287) →
    (∀ n, -524288 ≤ f.right.getD n 0 ∧ f.right.getD n 0 ≤ 524287) →
    let places := ([Track.a, .b].map fun t => (List.range 60).map fun b => (⟨t, b, .clean, f.payload t b⟩ : Place)).flatten
    let c := completeFrame (some ⟨tag, places⟩) false false held
    c.packs = ⟨some f.position, some f.rights, some f.program, some f.edit⟩ ∧
    c.frame = ⟨(List.range (pairsPerFrame f.position.rate)).map fun n => ⟨f.left.getD n 0, true⟩,
      (List.range (pairsPerFrame f.position.rate)).map fun n => ⟨f.right.getD n 0, true⟩, f.position.rate, true⟩ ∧
    c.tally = ⟨.afa f.position.afa, ⟨56, 0, 0, 0, false⟩, ⟨56, 0, 0, 0, false⟩, 0, 0⟩ ∧
    (∀ t r col, r < 56 → col < 40 → (f.row t r)[col]? = some (outerColumn (f.dataColumn t col) r)) ∧
    ∀ (data : List Symbol) (lost : Nat → Bool) (junk : Nat → Symbol),
      let column := (List.range 56).map fun r => (if lost r then junk r else outerColumn data r, lost r)
      let n := (List.range 56).countP lost
      (1 ≤ n → n ≤ 8 → decodeColumn column = (List.range 56).map fun r => (outerColumn data r, false)) ∧
      (n ≤ 8 → columnUncorrectable column = false) ∧
      (9 ≤ n → decodeColumn column = column ∧ columnUncorrectable column = true)

/-- BLOCK_ARRIVAL: the decoder first takes the state that the transport's conditions call for, and drops its assemblies when it
differs. A LOST block, any block in IDLE and an audio block in SUBCODE are discarded. Others go to CURRENT with their tag, to
NEXT with their tag, for the leading track in the second half to an EMPTY NEXT, else to an EMPTY CURRENT; a stray is dropped.
A vacant place takes the block, a block of lower rank is replaced. FRAME_TICK at either decoder: a change of state drops
both assemblies; NEXT moves to CURRENT, which is completed when it was whole; the repair unit is handed the completed frame
or a substitute, and the seven block counters grow by what a completion yields. An empty completion yields no pack, BAD
samples of value 0, 56 LOST blocks a head and every column uncorrectable but the two padding columns of each track at
44K1, which are restored to zeros. (That the CONF decoder's rate is the one held after the PRE packs of the same tick is the
model's order: log entry 4.) -/
def Obligations.BlocksPlaced : Prop :=
  let called : ReadPath → Transport → DecoderState := fun path x =>
    if (x.mode = .play ∨ x.mode = .record) ∧ x.stalled = false ∧ x.dir = .forward ∧ 875 ≤ x.ratio ∧ x.ratio ≤ 1125 then
      .decoding
    else if path = .pre ∧ x.mode = .cue ∧ x.stalled = false then .subcode else .idle
  (∀ (blk : BlockArrival) (s : State),
    let held := s.decoder blk.path
    let want := called blk.path s.transport
    let d : TrackDecoder := if want = held.state then held else ⟨want, none, none, false⟩
    let n := headerNumber blk.header
    let tag := headerTag blk.header
    let subcode := n = 0 ∨ n = 1 ∨ n = 58 ∨ n = 59
    let b : Place := ⟨blk.track, n, blk.inner, blk.payload⟩
    let early : Prop := (blk.track = .a ↔ s.transport.dir = .forward) ∧ blk.half = .second
    let put : Assembly → Assembly := fun a => match a.place? blk.track n with
      | none => { a with places := a.places ++ [b] }
      | some old =>
        if resultRank old.result < resultRank blk.inner then
          { a with places := a.places.map fun x => if x.track = blk.track ∧ x.number = n then b else x }
        else a
    let taken : Prop := arrivalResult blk ≠ .lost ∧ (d.state = .decoding ∨ (d.state = .subcode ∧ subcode))
    let curTag : Prop := ∃ a, d.current = some a ∧ a.tag = tag
    let nextTag : Prop := ∃ a, d.next = some a ∧ a.tag = tag
    ∃ d', exec (.blockArrival blk) s = .next (s.withDecoder blk.path d') ∧
      (¬ taken → d' = d) ∧
      (taken → curTag → d' = { d with current := d.current.map put }) ∧
      (taken → ¬ curTag → nextTag → d' = { d with next := d.next.map put }) ∧
      (taken → ¬ curTag → ¬ nextTag → early → d' = if d.next = none then { d with next := some ⟨tag, [b]⟩ } else d) ∧
      (taken → ¬ curTag → ¬ nextTag → ¬ early →
        d' = if d.current = none then { d with current := some ⟨tag, [b]⟩ } else d)) ∧
  (∀ (dir : Direction) (us : Nat) (s : State), ∃ t, exec (.frameTick dir us) s = .next t ∧ ∀ path,
    let d := s.decoder path
    let want := called path t.transport
    let rate : Option Rate := match path with | .pre => s.tapeMap.pos.rate | .conf => t.tapeMap.pos.rate
    let c := completeFrame d.current (overrideFlag s path .a) (overrideFlag s path .b) rate
    let counters : State → PathCounters := fun s => match path with
      | .pre => s.faults.counters.pre
      | .conf => s.faults.counters.conf
    let k := counters s
    let x := c.tally.headA
    let y := c.tally.headB
    let pairs := pairsPerFrame (rate.getD .r48k)
    (want ≠ d.state → t.decoder path = ⟨want, none, none, want == .decoding⟩) ∧
    (want = d.state → want = .decoding → t.decoder path = { d with current := d.next, next := none, whole := true }) ∧
    (want = d.state → want = .subcode → t.decoder path = { d with current := d.next, next := none }) ∧
    (want = d.state → want = .idle → t.decoder path = d) ∧
    (t.repairUnit path).output = (s.repairUnit path).ahead ∧
    (want = d.state → want = .decoding → d.whole = true → (t.repairUnit path).ahead = c.frame ∧ counters t = { k with
      clean := k.clean + BitVec.ofNat 32 (x.clean + y.clean), fixed := k.fixed + BitVec.ofNat 32 (x.fixed + y.fixed)
      flagged := k.flagged + BitVec.ofNat 32 (x.flagged + y.flagged)
      lost := k.lost + BitVec.ofNat 32 (x.lost + y.lost)
      uncorr := k.uncorr + BitVec.ofNat 32 (c.tally.uncorrA + c.tally.uncorrB), frames := k.frames + 1
      bad := k.bad + BitVec.ofNat 32 ((c.frame.left ++ c.frame.right).countP fun z => !z.good) }) ∧
    (want ≠ d.state ∨ want ≠ .decoding ∨ d.whole = false → counters t = k ∧ (t.repairUnit path).ahead =
      ⟨List.replicate pairs ⟨0, false⟩, List.replicate pairs ⟨0, false⟩, rate.getD .r48k, false⟩)) ∧
  ∀ (overA overB : Bool) (held : Option Rate), let c := completeFrame none overA overB held
    let rate := held.getD .r48k
    let columns := if rate = .r48k then 40 else 38
    c.packs = ⟨none, none, none, none⟩ ∧ c.rate = rate ∧ c.frame =
      ⟨List.replicate (pairsPerFrame rate) ⟨0, false⟩, List.replicate (pairsPerFrame rate) ⟨0, false⟩, rate, true⟩ ∧
    c.tally = ⟨.absent, ⟨0, 0, 0, 56, overA⟩, ⟨0, 0, 0, 56, overB⟩, columns, columns⟩ ∧
    ∀ (tr : Track) (col : Nat), col = 38 ∨ col = 39 →
      (decodeTrack .r44k1 (trackRows none overA tr))[col]? = some (List.replicate 56 (0, false))

/-! ## Repair, blend and outputs -/

/-- A sample value of 20 bits stays one through every formula of chapter 5, and the 24-bit values given out stay in their
range. -/
def Obligations.ArithmeticStaysInRange : Prop :=
  let within : Sample → Prop := fun v => -524288 ≤ v ∧ v ≤ 524287
  (∀ v : BitVec 24, within (convert24 v)) ∧
  (∀ a b : Sample, ∀ g k : Nat, k ≤ g → min a b ≤ interpolate a b g k ∧ interpolate a b g k ≤ max a b) ∧
  (∀ base : Sample, ∀ gain : Nat, within base → gain ≤ 4096 → within (rampValue base gain)) ∧
  (∀ o n : Sample, ∀ g : Nat, within o → within n → g ≤ 4096 → within (blendValue o n g)) ∧
  (∀ o n : Sample, blendValue o n 0 = o ∧ blendValue o n 4096 = n) ∧
  (∀ base : Sample, rampValue base 0 = 0 ∧ rampValue base 4096 = base) ∧
  ∀ v : Sample, within v → -8388608 ≤ output24 v ∧ output24 v ≤ 8388592

/-- A fade of a code 0..4 that starts at the weight held: its first weight lies on the same side of the weight held as the
rest of the fade and less than a step away, its weights stay in 0..4096 and move in one direction only, and it ends one
step short of its target. -/
def Obligations.FadesMoveOneWay : Prop :=
  ∀ (code g0 : Nat), code ≤ 4 → g0 ≤ 4096 →
    let len := fadeLength code
    let step := 4096 / len
    len = 64 * 2 ^ code ∧ step * len = 4096 ∧
    (∀ dir, (startFade dir len g0).length = len ∧ (startFade dir len g0).pos ≤ len ∧ ∀ k, k ≤ len →
      fadeWeight ⟨dir, len, k⟩ ≤ 4096 ∧ fadeWeight ⟨.fadeIn, len, k⟩ = k * step ∧
        fadeWeight ⟨.fadeOut, len, k⟩ + k * step = 4096) ∧
    (g0 ≤ fadeWeight (startFade .fadeIn len g0) ∧ fadeWeight (startFade .fadeIn len g0) < g0 + step) ∧
    (fadeWeight (startFade .fadeOut len g0) ≤ g0 ∧ g0 < fadeWeight (startFade .fadeOut len g0) + step) ∧
    (startFade .fadeIn len 0).pos = 0 ∧ (startFade .fadeOut len 4096).pos = 0 ∧ (startFade .fadeOut len 0).pos = len

/-- A repair unit gives out at pair index n sample n of its output frame, with the samples after it and the look-ahead frame to
look ahead into; beyond the output frame the sample is BAD with value 0. One sample of a channel repairer. In CLEAN, in decode
range: a GOOD sample is given out; a gap of g ≤ P samples with a GOOD right neighbour in the look-ahead is interpolated from
the last output value; any other gap holds it, or starts the mute ramp when H is 0; a plan goes on sample by sample. In the
other states: HOLDING gives a GOOD sample out and is CLEAN, holds, and after the hold takes the first ramp step; MUTING and
MUTED begin a recovery at a run of four GOOD samples, and else go on with the ramp or with 0; RECOVERING takes its next step,
or begins a new gap from the gain reached. Outside decode range a forced gap goes straight to the ramp. A new-path concealer
takes a real or a missing pair alike, without the rule of four. (The look-ahead of the recovery uses the captured P: log entry
24, and the gain field through a hold begun in RECOVERING is the model's choice: log entry 36. What a concealer keeps of the
ramp is deduced: log entry 23.) -/
def Obligations.GapsConcealed : Prop :=
  (∀ (u : RepairUnit) (set : RepairSettings) (inRange : Bool) (n : Nat),
    (∀ older x rest, u.output.left = older ++ x :: rest → older.length = n →
      u.giveLeft set inRange n = u.left.step set inRange x rest u.ahead.left) ∧
    (u.output.left.length ≤ n → u.giveLeft set inRange n = u.left.step set inRange ⟨0, false⟩ [] u.ahead.left) ∧
    (∀ older x rest, u.output.right = older ++ x :: rest → older.length = n →
      u.giveRight set inRange n = u.right.step set inRange x rest u.ahead.right) ∧
    (u.output.right.length ≤ n → u.giveRight set inRange n = u.right.step set inRange ⟨0, false⟩ [] u.ahead.right)) ∧
  let gainAt : Nat → Nat → Nat → Nat := fun start m j => start - j * (4096 / m)
  (∀ (r : Repairer) (set : RepairSettings) (x : DecodedSample) (rest next : List DecodedSample), r.state = .clean →
    let ahead := rest ++ next.take (set.p + 1)
    let given := r.step set true x rest next
    (x.good = true → given.value = x.value ∧ given.mark = .unmarked ∧ given.rep = { r with plan := none, last := x.value }) ∧
    (x.good = false → ∀ q, r.plan = some q →
      given.value = q.a + ((q.b - q.a) * (q.next : Int)).tdiv ((q.g : Int) + 1) ∧ given.mark = .interpolated ∧
      given.rep = { r with
        plan := if q.next < q.g then some { q with next := q.next + 1 } else none, last := given.value }) ∧
    (x.good = false → r.plan = none → ∀ g b, 1 ≤ g → g ≤ set.p → (∀ i, i + 1 < g → ∃ y, ahead[i]? = some y ∧ y.good = false) →
      ahead[g - 1]? = some b → b.good = true →
      given.value = r.last + (b.value - r.last).tdiv ((g : Int) + 1) ∧ given.mark = .interpolated ∧
      given.rep.state = .clean ∧ given.rep.last = given.value ∧
      given.rep.plan = (if 1 < g then some ⟨r.last, b.value, g, 2⟩ else none)) ∧
    (x.good = false → r.plan = none → (∀ i y, i < set.p → ahead[i]? = some y → y.good = false) →
      (0 < set.h → given.value = r.last ∧ given.mark = .held ∧ given.rep.state = .holding ∧ given.rep.steps = 1 ∧
        given.rep.rampBase = r.last ∧ given.rep.startGain = 4096 ∧ given.rep.plan = none) ∧
      (set.h = 0 → given.value = rampValue r.last (4096 - 4096 / set.m) ∧ given.mark = .muted ∧
        given.rep.state = .muting ∧ given.rep.steps = 1))) ∧
  (∀ (r : Repairer) (set : RepairSettings) (x : DecodedSample) (rest next : List DecodedSample),
    let look := rest ++ next.take (r.captured.p + 1)
    let run : Prop := x.good = true ∧ ∀ i, i < 3 → ∃ y, look[i]? = some y ∧ y.good = true
    let given := r.step set true x rest next
    let ramp : Repairer → Given := fun q =>
      let g := gainAt q.startGain q.captured.m (q.steps + 1)
      let v := rampValue q.rampBase g
      ⟨{ q with state := .muting, gain := g, steps := q.steps + 1, holdExpired := false, last := v }, v, .muted⟩
    let recover : Repairer → Given := fun q =>
      let g := q.startGain + (4096 - q.startGain) * (q.steps + 1) / q.captured.u
      let v := rampValue x.value g
      ⟨{ q with state := .recovering, gain := g, steps := q.steps + 1, rampBase := x.value, last := v }, v, .unmarked⟩
    (r.state = .holding → x.good = true → given =
      ⟨{ r with state := .clean, steps := 0, gain := 4096, holdExpired := false, last := x.value }, x.value, .unmarked⟩) ∧
    (r.state = .holding → x.good = false → r.holdExpired = false →
      given = ⟨{ r with steps := r.steps + 1 }, r.last, .held⟩) ∧
    (r.state = .holding → x.good = false → r.holdExpired = true → given = ramp { r with steps := 0 }) ∧
    (r.state = .muting → ¬ run → given = ramp r) ∧
    (r.state = .muted → ¬ run → given = ⟨{ r with last := 0 }, 0, .muted⟩) ∧
    (r.state = .muting ∨ r.state = .muted → run → given =
      recover { r with startGain := r.gain, steps := 0, captured := { r.captured with u := set.u } }) ∧
    (r.state = .recovering → x.good = true → given = recover r) ∧
    (r.state = .recovering → x.good = false →
      let q : Repairer := { r with
        startGain := r.gain, steps := 0, holdExpired := false, captured := { r.captured with h := set.h, m := set.m } }
      (0 < set.h → given = ⟨{ q with state := .holding, steps := 1 }, r.last, .held⟩) ∧ (set.h = 0 → given = ramp q)) ∧
    (let forced := r.step set false x rest next
      let caught : RepairSettings := { set with u := r.captured.u }
      (r.state = .clean → forced = ramp { r with
        plan := none, rampBase := r.last, startGain := 4096, steps := 0, captured := caught }) ∧
      (r.state = .holding → forced = ramp { r with rampBase := r.last, startGain := 4096, steps := 0 }) ∧
      (r.state = .recovering → forced = ramp { r with startGain := r.gain, steps := 0, captured := caught }) ∧
      (r.state = .muting → forced = ramp r) ∧
      (r.state = .muted → forced = ⟨{ r with last := 0 }, 0, .muted⟩))) ∧
  ∀ (c : Concealer) (set : RepairSettings) (x : Sample),
    let real := c.step set (some x)
    let missing := c.step set none
    let ramp : Concealer → Concealer × Sample := fun q =>
      let g := gainAt q.startGain q.captured.m (q.steps + 1)
      let v := rampValue q.rampBase g
      ({ q with state := .muting, gain := g, steps := q.steps + 1, holdExpired := false, last := v }, v)
    let recover : Concealer → Concealer × Sample := fun q =>
      let g := q.startGain + (4096 - q.startGain) * (q.steps + 1) / q.captured.u
      let v := rampValue x g
      ({ q with state := .recovering, gain := g, steps := q.steps + 1, rampBase := x, last := v }, v)
    let gap : Concealer → Concealer × Sample := fun q =>
      if set.h = 0 then ramp { q with steps := 0, holdExpired := false }
      else ({ q with state := .holding, steps := 1, holdExpired := false }, q.last)
    (c.state = .live → real = ({ c with last := x }, x) ∧ missing =
      gap { c with rampBase := c.last, startGain := 4096, captured := { set with u := c.captured.u } }) ∧
    (c.state = .holding →
      real = ({ c with state := .live, steps := 0, gain := 4096, holdExpired := false, last := x }, x) ∧
      missing = if c.holdExpired then ramp { c with steps := 0 } else ({ c with steps := c.steps + 1 }, c.last)) ∧
    (c.state = .muting ∨ c.state = .muted → real =
      recover { c with startGain := c.gain, steps := 0, captured := { c.captured with u := set.u } }) ∧
    (c.state = .muting → missing = ramp c) ∧
    (c.state = .muted → missing = ({ c with last := 0 }, 0)) ∧
    (c.state = .recovering → real = recover c ∧ missing =
      gap { c with startGain := c.gain, captured := { c.captured with h := set.h, m := set.m } })

/-- The expiries and ends of the new-path concealers and the channel repairers, each due: the hold has lasted H samples, the
mute ramp has reached gain 0, the recovery has taken U steps. Only that record changes, and only as said. (That the step count
becomes 0 at the end of a recovery is the model's choice: log entry 37.) -/
def Obligations.ExpiriesAndEnds : Prop :=
  ∀ (s : State) (ch : Channel),
    (∀ c', c' = s.concealer ch →
      (c'.state = .holding → c'.holdExpired = false → c'.captured.h ≤ c'.steps →
        ∃ t, exec (.newPathHoldExpiry ch) s = .next t ∧ t.concealer ch = { c' with holdExpired := true } ∧
          (∀ o, o ≠ ch → t.concealer o = s.concealer o) ∧
          t = { s with formatter := { s.formatter with
            concealL := t.formatter.concealL, concealR := t.formatter.concealR } }) ∧
      (c'.state = .muting → 0 < c'.steps → c'.gain = 0 →
        ∃ t, exec (.newPathMuteEnd ch) s = .next t ∧ t.concealer ch = { c' with state := .muted } ∧
          (∀ o, o ≠ ch → t.concealer o = s.concealer o) ∧
          t = { s with formatter := { s.formatter with
            concealL := t.formatter.concealL, concealR := t.formatter.concealR } }) ∧
      (c'.state = .recovering → c'.captured.u ≤ c'.steps →
        ∃ t, exec (.newPathRecoveryEnd ch) s = .next t ∧
          t.concealer ch = { c' with state := .live, gain := 4096, steps := 0 } ∧
          (∀ o, o ≠ ch → t.concealer o = s.concealer o) ∧
          t = { s with formatter := { s.formatter with
            concealL := t.formatter.concealL, concealR := t.formatter.concealR } })) ∧
    ∀ (path : ReadPath) (r : Repairer), r = (s.repairUnit path).get ch →
      (r.state = .holding → r.holdExpired = false → r.captured.h ≤ r.steps →
        ∃ t, exec (.holdExpiry path ch) s = .next t ∧ (t.repairUnit path).get ch = { r with holdExpired := true } ∧
          (∀ p o, (p ≠ path ∨ o ≠ ch) → (t.repairUnit p).get o = (s.repairUnit p).get o) ∧
          t = { s with
            preRepair := { s.preRepair with left := t.preRepair.left, right := t.preRepair.right }
            confRepair := { s.confRepair with left := t.confRepair.left, right := t.confRepair.right } }) ∧
      (r.state = .muting → 0 < r.steps → r.gain = 0 →
        ∃ t, exec (.muteRampEnd path ch) s = .next t ∧ (t.repairUnit path).get ch = { r with state := .muted } ∧
          (∀ p o, (p ≠ path ∨ o ≠ ch) → (t.repairUnit p).get o = (s.repairUnit p).get o) ∧
          t = { s with
            preRepair := { s.preRepair with left := t.preRepair.left, right := t.preRepair.right }
            confRepair := { s.confRepair with left := t.confRepair.left, right := t.confRepair.right } }) ∧
      (r.state = .recovering → r.captured.u ≤ r.steps →
        ∃ t, exec (.recoveryEnd path ch) s = .next t ∧
          (t.repairUnit path).get ch = { r with state := .clean, gain := 4096, steps := 0 } ∧
          (∀ p o, (p ≠ path ∨ o ≠ ch) → (t.repairUnit p).get o = (s.repairUnit p).get o) ∧
          t = { s with
            preRepair := { s.preRepair with left := t.preRepair.left, right := t.preRepair.right }
            confRepair := { s.confRepair with left := t.confRepair.left, right := t.confRepair.right } })

/-- PENDING_FADE_START and FADE_IN_END, each due, change one blend channel: a fade-in starts at the weight held, a fade-out at
the weight of the last blended sample, which the end of a fade-in leaves as it was. FADE_OUT_END, due, leaves weight 0 where
a fade-out has ended, and makes the close request of a write naming the frame of the last fade sample, or the frame being
blended when there was none: with the gate OPEN the close point is set and a frame being built beyond it is dropped, with an
open pending it is set for the span that follows. A rehearsal completes at this report, by the cases of a GATE_CLOSED. (That the
last blended weight then counts as 0, and that a fade of no samples has ended, is deduced: log entry 29. That of two close
requests the earlier frame stands is the model's choice: log entry 8.) -/
def Obligations.FadesStartAndEnd : Prop :=
  (∀ (ch : Channel) (s : State),
    let c := s.blend.get ch
    (∀ q, c.pending = some q → q.ticks = 0 → q.offset ≤ s.clock.next →
      exec (.pendingFadeStart ch) s = .next { s with blend := s.blend.set ch { c with
        pending := none
        running := some ⟨q.dir, q.length, match q.dir with
          | .fadeIn => (c.weight + 4096 / q.length - 1) / (4096 / q.length)
          | .fadeOut => (4096 - c.last + 4096 / q.length - 1) / (4096 / q.length)⟩ } }) ∧
    (∀ f, c.running = some f → f.dir = .fadeIn → f.length ≤ f.pos →
      exec (.fadeInEnd ch) s = .next { s with blend := s.blend.set ch { c with running := none, weight := 4096 } })) ∧
  ∀ s : State, s.blend.outAsked = true → (∀ ch, (s.blend.get ch).fadingOut = false) →
    let named := s.blend.lastFade.getD (s.transport.tick - 1)
    let f := s.formatter
    let ended : BlendChannel → BlendChannel := fun c => match c.running with
      | some ⟨.fadeOut, len, k⟩ => if len ≤ k then { c with running := none, weight := 0, last := 0 } else c
      | _ => c
    let faded : State := { s with blend :=
      { s.blend with left := ended s.blend.left, right := ended s.blend.right, outAsked := false, lastFade := none } }
    (s.seq.state ≠ .recording → s.seq.state ≠ .closing → exec .fadeOutEnd s = .next faded) ∧
    (writingEntry s = true →
      let last := max named (s.transport.tick - 2)
      let point : ClosePoint := match f.closePoint with
        | some .forced => .forced
        | some (.normal g) => .normal (min g last)
        | none => .normal last
      let dropped : Prop := ∃ b g, f.build = some b ∧ point = .normal g ∧ g < b.frame
      (f.gate = .opened → ¬ dropped →
        exec .fadeOutEnd s = .next { faded with formatter := { f with closePoint := some point } }) ∧
      (f.gate = .opened → dropped → exec .fadeOutEnd s =
        .next { faded with formatter := { f with closePoint := some point, build := none, run := none } }) ∧
      (∀ sp, f.gate = .closed → f.pendingOpen = some sp → exec .fadeOutEnd s =
        .next { faded with formatter := { f with closePoint := some (.normal (max named sp.first)) } }) ∧
      (f.gate = .closed → f.pendingOpen = none → exec .fadeOutEnd s = .next faded)) ∧
    ∀ k, (s.seq.state = .recording ∨ s.seq.state = .closing) → s.seq.held = some k →
      isRehearsal s.editList[k] = true →
      ∃ t, exec .fadeOutEnd s = .next t ∧
        let given : SeqState → Fin 32 → Sequencer := fun st q => { s.seq with
          state := st, pointer := q, held := none, kept := false, holdPending := false, abortPending := false }
        (s.seq.error.isSome = true → t.seq = given .fault k ∧
          ∀ q, EventSet.has (s.ports.get q).report .seqFault = true →
            EventSet.has (t.ports.get q).events .seqFault = true) ∧
        (s.seq.error = none → s.seq.abortPending = true →
          t.seq = { given .idle k with lastClose := some (.aborted, k) }) ∧
        (s.seq.error = none → s.seq.abortPending = false → s.editList[k].endFlag = true →
          t.seq = { given .idle k with lastClose := some (.complete, k) }) ∧
        (s.seq.error = none → (s.seq.abortPending = true ∨ s.editList[k].endFlag = true) →
          ∀ q, EventSet.has (s.ports.get q).report .seqDone = true →
            EventSet.has (t.ports.get q).events .seqDone = true) ∧
        (s.seq.error = none → s.seq.abortPending = false → s.editList[k].endFlag = false → s.seq.holdPending = true →
          t.seq = given .held (k + 1)) ∧
        (s.seq.error = none → s.seq.abortPending = false → s.editList[k].endFlag = false → s.seq.holdPending = false →
          ∃ u, t.seq = (fetch u).seq ∧ u.seq = given .idle (k + 1) ∧ u.editList = s.editList ∧ u.tapeMap = s.tapeMap ∧
            u.formatter.recordRate = f.recordRate) ∧
        (∀ ch, t.blend.get ch = ⟨0, 0, none, none, false⟩) ∧ t.blend.silence = false ∧ t.blend.outAsked = false ∧
        t.formatter.gate = f.gate ∧ t.formatter.pendingOpen = f.pendingOpen ∧ t.formatter.closePoint = f.closePoint ∧
        t.formatter.build = f.build ∧ t.formatter.ready = f.ready ∧ t.formatter.written = f.written ∧
        t = { s with
          ports := t.ports, formatter := t.formatter, blend := t.blend, seq := t.seq
          monitor := { s.monitor with switch := t.monitor.switch, pending := t.monitor.pending }
          rights := { s.rights with word := t.rights.word, period := t.rights.period }
          outputs := { s.outputs with txWorst := t.outputs.txWorst }
          faults := { s.faults with records := t.faults.records } }

/-- SET MONITOR and MONITOR_SWITCH_END: the mode is set; a source called for that differs from the one selected begins a
switch from position 0, or is kept as the pending source while a switch runs; at position 64 the to source becomes the
output source and a pending source that differs begins its own switch. The output rights word follows the start and the end
of a switch. (That a switch runs, for the payload and the word, from the moment the change is found is deduced: log entry
28. That the refusal carries zeros is deduced: log entry 19.) -/
def Obligations.MonitorSwitches : Prop :=
  (∀ (p : Port) (mode : Byte) (s : State), waitsForRise s p = false →
    (2 < mode.toNat → exec (.setMonitor p mode) s = .next (respond p 0x1C .range .zeros s)) ∧
    ∀ m, [MonitorMode.auto, .input, .tape][mode.toNat]? = some m →
      let want : OutputSource := match m with
        | .auto => if s.seq.held.isSome then .blend else .pre
        | .input => .newPath
        | .tape => if s.formatter.gate = .opened then .conf else .pre
      ∃ t, exec (.setMonitor p mode) s = .next t ∧
        t.monitor = (match s.monitor.switch with
          | none => if want = s.monitor.source then { s.monitor with mode := m }
            else ⟨m, s.monitor.source, some ⟨s.monitor.source, want, 0⟩, none⟩
          | some w => { s.monitor with mode := m, pending := if want = w.dst then none else some want }) ∧
        (t.ports.get p).response = ⟨.ok, 0x1C, .monitor m t.monitor.source t.monitor.switch.isSome⟩ ∧
        (s.monitor.switch = none → want ≠ s.monitor.source →
          t.rights.word = wordOf (copyOfSource (outputCopy t)) ∧
          t.outputs.txWorst = maxCopy s.outputs.txWorst t.rights.word.copy) ∧
        (s.monitor.switch.isSome = true ∨ want = s.monitor.source →
          t.rights.word = s.rights.word ∧ t.outputs.txWorst = s.outputs.txWorst) ∧
        t = { s with
          ports := t.ports, monitor := t.monitor, rights := { s.rights with word := t.rights.word }
          outputs := { s.outputs with txWorst := t.outputs.txWorst } }) ∧
  ∀ (s : State) (w : MonitorSwitch), s.monitor.switch = some w → 64 ≤ w.pos →
    ∃ t, exec .monitorSwitchEnd s = .next t ∧ t.monitor.source = w.dst ∧ t.monitor.mode = s.monitor.mode ∧
      t.monitor.pending = none ∧
      t.monitor.switch = (match s.monitor.pending with
        | some q => if q = w.dst then none else some ⟨w.dst, q, 0⟩
        | none => none) ∧
      t.rights.word = wordOf (copyOfSource (outputCopy t)) ∧
      t = { s with
        monitor := t.monitor, rights := { s.rights with word := t.rights.word }
        outputs := { s.outputs with txWorst := t.outputs.txWorst } }

/-- PAIR_PERIOD with no other step due: one take from the input FIFO and through the new-path concealers, one sample of each
channel repairer, one pair at the outputs, the next pair index; when the clock follows the ticks and has given its last pair,
nothing. What a concealer and a repairer make of their sample is `Obligations.GapsConcealed`. Each channel's blended value is
the rounded mean of the old and the new by the weight, the new value 0 under silence; a running fade gives the weight of its
position and goes on by one; the frame under construction takes the pair. The outputs carry the selected source's pair, or the
mean of two sources by the position of a switch, which goes on by one. Marks add to the counters of their path for a completed
output frame in decode range. (That a fade of no samples left has its target weight is deduced: log entry 29. That a pair is
placed in the frame under construction just when its index is the number of pairs placed, and the order of the work of a pair
period, are deduced: log entry 33.) -/
def Obligations.PairPeriodWorks : Prop :=
  ∀ s : State, settleDue s = s →
    (s.clock.following = true → pairsPerFrame s.clock.rate ≤ s.clock.next → exec .pairPeriod s = .next s) ∧
    ∀ n, (n = s.clock.next ∧ n < pairsPerFrame s.clock.rate) ∨
        (n = 0 ∧ s.clock.following = false ∧ pairsPerFrame s.clock.rate ≤ s.clock.next) →
      ∃ t, exec .pairPeriod s = .next t ∧ t.clock = { s.clock with next := n + 1 } ∧
        t.outputs.txPairs = s.outputs.txPairs + 1 ∧
        (let taken : Option Pair :=
          if s.formatter.fifoState = .priming then none else some (s.formatter.fifo.headD s.formatter.heldPair);
          t.formatter.concealL = (s.formatter.concealL.step s.settings (taken.map (·.l))).1 ∧
          t.formatter.concealR = (s.formatter.concealR.step s.settings (taken.map (·.r))).1) ∧
        (t.preRepair.left = (s.preRepair.giveLeft s.settings (repairInRange s) n).rep ∧
          t.preRepair.right = (s.preRepair.giveRight s.settings (repairInRange s) n).rep ∧
          t.confRepair.left = (s.confRepair.giveLeft s.settings (repairInRange s) n).rep ∧
          t.confRepair.right = (s.confRepair.giveRight s.settings (repairInRange s) n).rep) ∧
        (s.formatter.fifoState = .priming → t.formatter.fifo = s.formatter.fifo ∧
          t.formatter.heldPair = s.formatter.heldPair ∧ t.faults.counters.slip = s.faults.counters.slip) ∧
        (∀ x rest, s.formatter.fifoState = .running → s.formatter.fifo = x :: rest → t.formatter.fifo = rest ∧
          t.formatter.heldPair = x ∧ t.faults.counters.slip = s.faults.counters.slip ∧
          (s.monitor.switch = none → s.monitor.source = .newPath → s.formatter.concealL.state = .live →
            s.formatter.concealR.state = .live → t.outputs.left = x.l * 16 ∧ t.outputs.right = x.r * 16)) ∧
        (s.formatter.fifoState = .running → s.formatter.fifo = [] → t.formatter.fifo = [] ∧
          t.formatter.heldPair = s.formatter.heldPair ∧ t.faults.counters.slip = s.faults.counters.slip + 1) ∧
        (s.monitor.switch = none → s.monitor.source = .pre →
          t.outputs.left = (s.preRepair.giveLeft s.settings (repairInRange s) n).value * 16 ∧
          t.outputs.right = (s.preRepair.giveRight s.settings (repairInRange s) n).value * 16) ∧
        (let taken : Option Pair :=
            if s.formatter.fifoState = .priming then none else some (s.formatter.fifo.headD s.formatter.heldPair)
          let nl := (s.formatter.concealL.step s.settings (taken.map (·.l))).2
          let nr := (s.formatter.concealR.step s.settings (taken.map (·.r))).2
          let pl := s.preRepair.giveLeft s.settings (repairInRange s) n
          let pr := s.preRepair.giveRight s.settings (repairInRange s) n
          let ql := s.confRepair.giveLeft s.settings (repairInRange s) n
          let qr := s.confRepair.giveRight s.settings (repairInRange s) n
          let mix : Sample → Sample → Nat → Sample := fun o v g =>
            (o * (4096 - (g : Int)) + v * (g : Int) + 2048) / 4096
          let weight : BlendChannel → Nat := fun c => match c.running with
            | none => c.weight
            | some ⟨.fadeIn, len, k⟩ => if k < len then k * (4096 / len) else 4096
            | some ⟨.fadeOut, len, k⟩ => if k < len then 4096 - k * (4096 / len) else 0
          let fade : BlendChannel → Option FadeDir := fun c => match c.running with
            | some ⟨dir, len, k⟩ => if k < len then some dir else none
            | none => none
          let after : BlendChannel → BlendChannel := fun c => match c.running with
            | none => { c with last := c.weight }
            | some ⟨dir, len, k⟩ => { c with
                weight := weight c, last := weight c, running := if k < len then some ⟨dir, len, k + 1⟩ else none }
          let new : Sample → Sample := fun v => if s.blend.silence then 0 else v
          let bl := mix pl.value (new nl) (weight s.blend.left)
          let br := mix pr.value (new nr) (weight s.blend.right)
          let pair : OutputSource → Sample × Sample := fun o => match o with
            | .pre => (pl.value, pr.value)
            | .conf => (ql.value, qr.value)
            | .blend => (bl, br)
            | .newPath => (nl, nr)
          let counted : PathCounters → Bool → Mark → Mark → PathCounters := fun k on x y =>
            let of : Mark → Word32 := fun m => (if x = m then 1 else 0) + (if y = m then 1 else 0)
            if on then { k with
              interpolated := k.interpolated + of .interpolated, held := k.held + of .held, muted := k.muted + of .muted }
            else k
          (∀ b, s.formatter.build = some b → n = b.placed.length → n < pairsPerFrame b.rate →
            t.formatter.build = some { b with placed := b.placed ++
              [⟨⟨bl, pl.value, weight s.blend.left, pl.mark, fade s.blend.left⟩,
                ⟨br, pr.value, weight s.blend.right, pr.mark, fade s.blend.right⟩⟩] }) ∧
          (∀ b, s.formatter.build = some b → n ≠ b.placed.length ∨ pairsPerFrame b.rate ≤ n →
            t.formatter.build = some b) ∧
          (s.formatter.build = none → t.formatter.build = none) ∧
          t.blend.left = after s.blend.left ∧ t.blend.right = after s.blend.right ∧
          t.blend.lastFade = (if fade s.blend.left = some .fadeOut ∨ fade s.blend.right = some .fadeOut then
            some (s.transport.tick - 1) else s.blend.lastFade) ∧
          (s.monitor.switch = none → t.monitor.switch = none ∧
            t.outputs.left = (pair s.monitor.source).1 * 16 ∧ t.outputs.right = (pair s.monitor.source).2 * 16) ∧
          (∀ w, s.monitor.switch = some w → w.pos < 64 → t.monitor.switch = some { w with pos := w.pos + 1 } ∧
            t.outputs.left = mix (pair w.src).1 (pair w.dst).1 (w.pos * 64) * 16 ∧
            t.outputs.right = mix (pair w.src).2 (pair w.dst).2 (w.pos * 64) * 16) ∧
          t.faults.counters.pre =
            counted s.faults.counters.pre (repairInRange s && s.preRepair.output.completed) pl.mark pr.mark ∧
          t.faults.counters.conf =
            counted s.faults.counters.conf (repairInRange s && s.confRepair.output.completed) ql.mark qr.mark ∧
          t.faults.counters = { s.faults.counters with
            pre := t.faults.counters.pre, conf := t.faults.counters.conf, slip := t.faults.counters.slip }) ∧
        t = { s with
          clock := t.clock, preRepair := { s.preRepair with left := t.preRepair.left, right := t.preRepair.right }
          confRepair := { s.confRepair with left := t.confRepair.left, right := t.confRepair.right }
          blend := { s.blend with left := t.blend.left, right := t.blend.right, lastFade := t.blend.lastFade }
          monitor := { s.monitor with switch := t.monitor.switch }
          outputs := { s.outputs with left := t.outputs.left, right := t.outputs.right, txPairs := t.outputs.txPairs }
          formatter := { s.formatter with
            fifo := t.formatter.fifo, heldPair := t.formatter.heldPair, concealL := t.formatter.concealL
            concealR := t.formatter.concealR, build := t.formatter.build }
          faults := { s.faults with counters := t.faults.counters } }

/-! ## Input FIFO, links and rights -/

/-- A 24-bit sample arrives rounded to 20 bits, halves up, and clamped once; a pair joins the FIFO below 2048 pairs, which
runs from its priming level on, and is dropped as a slip at 2048. The receiver's pairs are dropped before the FIFO unless
DIGITAL is selected and usable. That the converter's pairs arrive only while ANALOG is selected is deduced (log entry 6). -/
def Obligations.PairsArriveConverted : Prop :=
  (∀ v : BitVec 24,
    (v.toInt < 8388600 → 16 * convert24 v ≤ v.toInt + 8 ∧ v.toInt + 8 < 16 * convert24 v + 16) ∧
    (8388600 ≤ v.toInt → convert24 v = 524287)) ∧
  ∀ (l r : BitVec 24) (s : State),
    let joined := s.formatter.fifo ++ [⟨convert24 l, convert24 r⟩]
    let level : Nat := match selectedSource s with | .analog => 16 | .digital => 1024
    let st : FifoState := if s.formatter.fifoState = .running ∨ joined.length = level then .running else .priming
    let slips := s.faults.counters.slip + 1
    let after : State :=
      if joined.length ≤ 2048 then { s with formatter := { s.formatter with fifo := joined, fifoState := st } }
      else { s with faults := { s.faults with counters := { s.faults.counters with slip := slips } } }
    let usableNow : Prop := s.rights.lock = true ∧ s.formatter.linkRate = some (.known s.formatter.recordRate)
    (selectedSource s = .analog → exec (.converterPairArrival l r) s = .next after) ∧
    (selectedSource s = .digital → exec (.converterPairArrival l r) s = .next s) ∧
    (selectedSource s = .digital → usableNow → exec (.receiverPairArrival l r) s = .next after) ∧
    (selectedSource s = .analog ∨ ¬ usableNow → exec (.receiverPairArrival l r) s = .next s)

/-- A status record while locked: it joins the history, or begins a new one when its tag differs from the newest; two that
agree in class, copy-permit and generation make it the accepted record, from which the digital source state follows; the
rate goes to the formatter. A fall of the selected digital state to NONE in a PUNCH or ASSEMBLE that writes silences the new
audio, starts the fade-out and goes to CLOSING with DENIED when the gate is OPEN, and is a forced close when the open is
pending; in every other case the sequencer takes no notice. While unlocked the receiver delivers none (the model drops it:
log entry 7). -/
def Obligations.StatusRecordsAccepted : Prop :=
  ∀ (r : StatusRecord) (s : State),
    (s.rights.lock = false → exec (.statusRecord r) s = .next s) ∧
    (s.rights.lock = true → ∃ t, exec (.statusRecord r) s = .next t ∧
      let newest := s.rights.history.getLast?
      let follows : Prop := ∃ n, newest = some n ∧ n.tag = r.tag
      let agrees : Prop := ∃ n, newest = some n ∧ n.tag = r.tag ∧ n.cls = r.cls ∧ n.permit = r.permit ∧
        n.generation = r.generation
      (∀ n, newest = some n → n.tag = r.tag → t.rights.history = [n, r]) ∧ (¬ follows → t.rights.history = [r]) ∧
      (agrees → t.rights.accepted = some ⟨r.cls, r.permit, r.generation, r.tag⟩ ∧
        t.rights.digital = (match r.cls, r.permit, r.generation with
          | .pro, _, _ => .rightsOpen
          | .consumer, true, _ => .rightsOpen
          | .consumer, false, .original => .rightsOne
          | .consumer, false, .copy => .rightsNone)) ∧
      (¬ agrees → t.rights.accepted = s.rights.accepted ∧ t.rights.digital = s.rights.digital) ∧
      (t.rights.digital ≠ s.rights.digital → ∀ q, EventSet.has (s.ports.get q).report .rightsChanged = true →
        EventSet.has (t.ports.get q).events .rightsChanged = true) ∧
      t.formatter.linkRate = some r.rate ∧
      (t.rights.digital = s.rights.digital → s.formatter.linkRate = some r.rate →
        t = { s with rights := { s.rights with history := t.rights.history, accepted := t.rights.accepted } }) ∧
      (t.rights.digital ≠ s.rights.digital → t.rights.digital = .rightsNone → selectedSource s = .digital →
        s.formatter.linkRate = some r.rate →
        let afa := if s.tapeMap.pos.state = .unknown then none else some s.tapeMap.pos.afa
        (∀ k, writingEntry s = true → s.seq.held = some k → recordsNew s.editList[k] = true →
          let denied : Fin 32 → Option ErrorRecord := fun k =>
            if s.seq.error.isSome then s.seq.error else some ⟨.denied, .run, k + 1, .rightsNone, afa⟩
          let len := 64 * 2 ^ s.editList[k].fadeOut.toNat
          let runs : Prop := ∃ ch f, (s.blend.get ch).running = some f ∧ f.dir = .fadeOut
          let out : BlendChannel → BlendChannel := fun c =>
            if c.selected then { c with
              pending := none
              running := some ⟨.fadeOut, len, (4096 - c.last + 4096 / len - 1) / (4096 / len)⟩ }
            else c
          let hush : PlacedSample → PlacedSample := fun y => { y with value := blendValue y.old 0 y.weight }
          (s.formatter.gate = .opened →
            t.seq = { s.seq with state := .closing, error := denied k } ∧ t.blend.silence = true ∧
            t.formatter = { s.formatter with build := s.formatter.build.map fun b =>
              { b with placed := b.placed.map fun y => ⟨hush y.l, hush y.r⟩, built := none } } ∧
            (runs → t.blend = { s.blend with silence := true }) ∧
            (¬ runs → t.blend = ⟨out s.blend.left, out s.blend.right, true, true, none⟩)) ∧
          (s.formatter.gate = .closed → s.formatter.pendingOpen.isSome = true →
            t.seq = { s.seq with
              state := .fault, pointer := k, held := none, kept := false, holdPending := false, abortPending := false
              error := denied k } ∧
            t.formatter.gate = .closed ∧ t.formatter.pendingOpen = none ∧ t.formatter.build = none ∧
            t.formatter.ready = none ∧ ∀ ch, t.blend.get ch = ⟨0, 0, none, none, false⟩)) ∧
        (writingEntry s = false ∨ (∀ k, s.seq.held = some k → recordsNew s.editList[k] = false) →
          t.seq = s.seq ∧ t.blend = s.blend ∧ t.formatter = s.formatter)) ∧
      t = { s with
        ports := t.ports, blend := t.blend, seq := t.seq, rights := t.rights
        formatter := t.formatter
        monitor := { s.monitor with switch := t.monitor.switch, pending := t.monitor.pending }
        outputs := { s.outputs with txWorst := t.outputs.txWorst }
        faults := { s.faults with records := t.faults.records } } ∧
      t.rights.lock = true ∧ t.rights.tape = s.rights.tape ∧ t.rights.candidate = s.rights.candidate ∧
      t.formatter.recordRate = s.formatter.recordRate ∧ t.formatter.defaultSource = s.formatter.defaultSource ∧
      t.formatter.analogRights = s.formatter.analogRights ∧ t.formatter.writeEnable = s.formatter.writeEnable ∧
      t.formatter.written = s.formatter.written ∧ t.seq.lastPosition = s.seq.lastPosition)

/-- LOSS_OF_LOCK empties the status history and the accepted record and makes the digital source state UNSTATED, and a DIGITAL
source that was usable empties the FIFO. While it was selected, the period rights become UNSTATED and INPUT is raised as
UNLOCKED; in LATCHED or AUTO its action is a forced close of a write in progress with error INPUT. LOCK_REGAINED records the
lock and changes nothing else at the rights unit. (That the link's last rate field is kept while unlocked is the model's
choice: log entry 11. That the loss empties the FIFO while ANALOG is selected too is deduced: log entry 32. That the rights
unit takes the loss before the formatter is the model's choice: log entry 51. What else a forced close clears is deduced: log
entry 20.) -/
def Obligations.LockLostAndRegained : Prop :=
  ∀ s : State,
    (∃ t, exec .lossOfLock s = .next t ∧ t.rights.lock = false ∧ t.rights.history = [] ∧ t.rights.accepted = none ∧
      t.rights.digital = .rightsUnstated ∧
      (s.rights.lock = true → s.formatter.linkRate = some (.known s.formatter.recordRate) →
        t.formatter.fifo = [] ∧ t.formatter.fifoState = .priming) ∧
      (selectedSource s = .analog → t.seq = s.seq ∧ t.blend = s.blend ∧ t.rights.period = s.rights.period ∧
        t.formatter.gate = s.formatter.gate ∧ t.formatter.closePoint = s.formatter.closePoint) ∧
      (selectedSource s = .digital → s.rights.digital ≠ .rightsUnstated → t.rights.period = .rightsUnstated) ∧
      (s.rights.lock = true → s.formatter.linkRate = some (.known s.formatter.recordRate) → selectedSource s = .digital →
        let r := s.faults.records.input
        let afa := if s.tapeMap.pos.state = .unknown then none else some s.tapeMap.pos.afa
        (r.present = false → r.mode ≠ .off → ∀ q, EventSet.has (s.ports.get q).report .faultRaised = true →
          EventSet.has (t.ports.get q).events .faultRaised = true) ∧
        (writingEntry s = false ∨ gateInPlay s = false ∨ r.present = true ∨ r.mode = .warn ∨ r.mode = .off →
          t.faults.records.input = r.under (some .inputUnlocked) afa ∧ t.seq = s.seq ∧ t.blend = s.blend ∧
          t.formatter.gate = s.formatter.gate ∧ t.formatter.closePoint = s.formatter.closePoint) ∧
        ∀ j, s.seq.held = some j → writingEntry s = true → gateInPlay s = true → r.present = false →
          (r.mode = .latched ∨ r.mode = .auto) →
          t.seq = { s.seq with
            state := .fault, pointer := j, held := none, kept := false, holdPending := false, abortPending := false
            error := if s.seq.error.isSome then s.seq.error else some ⟨.input, .run, j + 1, .absent, afa⟩ } ∧
          t.formatter.gate = s.formatter.gate ∧ t.formatter.pendingOpen = none ∧ t.formatter.build = none ∧
          (s.formatter.gate = .opened → t.formatter.closePoint = some .forced) ∧
          (∀ ch, t.blend.get ch = ⟨0, 0, none, none, false⟩) ∧ t.faults.records.input.seen = true ∧
          t.faults.records.input.detail = .inputUnlocked ∧
          (t.faults.records.input.present = true ↔ s.formatter.defaultSource = .digital)) ∧
      (s.rights.digital ≠ .rightsUnstated → ∀ q, EventSet.has (s.ports.get q).report .rightsChanged = true →
        EventSet.has (t.ports.get q).events .rightsChanged = true) ∧
      (s.rights.digital = .rightsUnstated →
        (s.rights.lock = false ∨ s.formatter.linkRate ≠ some (.known s.formatter.recordRate)) →
        t = { s with rights := { s.rights with lock := false, history := [], accepted := none } }) ∧
      t = { s with
        ports := t.ports, blend := t.blend, seq := t.seq, rights := t.rights
        formatter := t.formatter
        monitor := { s.monitor with switch := t.monitor.switch, pending := t.monitor.pending }
        outputs := { s.outputs with txWorst := t.outputs.txWorst }
        faults := { s.faults with records := t.faults.records } } ∧
      t.rights.tape = s.rights.tape ∧ t.rights.candidate = s.rights.candidate ∧
      t.formatter.linkRate = s.formatter.linkRate ∧ t.formatter.writeEnable = s.formatter.writeEnable ∧
      t.formatter.recordRate = s.formatter.recordRate ∧ t.formatter.written = s.formatter.written) ∧
    ∃ t, exec .lockRegained s = .next t ∧ t.rights.lock = true ∧ t.rights.history = s.rights.history ∧
      t.rights.accepted = s.rights.accepted ∧ t.rights.digital = s.rights.digital ∧ t.rights.tape = s.rights.tape ∧
      t.rights.candidate = s.rights.candidate ∧
      (s.formatter.linkRate ≠ some (.known s.formatter.recordRate) ∨ selectedSource s = .analog →
        s.faults.records.input.present = false →
        t = { s with rights := { s.rights with lock := true } }) ∧
      (s.faults.records.input.mode = .auto → s.formatter.linkRate = some (.known s.formatter.recordRate) →
        s.rights.lock = false → t.faults.records.input.present = false ∧ t.faults.records.input.action = false ∨
          s.faults.records.input.present = false) ∧
      t = { s with
        ports := t.ports, blend := t.blend, seq := t.seq, rights := t.rights
        formatter := t.formatter
        monitor := { s.monitor with switch := t.monitor.switch, pending := t.monitor.pending }
        outputs := { s.outputs with txWorst := t.outputs.txWorst }
        faults := { s.faults with records := t.faults.records } } ∧
      t.formatter.linkRate = s.formatter.linkRate ∧ t.formatter.writeEnable = s.formatter.writeEnable

/-- The restriction order, the written states, and the copy state of a frame: at least as restrictive as the written state
of the rights its new audio was taken under and as the copy state of the old material that it still holds. FRAME_TICK keeps the
period rights of the period ended and sets them again to the state of the selected source, and each change of that state makes
them more restrictive; a PRE RIGHTS pack becomes the candidate, or, when it is the candidate, the tape rights, with
RIGHTS_CHANGED when they differ. A status record that changes the selected digital state makes the period rights more
restrictive. -/
def Obligations.RightsNeverRelax : Prop :=
  (∀ a b : SourceState, let m := moreRestrictive a b
    (m = a ∨ m = b) ∧ restriction a ≤ restriction m ∧ restriction b ≤ restriction m ∧
    (restriction a = 2 → restriction b = 2 → (m = .rightsUnstated ↔ a = .rightsUnstated ∨ b = .rightsUnstated))) ∧
  ((grantState .rightsOpen = some .copyOpen ∧ grantState .rightsOne = some .copyNone ∧ grantState .rightsNone = none ∧
      grantState .rightsUnstated = none) ∧
    (writtenState .rightsOpen = .copyOpen ∧ writtenState .rightsOne = .copyNone ∧ writtenState .rightsNone = .copyNone ∧
      writtenState .rightsUnstated = .copyNone)) ∧
  (∀ (b : Build) (period : SourceState),
    let newAudio : Prop := ∃ q, q ∈ b.placed ∧ (0 < q.l.weight ∨ 0 < q.r.weight)
    let oldAudio : Prop := ∃ q, q ∈ b.placed ∧ (q.l.weight < 4096 ∨ q.r.weight < 4096)
    let emptyOld : Prop := b.old.completed = true ∧ b.old.identity = .absent
    let old : CopyState := match b.old.rights with
      | some k => k.copy
      | none => .copyNone
    (b.kind = .mark ∨ ¬ newAudio → frameCopy b period = old) ∧
    (b.kind ≠ .mark → newAudio → (¬ oldAudio ∨ emptyOld) → frameCopy b period = writtenState period) ∧
    (b.kind ≠ .mark → newAudio → oldAudio → ¬ emptyOld → frameCopy b period = maxCopy (writtenState period) old) ∧
    (b.kind ≠ .mark → newAudio → codeOfCopy (writtenState period) ≤ codeOfCopy (frameCopy b period)) ∧
    (oldAudio → ¬ emptyOld → codeOfCopy old ≤ codeOfCopy (frameCopy b period))) ∧
  (∀ (dir : Direction) (us : Nat) (s : State), ∃ t, exec (.frameTick dir us) s = .next t ∧
    let packs := (decoderResult .pre { s with transport := t.transport }).packs
    (beforeTick s = s → restriction s.rights.period ≤ restriction t.rights.kept ∧
      restriction (selectedState t) ≤ restriction t.rights.period ∧
      (s.seq.held = none → t.rights.kept = s.rights.period ∧ t.rights.period = selectedState s)) ∧
    (packs.rights = none ∨ s.transport.mode = .unloaded →
      t.rights.tape = s.rights.tape ∧ t.rights.candidate = s.rights.candidate) ∧
    ∀ k, packs.rights = some k → s.transport.mode ≠ .unloaded →
      t.rights.candidate = some k ∧
      (s.rights.candidate ≠ some k → t.rights.tape = s.rights.tape) ∧
      (s.rights.candidate = some k → t.rights.tape = ⟨sourceOfCopy k.copy, k.cls⟩ ∧
        (t.rights.tape ≠ s.rights.tape → ∀ q, EventSet.has (s.ports.get q).report .rightsChanged = true →
          EventSet.has (t.ports.get q).events .rightsChanged = true))) ∧
  ∀ (r : StatusRecord) (s : State), s.rights.lock = true → writingEntry s = false →
    ∃ t, exec (.statusRecord r) s = .next t ∧
      (t.rights.digital ≠ s.rights.digital → selectedSource s = .digital →
        t.rights.period = moreRestrictive s.rights.period t.rights.digital) ∧
      (t.rights.digital = s.rights.digital ∨ selectedSource s = .analog → t.rights.period = s.rights.period)

/-- The output rights word formed again from the output copy state: the copy state of the output source, or while a monitor
switch runs the more restrictive of the from and the to source's; PRE has the tape's, NEW the selected source's, CONF and BLEND
the more restrictive of the two. TX_STATUS_RECORD: after 256 pairs the record carries class CONSUMER, the most restrictive word
in force during the block, the clock rate and tag 0, and the next block begins under the word in force. (That the rate is the
one held as the block ends is the model's choice: log entry 40. That the step does nothing when it is taken before 256 pairs is
the model's choice: log entry 1.) -/
def Obligations.OutputRights : Prop :=
  (∀ s : State, let t := refreshWord s
    t = { s with
      rights := { s.rights with word := t.rights.word }, outputs := { s.outputs with txWorst := t.outputs.txWorst } } ∧
    (t.rights.word.permit = true ↔ outputCopy s = .rightsOpen) ∧
    (t.rights.word.generation = .copy ↔ outputCopy s = .rightsNone ∨ outputCopy s = .rightsUnstated) ∧
    (t.rights.word.copy = .copyOpen ↔ outputCopy s = .rightsOpen) ∧
    (t.rights.word.copy = .copyOne ↔ outputCopy s = .rightsOne) ∧
    codeOfCopy t.outputs.txWorst = max (codeOfCopy s.outputs.txWorst) (codeOfCopy t.rights.word.copy) ∧
    (s.monitor.switch = none → outputCopy s = sourceCopy s s.monitor.source) ∧
    (∀ w, s.monitor.switch = some w → outputCopy s = moreRestrictive (sourceCopy s w.src) (sourceCopy s w.dst) ∧
      restriction (sourceCopy s w.src) ≤ restriction (outputCopy s) ∧
      restriction (sourceCopy s w.dst) ≤ restriction (outputCopy s)) ∧
    sourceCopy s .pre = s.rights.tape.copy ∧ sourceCopy s .newPath = selectedState s ∧
    sourceCopy s .conf = moreRestrictive s.rights.tape.copy (selectedState s) ∧
    sourceCopy s .blend = moreRestrictive s.rights.tape.copy (selectedState s) ∧
    ∀ src, restriction (sourceCopy s src) = (match src with
      | .pre => restriction s.rights.tape.copy
      | .newPath => restriction (selectedState s)
      | .conf => max (restriction s.rights.tape.copy) (restriction (selectedState s))
      | .blend => max (restriction s.rights.tape.copy) (restriction (selectedState s)))) ∧
  ∀ s : State,
    (256 ≤ s.outputs.txPairs → ∃ r : TxRecord,
      exec .txStatusRecord s = .next { s with outputs := { s.outputs with
        txPairs := 0, txWorst := s.rights.word.copy, txSent := some r } } ∧
      r.cls = .consumer ∧ r.tag = 0 ∧ r.rate = s.clock.rate ∧ (r.permit = true ↔ s.outputs.txWorst = .copyOpen) ∧
      (r.generation = .copy ↔ s.outputs.txWorst = .copyNone)) ∧
    (s.outputs.txPairs < 256 → exec .txStatusRecord s = .next s)

/-- READ RIGHTS: every field as held when the request takes effect, result OK, nothing changed. -/
def Obligations.ReadRightsReturnsAll : Prop :=
  ∀ (p : Port) (s : State), waitsForRise s p = false → ∃ v : RightsView,
    exec (.readRights p) s = .next (respond p 0x13 .ok (.rights v) s) ∧
    v.lock = s.rights.lock ∧ v.historyCount = s.rights.history.length ∧ v.accepted = s.rights.accepted ∧
    v.digital = s.rights.digital ∧ v.analog = sourceOfCopy s.formatter.analogRights ∧
    v.selected = selectedSource s ∧ v.selectedState = (if v.selected = .digital then v.digital else v.analog) ∧
    v.grantState = grantState v.selectedState ∧ v.period = s.rights.period ∧ v.tape = s.rights.tape ∧
    v.candidate = s.rights.candidate ∧ v.source = s.monitor.source ∧ v.switching = s.monitor.switch.isSome ∧
    v.outputCopy = outputCopy s ∧ v.word = s.rights.word

/-! ## Record formatter -/

/-- FRAME_BUILD_COMPLETE, due: the last sample has been placed; and FRAME_TICK, which completes a frame whose last sample has
not been placed, under the period rights kept at it, and lets the complete frame wait for its write or begins it, unless the
tick ends the entry in FAULT. The complete frame carries the AFA, rate and PROGRAM values it was begun with, the copy state for
the period rights as they stand, the class and generation of its kind, the placed samples in their slots with 0 in the padding
and in every slot not placed, and every baked sample counted on one of its tracks. (That an ASSEMBLE frame's generation goes by
the position state kept with its own old frame is deduced: log entry 22. That FRAME_BUILD_COMPLETE does nothing when it is
taken while not due is the model's choice: log entry 1. That the last edit generation read is the one held as the frame is
completed, and not the one at its PRE read, is its choice: log entry 56. That at a FRAME_TICK the frame takes that generation
and the selected source held before the tick's PRE completion is the model's order: log entry 4.) -/
def Obligations.FramesCompleted : Prop :=
  let completes : Build → SourceState → State → BuiltFrame → Prop := fun b period s f =>
    f.frame = b.frame ∧ f.afa = b.afa ∧ f.position = ⟨b.afa, b.rate⟩ ∧ f.program = b.program ∧
    f.rights.copy = frameCopy b period ∧
    (b.kind = .mark ∨ (∀ q ∈ b.placed, q.l.weight = 0 ∧ q.r.weight = 0) →
      f.rights.cls = (match b.old.rights with | some k => k.cls | none => .unstated)) ∧
    (b.kind ≠ .mark → (∃ q ∈ b.placed, 0 < q.l.weight ∨ 0 < q.r.weight) →
      (selectedSource s = .analog → f.rights.cls = .analog) ∧
      (selectedSource s = .digital → f.rights.cls = (match s.rights.accepted with
        | some ⟨.pro, _, _, _⟩ => .pro
        | some ⟨.consumer, _, _, _⟩ => .consumer
        | none => .unstated))) ∧
    (∀ e, b.old.edit = some e → f.edit.generation = if b.kind = .mark then e.generation else min 255 (e.generation + 1)) ∧
    (b.old.edit = none → f.edit.generation =
      if b.kind = .mark then s.tapeMap.pos.lastGeneration
      else if b.kind = .assemble ∧ (b.old.posState = .blank ∨ b.old.posState = .unknown) then 0
      else min 255 (s.tapeMap.pos.lastGeneration + 1)) ∧
    (f.edit.splice = true ↔ b.kind ≠ .mark ∧ ∃ q ∈ b.placed, q.l.fade.isSome = true ∨ q.r.fade.isSome = true) ∧
    (f.edit.kind = .spliceOut ↔
      b.kind ≠ .mark ∧ ∃ q ∈ b.placed, q.l.fade = some .fadeOut ∨ q.r.fade = some .fadeOut) ∧
    f.left.length = 960 ∧ f.right.length = 960 ∧
    (∀ n q, n < pairsPerFrame b.rate → b.placed[n]? = some q →
      f.left[n]? = some q.l.value ∧ f.right[n]? = some q.r.value) ∧
    (∀ n, (pairsPerFrame b.rate ≤ n ∨ b.placed.length ≤ n) → n < 960 → f.left[n]? = some 0 ∧ f.right[n]? = some 0) ∧
    f.bakedA + f.bakedB =
      (b.placed.countP fun q => q.l.mark != .unmarked && decide (q.l.weight < 4096)) +
      (b.placed.countP fun q => q.r.mark != .unmarked && decide (q.r.weight < 4096))
  (∀ (s : State) (b : Build), s.formatter.build = some b → b.built = none → pairsPerFrame b.rate ≤ b.placed.length →
    ∃ f : BuiltFrame,
      exec .frameBuildComplete s = .next { s with formatter := { s.formatter with
        build := some { b with built := some f } } } ∧ completes b s.rights.period s f) ∧
  (∀ s : State, (∀ b, s.formatter.build = some b → b.built ≠ none ∨ b.placed.length < pairsPerFrame b.rate) →
    exec .frameBuildComplete s = .next s) ∧
  ∀ (dir : Direction) (us : Nat) (s : State) (b : Build), beforeTick s = s → s.formatter.build = some b →
    ∃ t f, exec (.frameTick dir us) s = .next t ∧
      (∀ g, b.built = some g → f = g) ∧ (b.built = none → t.seq.state ≠ .fault → completes b s.rights.period s f) ∧
      (t.seq.state ≠ .fault → t.formatter.ready = some f ∨ t.formatter.sending = some (f, .a))

/-- GATE_OPEN_TEST, due: at the boundary that begins the pending frame's write. With writing enabled and the write window
open the gate opens, the frame's write begins and GATE_OPENED is raised; otherwise the gate stays CLOSED, the pending open and
the built frame are discarded, and the entry ends in FAULT with the first cause that applies. (That a refusal leaves the
pointer at the entry, clears the pending flags and raises SEQ_FAULT, as a forced close does, is deduced: log entry 20.) -/
def Obligations.GateOpensOrRefuses : Prop :=
  ∀ (s : State) (sp : Span), s.formatter.gate = .closed → s.formatter.pendingOpen = some sp →
    sp.first + 2 ≤ s.transport.tick →
    let t := s.transport
    let speed : Prop := t.stalled = false ∧ t.dir = .forward ∧ 990 ≤ t.ratio ∧ t.ratio ≤ 1010
    let permitted : Prop := s.formatter.writeEnable = true ∧ t.prot = false ∧ t.mode = .record ∧ t.lock = true ∧ speed
    (permitted → ∃ u, exec .gateOpenTest s = .next u ∧
      u.formatter = { s.formatter with
        gate := .opened, pendingOpen := none, openSpan := some sp
        sending := s.formatter.ready.map fun f => (f, .a), ready := none } ∧
      (∀ q, EventSet.has (s.ports.get q).report .gateOpened = true →
        EventSet.has (u.ports.get q).events .gateOpened = true) ∧
      u = { s with
        ports := u.ports, formatter := u.formatter
        monitor := { s.monitor with switch := u.monitor.switch, pending := u.monitor.pending }
        rights := { s.rights with word := u.rights.word }
        outputs := { s.outputs with txWorst := u.outputs.txWorst } }) ∧
    (¬ permitted → ∀ k, s.seq.held = some k → (s.seq.state = .recording ∨ s.seq.state = .closing) →
      ∃ u, exec .gateOpenTest s = .next u ∧
        u.formatter.gate = .closed ∧ u.formatter.pendingOpen = none ∧ u.formatter.closePoint = none ∧
        u.formatter.ready = none ∧ u.formatter.build = none ∧ u.formatter.run = none ∧
        u.seq = { s.seq with
          state := .fault, pointer := k, held := none, kept := false, holdPending := false, abortPending := false
          error := if s.seq.error.isSome then s.seq.error else
            let afa := if s.tapeMap.pos.state = .unknown then none else some s.tapeMap.pos.afa
            some (if s.formatter.writeEnable = false then ⟨.writeOff, .run, k + 1, .absent, afa⟩
              else if t.prot then ⟨.tapeProtected, .run, k + 1, .absent, afa⟩
              else if t.mode ≠ .record then ⟨.transport, .run, k + 1, .notRecord, afa⟩
              else if t.lock = false then ⟨.transport, .run, k + 1, .noLock, afa⟩
              else ⟨.transport, .run, k + 1, .speed, afa⟩) } ∧
        (∀ ch, u.blend.get ch = ⟨0, 0, none, none, false⟩) ∧
        (∀ q, EventSet.has (s.ports.get q).report .seqFault = true →
          EventSet.has (u.ports.get q).events .seqFault = true) ∧
        u.formatter.writeEnable = s.formatter.writeEnable ∧ u.formatter.written = s.formatter.written ∧
        u = { s with
          ports := u.ports, formatter := u.formatter, blend := u.blend, seq := u.seq
          monitor := { s.monitor with switch := u.monitor.switch, pending := u.monitor.pending }
          rights := { s.rights with word := u.rights.word, period := u.rights.period }
          outputs := { s.outputs with txWorst := u.outputs.txWorst }
          faults := { s.faults with records := u.faults.records } })

/-- NORMAL_CLOSE_EFFECT and FORCED_CLOSE_EFFECT, each due: the gate closes at its close point and GATE_CLOSED is raised; an
entry in CLOSING completes with it, as its error, abort, end flag and hold say, in that order, and with none of them a fetch
begins at the next entry; a sequencer in another state goes on as it was. (That a close with no open pending drops the frame
being built, the frame that waits and the run is deduced: log entry 34.) -/
def Obligations.GateClosesAtItsPoint : Prop :=
  ∀ (c : Instr) (s : State), s.formatter.gate = .opened → s.formatter.sending = none →
    (c = .normalCloseEffect ∧ ∃ g, s.formatter.closePoint = some (.normal g) ∧ g + 3 ≤ s.transport.tick) ∨
      (c = .forcedCloseEffect ∧ s.formatter.closePoint = some .forced) →
    ∃ t, exec c s = .next t ∧
      t.formatter.gate = .closed ∧ t.formatter.closePoint = none ∧ t.formatter.openSpan = none ∧
      t.formatter.sending = none ∧ t.formatter.pendingOpen = s.formatter.pendingOpen ∧
      (s.formatter.pendingOpen = none → t.formatter.build = none ∧ t.formatter.ready = none ∧ t.formatter.run = none) ∧
      t.formatter.written = s.formatter.written ∧ t.formatter.writeEnable = s.formatter.writeEnable ∧
      (∀ q, EventSet.has (s.ports.get q).report .gateClosed = true →
        EventSet.has (t.ports.get q).events .gateClosed = true) ∧
      (s.seq.state ≠ .closing ∨ s.formatter.pendingOpen.isSome = true → t.seq = s.seq ∧ t.blend = s.blend ∧
        t.faults = s.faults) ∧
      (∀ k, s.seq.state = .closing → s.formatter.pendingOpen = none → s.seq.held = some k →
        isRehearsal s.editList[k] = false →
        (s.seq.error.isSome = true → t.seq = { s.seq with
          state := .fault, pointer := k, held := none, kept := false, holdPending := false, abortPending := false }) ∧
        (s.seq.error = none → s.seq.abortPending = true → t.seq = { s.seq with
          state := .idle, pointer := k, held := none, kept := false, holdPending := false, abortPending := false
          lastClose := some (.aborted, k) }) ∧
        (s.seq.error = none → s.seq.abortPending = false → s.editList[k].endFlag = true → t.seq = { s.seq with
          state := .idle, pointer := k, held := none, kept := false, holdPending := false
          lastClose := some (.complete, k) }) ∧
        (s.seq.error = none → s.seq.abortPending = false → s.editList[k].endFlag = false → s.seq.holdPending = true →
          t.seq = { s.seq with
            state := .held, pointer := k + 1, held := none, kept := false, holdPending := false }) ∧
        (s.seq.error = none → s.seq.abortPending = false → s.editList[k].endFlag = false → s.seq.holdPending = false →
          ∃ u, t.seq = (fetch u).seq ∧ u.seq = { s.seq with
              state := .idle, pointer := k + 1, held := none, kept := false, holdPending := false } ∧
            u.editList = s.editList ∧ u.tapeMap = s.tapeMap ∧ u.formatter.recordRate = s.formatter.recordRate)) ∧
      t = { s with
        ports := t.ports, formatter := t.formatter, blend := t.blend, seq := t.seq
        monitor := { s.monitor with switch := t.monitor.switch, pending := t.monitor.pending }
        rights := { s.rights with word := t.rights.word, period := t.rights.period }
        outputs := { s.outputs with txWorst := t.outputs.txWorst }
        faults := { s.faults with records := t.faults.records } }

/-- TRACK_A_SENT and FRAME_WRITE_COMPLETE, each due: the baked samples of the track count for BAKED and for the sequencer; a
track A sent gives the index its WRITTEN entry when its frame begins a run, and takes away an entry that starts at its AFA
otherwise, which clears INDEX_FULL; a frame whose track B has been sent joins the written list, of which the newest 4 stay. -/
def Obligations.TracksSent : Prop :=
  (∀ (s : State) (f : BuiltFrame), s.formatter.sending = some (f, .a) → indexHeld s →
    ∃ t, exec .trackASent s = .next t ∧
      t.formatter = { s.formatter with sending := if s.formatter.closePoint = some .forced then none else some (f, .b) } ∧
      t.faults = { s.faults with counters := { s.faults.counters with
        baked := s.faults.counters.baked + BitVec.ofNat 32 f.bakedA } } ∧
      t.seq = { s.seq with baked := s.seq.baked + BitVec.ofNat 32 f.bakedA } ∧
      indexHeld t ∧
      (f.program.marker = none ∨ f.program.runIndex ≠ 0 →
        t.tapeMap.index = (s.tapeMap.index.filter fun e => e.start != f.afa) ∧
        ((∃ e ∈ s.tapeMap.index, e.start = f.afa) → t.tapeMap.indexFull = false) ∧
        ((∀ e ∈ s.tapeMap.index, e.start ≠ f.afa) → t.tapeMap.indexFull = s.tapeMap.indexFull)) ∧
      (∀ k, f.program.marker = some k → f.program.runIndex = 0 →
        let new : IndexEntry := ⟨f.afa, k, f.program.number, .written⟩
        let near := fun e : IndexEntry => e.start ≤ f.afa + 2 ∧ f.afa ≤ e.start + 2
        ((∀ e ∈ s.tapeMap.index, ¬ near e) → s.tapeMap.index.length < 64 →
          t.tapeMap.indexFull = s.tapeMap.indexFull ∧ ∀ e, e ∈ t.tapeMap.index ↔ e = new ∨ e ∈ s.tapeMap.index) ∧
        ((∀ e ∈ s.tapeMap.index, ¬ near e) → s.tapeMap.index.length = 64 →
          t.tapeMap.index = s.tapeMap.index ∧ t.tapeMap.indexFull = true) ∧
        ((∃ e ∈ s.tapeMap.index, near e) → new ∈ t.tapeMap.index ∧
          t.tapeMap.index.length = s.tapeMap.index.length ∧
          ∀ e ∈ s.tapeMap.index, ¬ near e → e ∈ t.tapeMap.index)) ∧
      (t.tapeMap.index = s.tapeMap.index → t.tapeMap.changeCount = s.tapeMap.changeCount) ∧
      (t.tapeMap.index ≠ s.tapeMap.index → t.tapeMap.changeCount = s.tapeMap.changeCount + 1 ∧
        ∀ q, EventSet.has (s.ports.get q).report .indexChanged = true →
          EventSet.has (t.ports.get q).events .indexChanged = true) ∧
      t = { s with
        ports := t.ports, formatter := t.formatter, seq := t.seq, faults := t.faults
        tapeMap := { s.tapeMap with
          index := t.tapeMap.index, indexFull := t.tapeMap.indexFull, changeCount := t.tapeMap.changeCount } }) ∧
  ∀ (s : State) (f : BuiltFrame), s.formatter.sending = some (f, .b) →
    let baked := BitVec.ofNat 32 f.bakedB
    let list := s.formatter.written.drop (s.formatter.written.length - 3) ++ [⟨f.afa, f.frame⟩]
    let counters : Counters := { s.faults.counters with baked := s.faults.counters.baked + baked }
    list.length ≤ 4 ∧
    exec .frameWriteComplete s = .next { s with
      formatter := { s.formatter with sending := none, written := list }
      faults := { s.faults with counters := counters }
      seq := { s.seq with baked := s.seq.baked + baked } }

/-- WRITTEN_LIST_TIMEOUT takes every entry whose CONF completion was due by the tick now past out of the list: handed to the
fault monitor, or failed as NOT READ when a CONF tally of that tick has been taken, of several the first raising.
CONFIRM_DROP_UNCHECKED drops the entries handed before the present tick. A CONF tally removes the oldest entry that its
identity matches and checks it: left out with both heads overridden, failed with COLUMNS by an uncorrectable column of a track
not left out, clean otherwise; without a match nothing is checked. (What CONFIRM in OFF leaves of this, and that NOT READ goes
by the tag of the last CONF tally noted, is deduced: log entry 21. That the first-raise AFA is the period value at a tick, and
the CONF result the one after the PRE packs, is the model's order: log entry 4.) -/
def Obligations.WrittenFramesTimeOut : Prop :=
  let afa : State → Option Afa := fun s => if s.tapeMap.pos.state = .unknown then none else some s.tapeMap.pos.afa
  (∀ s : State,
    let due := s.formatter.written.filter fun w => decide (w.frame + 4 ≤ s.transport.tick)
    let kept := s.formatter.written.filter fun w => !decide (w.frame + 4 ≤ s.transport.tick)
    let failed := due.filter fun w => s.faults.lastConf == some (w.frame + 4)
    let handed := due.filter fun w => s.faults.lastConf != some (w.frame + 4)
    let m := s.faults.records.confirm.mode
    (m = .off ∨ due = [] →
      exec .writtenListTimeout s = .next { s with formatter := { s.formatter with written := kept } }) ∧
    (m ≠ .off → failed = [] →
      exec .writtenListTimeout s = .next { s with
        formatter := { s.formatter with written := kept }
        faults := { s.faults with handed := s.faults.handed ++ due } }) ∧
    ∀ w more, m ≠ .off → failed = w :: more →
      ∃ t, exec .writtenListTimeout s = .next t ∧ t.formatter.written = kept ∧
        t.faults.handed = s.faults.handed ++ handed ∧
        t.faults.records.confirm = s.faults.records.confirm.under (some (.confirm .notRead w.afa)) (afa s) ∧
        (s.faults.records.confirm.present = true →
          t = { s with
            formatter := { s.formatter with written := kept }
            faults := { s.faults with handed := s.faults.handed ++ handed } }) ∧
        (s.faults.records.confirm.present = false →
          (∀ q, EventSet.has (s.ports.get q).report .faultRaised = true →
            EventSet.has (t.ports.get q).events .faultRaised = true) ∧
          (m = .warn ∨ writingEntry s = false → t.seq = s.seq ∧ t.blend = s.blend) ∧
          ((m = .latched ∨ m = .auto) → writingEntry s = true → s.formatter.gate = .opened →
            t.seq.state = .fault ∧ t.formatter.gate = .opened ∧ t.formatter.closePoint = some .forced ∧
            (s.seq.error = none → t.seq.error.map (·.kind) = some .write))) ∧
        t = { s with
          ports := t.ports, formatter := t.formatter, blend := t.blend, seq := t.seq
          monitor := { s.monitor with switch := t.monitor.switch, pending := t.monitor.pending }
          rights := { s.rights with word := t.rights.word, period := t.rights.period }
          outputs := { s.outputs with txWorst := t.outputs.txWorst }
          faults := { s.faults with records := t.faults.records, handed := t.faults.handed } }) ∧
  (∀ s : State, exec .confirmDropUnchecked s = .next { s with faults := { s.faults with
    handed := s.faults.handed.filter fun w => decide (s.transport.tick ≤ w.frame + 4) } }) ∧
  ∀ (dir : Direction) (us : Nat) (s : State), ∃ t, exec (.frameTick dir us) s = .next t ∧ (beforeTick s = s →
    let r := decoderResult .conf { s with transport := t.transport, tapeMap := t.tapeMap }
    let at' := if t.tapeMap.pos.state = .unknown then none else some t.tapeMap.periodValue
    let m := s.faults.records.confirm.mode
    ((∀ c, r ≠ .completion c) → t.formatter.written = s.formatter.written ∧
      t.faults.records.confirm = s.faults.records.confirm ∧ t.faults.lastConf = s.faults.lastConf) ∧
    ∀ c, r = .completion c →
      let k := c.tally
      let matched : WrittenFrame → Bool := fun w => match k.identity with
        | .afa a => w.afa == a
        | .lowBits b => w.afa % 256 == b.toNat
        | .absent => false
      let leftOut : Prop := k.headA.overridden = true ∧ k.headB.overridden = true
      let bad : Prop := (k.headA.overridden = false ∧ k.uncorrA ≠ 0) ∨ (k.headB.overridden = false ∧ k.uncorrB ≠ 0)
      t.faults.lastConf = (if m = .off then s.faults.lastConf else some t.transport.tick) ∧
      ((∀ w ∈ s.formatter.written, matched w = false) →
        t.formatter.written = s.formatter.written ∧ t.faults.records.confirm = s.faults.records.confirm) ∧
      ∀ older w newer, s.formatter.written = older ++ w :: newer → (∀ v ∈ older, matched v = false) →
        matched w = true → t.formatter.written = older ++ newer ∧
        (leftOut → t.faults.records.confirm = s.faults.records.confirm) ∧
        (¬ leftOut → bad → t.faults.records.confirm =
          s.faults.records.confirm.under (some (.confirm .columns w.afa)) at') ∧
        (¬ leftOut → ¬ bad → t.faults.records.confirm = s.faults.records.confirm.under none at') ∧
        (¬ leftOut → bad → s.faults.records.confirm.present = false → (m = .latched ∨ m = .auto) →
          writingEntry s = true → s.formatter.gate = .opened →
          t.seq.state = .fault ∧ t.formatter.closePoint = some .forced))

/-- MARKER_RUN_END, due once run index 99 has been built: the run counter holds nothing; a MARK entry that writes goes to
CLOSING with a close request for the frame being built, in every state of the gate. FRAME_TICK begins the building of a marked
frame: its rate must be the sample clock's and its AFA in range, else the build stops, which ends the entry for the first frame
of a span and closes the span after the frame being written for a later one; the first frame's AFA is the tape map's or, for an
ASSEMBLE from UNKNOWN or BLANK, the start AFA, a later one's the next; a marker begins a run, an AUTO marker numbered after the
index entry before it, whose frames carry its number and index; outside a run the program number goes by the kind. The tick
keeps the packs of its PRE result with the old frame. (That the step does nothing when it is taken while not due is the model's
choice: log entry 1. That of two close requests the earlier frame stands: log entry 8. That the clock rate is found before the
building begins is the model's order: log entry 4. That of the two checks the rate's comes first is its choice: log entry 53.
That the carried number is the one held as the building begins is its choice: log entry 57. That a build stop of the first
frame clears the pending flags and leaves the pointer at the entry is deduced: log entry 20.) -/
def Obligations.MarkRunEnds : Prop :=
  (∀ s : State,
    (∀ r, s.formatter.run = some r → 100 ≤ r.next →
      let f : Formatter := { s.formatter with run := none }
      (∀ k, s.seq.held = some k → entryAction s.editList[k] = .mark →
        (s.seq.state = .recording ∨ s.seq.state = .closing) →
        let last := s.transport.tick - 1
        let closing : Formatter → State := fun x => { s with formatter := x, seq := { s.seq with state := .closing } }
        let point : ClosePoint := match f.closePoint with
          | some .forced => .forced
          | some (.normal g) => .normal (min g last)
          | none => .normal last
        let dropped : Prop := ∃ b g, f.build = some b ∧ point = .normal g ∧ g < b.frame
        (f.gate = .opened → ¬ dropped → exec .markerRunEnd s = .next (closing { f with closePoint := some point })) ∧
        (f.gate = .opened → dropped →
          exec .markerRunEnd s = .next (closing { f with closePoint := some point, build := none })) ∧
        (∀ sp, f.gate = .closed → f.pendingOpen = some sp →
          exec .markerRunEnd s = .next (closing { f with closePoint := some (.normal (max last sp.first)) })) ∧
        (f.gate = .closed → f.pendingOpen = none → exec .markerRunEnd s = .next (closing f))) ∧
      ((∀ k, s.seq.held = some k → entryAction s.editList[k] ≠ .mark) →
        exec .markerRunEnd s = .next { s with formatter := f })) ∧
    ((∀ r, s.formatter.run = some r → r.next < 100) → exec .markerRunEnd s = .next s)) ∧
  (∀ (dir : Direction) (us : Nat) (s : State), beforeTick s = s →
    ∃ t u, exec (.frameTick dir us) s = .next t ∧
      u.transport = t.transport ∧ u.clock = t.clock ∧ u.tapeMap = t.tapeMap ∧ u.editList = s.editList ∧
      u.formatter.build = none ∧ u.formatter.oldNow = s.formatter.oldNext ∧
      u.formatter.recordRate = s.formatter.recordRate ∧
      (u.seq.state ≠ .fault → u.formatter.openSpan = s.formatter.openSpan ∧ u.formatter.run = s.formatter.run ∧
        u.formatter.gate = s.formatter.gate ∧ u.formatter.closePoint = s.formatter.closePoint ∧
        (s.formatter.gate = .closed → s.seq.state ≠ .armed → u.formatter.pendingOpen = s.formatter.pendingOpen)) ∧
      (let v := buildStart u;
        t.seq = v.seq ∧ t.blend = v.blend ∧
        t.formatter = { v.formatter with ready := t.formatter.ready, sending := t.formatter.sending }) ∧
      let r := decoderResult .pre { s with transport := t.transport }
      u.formatter.carried = (match r.packs.program with | some k => k.number | none => s.formatter.carried) ∧
      ∃ o, t.formatter.oldNext = some o ∧ o.frame = t.transport.tick ∧ o.rights = r.packs.rights ∧
        o.program = r.packs.program ∧ o.edit = r.packs.edit ∧
        (s.transport.mode ≠ .unloaded → o.position = t.seq.lastPosition) ∧
        (∀ c, r = .completion c → o.rate = c.rate ∧ o.identity = c.tally.identity ∧ o.completed = true) ∧
        ((∀ c, r ≠ .completion c) → o.identity = .absent ∧ o.completed = false)) ∧
  ∀ u : State, u.formatter.build = none →
    let v := buildStart u
    let m := u.formatter
    let f := u.transport.tick - 1
    let pend : Span → Prop := fun sp => m.pendingOpen = some sp ∧ sp.first ≤ f ∧
      (m.gate = .opened ∨ ∀ g, m.closePoint = some (.normal g) → f ≤ g)
    let going : Span → Prop := fun sp => (∀ q, ¬ pend q) ∧ m.gate = .opened ∧ m.openSpan = some sp ∧
      m.closePoint ≠ some .forced ∧ ∀ g, m.closePoint = some (.normal g) → f ≤ g
    ((∀ sp, ¬ pend sp ∧ ¬ going sp) → v = u) ∧
    ∀ sp, pend sp ∨ going sp →
      let unread : OldFrame := ⟨f, none, .unknown, .absent, u.tapeMap.pos.rate.getD .r48k, none, none, none, false⟩
      let o : OldFrame := m.oldNow.getD unread
      let rate : Rate := if sp.kind = .mark then o.rate else m.recordRate
      let fresh : Prop := sp.posState = .unknown ∨ sp.posState = .blank
      let afa : Afa := match sp.prev with
        | some (a, _) => a + 1
        | none => (if sp.kind = .assemble ∧ fresh then sp.startAfa else sp.firstAfa).getD 0
      let numbered : Nat → Nat := fun n => if n = 0 then autoNumber u.tapeMap.index afa else n
      let begun : Option MarkerRun := match sp.prev with
        | some _ => m.run
        | none => sp.marker.map fun k => ⟨k.kind, numbered k.number, 0⟩
      let run : Option MarkerRun := begun.filter fun r => r.next < 100
      let number : Nat := match sp.kind, sp.prev with
        | .assemble, some (_, n) => n
        | .assemble, none => if fresh then 0 else m.carried
        | _, _ => (o.program.map fun k => k.number).getD m.carried
      let pack : ProgramPack := match run with
        | some r => ⟨r.number, some r.kind, r.next⟩
        | none => ⟨number, none, 0⟩
      let error : Fin 32 → ErrorKind → ErrorDetail → Option ErrorRecord := fun k kind d =>
        if u.seq.error.isSome then u.seq.error else
          some ⟨kind, .run, k + 1, d, if u.tapeMap.pos.state = .unknown then none else some u.tapeMap.pos.afa⟩
      let stops : ErrorKind → ErrorDetail → Prop := fun kind d =>
        ∀ k, u.seq.held = some k → (u.seq.state = .recording ∨ u.seq.state = .closing) →
          (sp.prev = none → m.pendingOpen.isSome = true →
            v.seq = { u.seq with
              state := .fault, pointer := k, held := none, kept := false, holdPending := false, abortPending := false
              error := error k kind d } ∧
            v.formatter.pendingOpen = none ∧ v.formatter.build = none ∧ v.formatter.run = none ∧
            v.formatter.gate = m.gate ∧ v.formatter.written = m.written ∧
            ∀ ch, v.blend.get ch = ⟨0, 0, none, none, false⟩) ∧
          (sp.prev.isSome = true → m.gate = .opened → m.closePoint = none →
            v = { u with
              formatter := { m with closePoint := some (.normal (u.transport.tick - 2)) }
              seq := { u.seq with state := .closing, error := error k kind d }
              blend := { u.blend with
                left := { u.blend.left with weight := 0, last := 0, running := none, pending := none }
                right := { u.blend.right with weight := 0, last := 0, running := none, pending := none }
                outAsked := false, lastFade := none } })
      (rate ≠ u.clock.rate → stops .rate .absent) ∧
      (rate = u.clock.rate → 1048575 < afa → stops .range .address) ∧
      (rate = u.clock.rate → afa ≤ 1048575 →
        v = { u with formatter := { m with
          build := some ⟨f, afa, rate, sp.kind, pack, o, [], none⟩
          run := run.map fun r => { r with next := r.next + 1 }
          pendingOpen := v.formatter.pendingOpen, openSpan := v.formatter.openSpan } } ∧
        (pend sp → v.formatter.pendingOpen = some { sp with prev := some (afa, pack.number) } ∧
          v.formatter.openSpan = m.openSpan) ∧
        (going sp → m.pendingOpen = none →
          v.formatter.openSpan = some { sp with prev := some (afa, pack.number) } ∧ v.formatter.pendingOpen = none)) ∧
      (indexHeld u →
        ((∀ e ∈ u.tapeMap.index, afa ≤ e.start) → autoNumber u.tapeMap.index afa = 1) ∧
        ∀ e ∈ u.tapeMap.index, e.start < afa → (∀ x ∈ u.tapeMap.index, x.start < afa → x.start ≤ e.start) →
          autoNumber u.tapeMap.index afa = min 999 (e.number + 1))

/-! ## Edit list and sequencer -/

/-- EDIT WRITE refuses an entry with a field outside its values, and a write to the held entry, and otherwise replaces the
whole entry, in which the value bits of an absent address, start AFA or marker are 0. EDIT READ tells whether the entry is
held and gives the half of its fields that the part names, each in its place, and changes nothing. (That an absent marker is
stored with number 0 is deduced: log entry 25. That the refusals carry zeros is deduced: log entry 19.) -/
def Obligations.EditListHoldsEntries : Prop :=
  (∀ (p : Port) (k : BitVec 5) (e : EditEntry) (s : State), waitsForRise s p = false → s.claims.edit = some p →
    let bad : Prop := (e.action = 1 ∧ e.channels = 3) ∨
      ((e.action = 1 ∨ e.action = 2) ∧ (4 < e.fadeIn.toNat ∨ 4 < e.fadeOut.toNat)) ∨
      e.markerKind = 3 ∨ (e.markerKind ≠ 0 ∧ 999 < e.markerNumber.toNat) ∨
      (e.inPresent = true ∧ 959 < e.inOffset.toNat) ∨ (e.outPresent = true ∧ 959 < e.outOffset.toNat) ∨
      (e.action = 4 ∧ 31 < e.inAfa.toNat)
    (bad → exec (.editWrite p k e) s = .next (respond p 0x40 .range .zeros s)) ∧
    (¬ bad → s.seq.held = some k.toFin → exec (.editWrite p k e) s = .next (respond p 0x40 .busy .zeros s)) ∧
    (¬ bad → s.seq.held ≠ some k.toFin → ∃ e' : EditEntry,
      exec (.editWrite p k e) s =
        .next (respond p 0x40 .ok (.entryNumber k) { s with editList := s.editList.set k.toFin e' }) ∧
      e' = { e with
        inAfa := e'.inAfa, inOffset := e'.inOffset, outAfa := e'.outAfa, outOffset := e'.outOffset
        startAfa := e'.startAfa, markerNumber := e'.markerNumber } ∧
      (e.inPresent = true ∨ e.action = 4 → e'.inAfa = e.inAfa) ∧
      (e.inPresent = false → e.action ≠ 4 → e'.inAfa = 0) ∧
      e'.inOffset = (if e.inPresent then e.inOffset else 0) ∧ e'.outAfa = (if e.outPresent then e.outAfa else 0) ∧
      e'.outOffset = (if e.outPresent then e.outOffset else 0) ∧
      e'.startAfa = (if e.startPresent then e.startAfa else 0) ∧
      e'.markerNumber = (if e.markerKind = 0 then 0 else e.markerNumber))) ∧
  ∀ (p : Port) (k : BitVec 5) (part : Bool) (s : State), waitsForRise s p = false → ∃ b : BitVec 96,
    exec (.editRead p k part) s = .next (respond p 0x12 .ok (.entryHalf b) s) ∧
    b.extractLsb' 91 5 = k ∧ b.getLsbD 90 = part ∧ (b.getLsbD 89 = true ↔ s.seq.held = some k.toFin) ∧
    let e := s.editList[k.toFin]
    (part = false → b.extractLsb' 86 3 = e.action ∧ b.getLsbD 85 = e.endFlag ∧ b.extractLsb' 84 1 = e.mode ∧
      b.extractLsb' 82 2 = e.channels ∧ b.extractLsb' 81 1 = e.source ∧ b.extractLsb' 78 3 = e.fadeIn ∧
      b.extractLsb' 75 3 = e.fadeOut ∧ b.extractLsb' 73 2 = e.markerKind ∧ b.extractLsb' 63 10 = e.markerNumber ∧
      b.getLsbD 62 = e.inPresent ∧ b.extractLsb' 42 20 = e.inAfa ∧ b.extractLsb' 32 10 = e.inOffset ∧
      b.extractLsb' 0 32 = 0) ∧
    (part = true → b.getLsbD 88 = e.outPresent ∧ b.extractLsb' 68 20 = e.outAfa ∧ b.extractLsb' 58 10 = e.outOffset ∧
      b.getLsbD 57 = e.startPresent ∧ b.extractLsb' 37 20 = e.startAfa ∧ b.extractLsb' 0 37 = 0)

/-- A fetch at the pointer: a NOP or LINK counts on the loop guard, which stops the walk with LOOP past 32; an end flag on it
ends the walk; otherwise the fetch goes on at the next entry or the link target. A PUNCH, ASSEMBLE or MARK is checked, and
either taken or the cause of a stop in FAULT. A frame position at the sequencer: in ARMED the in-address arrival checks the
conditions of the gate in their order, and stops the entry or sends the open and fade-in requests and goes to RECORDING, a
position past the in-address is LATE, and a rehearsal opens with no check and no open request; in RECORDING the arrival at or
past the out-address sends the fade-out request and goes to CLOSING; elsewhere the position is only kept. FRAME_TICK brings
these about, its own tick the first of the two that a fade waits. (The position state handed with the position is the one
before the blank test: log entry 22.) -/
def Obligations.FetchFindsEntries : Prop :=
  (∀ (s : State) (p : Fin 32), s.seq.pointer = p →
    let e := s.editList[p]
    let act := entryAction e
    let afa := if s.tapeMap.pos.state = .unknown then none else some s.tapeMap.pos.afa
    let stopped : ErrorKind → Nat → Sequencer := fun kind guard =>
      { s.seq with
        state := .fault, pointer := p, held := none, kept := false, guard := guard
        error := if s.seq.error.isSome then s.seq.error else some ⟨kind, .fetch, p, .absent, afa⟩ }
    let pairs := pairsPerFrame s.formatter.recordRate
    let err : Option ErrorKind :=
      if (act ≠ .assemble ∧ entryIn e = none) ∨ (act = .mark ∧ entryMarker e = none) then some .range
      else if act ≠ .mark ∧ ((entryIn e).any (fun x => decide (pairs ≤ x.2)) = true ∨
        (entryOut e).any (fun x => decide (pairs ≤ x.2)) = true) then some .range
      else if act ≠ .mark ∧ (match entryIn e, entryOut e with
        | some (ia, _), some (oa, _) => decide (oa < ia + 2)
        | _, _ => false) = true then some .range
      else if act ≠ .assemble ∧ (s.tapeMap.pos.state = .unknown ∨ s.tapeMap.pos.state = .blank) then some .position
      else if (match s.seq.lastPosition, entryIn e with
        | some lp, some (ia, _) => decide (ia ≤ lp)
        | _, _ => false) = true then some .late
      else if act = .punch ∧ isRehearsal e = false ∧ s.tapeMap.pos.rate ≠ some s.formatter.recordRate then some .rate
      else none
    let t := fetch s
    (act = .nop ∨ act = .link →
      (32 ≤ s.seq.guard → t.seq = stopped .loop (s.seq.guard + 1)) ∧
      (s.seq.guard < 32 → e.endFlag = true →
        t = { s with ports := t.ports, seq := { s.seq with
          guard := s.seq.guard + 1, state := .idle, lastClose := some (.complete, p) } } ∧
        ∀ q, EventSet.has (s.ports.get q).report .seqDone = true → EventSet.has (t.ports.get q).events .seqDone = true) ∧
      (s.seq.guard < 32 → e.endFlag = false → t = fetch { s with seq := { s.seq with
        guard := s.seq.guard + 1, pointer := if act = .nop then p + 1 else entryTarget e } })) ∧
    (act = .punch ∨ act = .assemble ∨ act = .mark →
      (err = none → t.seq = { s.seq with
        state := .armed, pointer := p, held := some p, kept := false, guard := 0, baked := 0 }) ∧
      ∀ x, err = some x → t.seq = stopped x 0 ∧
        ∀ q, EventSet.has (s.ports.get q).report .seqFault = true → EventSet.has (t.ports.get q).events .seqFault = true) ∧
    (t.formatter.gate = s.formatter.gate ∧ t.formatter.pendingOpen = s.formatter.pendingOpen ∧
      t.formatter.closePoint = s.formatter.closePoint ∧ t.formatter.written = s.formatter.written ∧
      t.formatter.writeEnable = s.formatter.writeEnable) ∧
    t = { s with
      ports := t.ports, formatter := t.formatter, blend := t.blend, seq := t.seq
      monitor := { s.monitor with switch := t.monitor.switch, pending := t.monitor.pending }
      rights := { s.rights with word := t.rights.word, period := t.rights.period }
      outputs := { s.outputs with txWorst := t.outputs.txWorst }
      faults := { s.faults with records := t.faults.records } }) ∧
  (∀ (fp : Option Afa) (st : PosState) (decoding : Bool) (s : State),
    let t := seqFramePosition fp st decoding s
    let only : State := { s with seq := { s.seq with lastPosition := fp } }
    let x := s.transport
    let forward : Prop := x.dir = .forward
    let speed : Prop := x.stalled = false ∧ forward ∧ 990 ≤ x.ratio ∧ x.ratio ≤ 1010
    let window : Prop := x.mode = .record ∧ x.lock = true ∧ x.prot = false ∧ speed
    (s.seq.state ≠ .armed → s.seq.state ≠ .recording → t = only) ∧
    ∀ k, s.seq.held = some k →
      let e := s.editList[k]
      let fadeIn : BlendChannel → Channel → BlendChannel := fun c ch =>
        if entryHasChannel e ch then
          { c with pending := some ⟨.fadeIn, 64 * 2 ^ e.fadeIn.toNat, if e.inPresent then e.inOffset.toNat else 0, 2⟩
                   selected := true }
        else c
      let faded : Blend := if recordsNew e then
          { s.blend with left := fadeIn s.blend.left .left, right := fadeIn s.blend.right .right }
        else s.blend
      let asked : Span := ⟨x.tick, fp, if entryAction e = .assemble then .assemble else if entryAction e = .mark then .mark
        else .punch, entryMarker e, entryStart e, st, none⟩
      let arrival : Prop := if e.inPresent then forward ∧ fp = some e.inAfa.toNat else decoding = true ∧ window
      let late : Prop := e.inPresent = true ∧ forward ∧ ∃ p, fp = some p ∧ e.inAfa.toNat < p
      let refused : Option (ErrorKind × ErrorDetail) :=
        if s.formatter.writeEnable = false then some (.writeOff, .absent)
        else if x.prot then some (.tapeProtected, .absent)
        else if x.mode ≠ .record then some (.mode, .notRecord)
        else if x.lock = false then some (.mode, .noLock)
        else if x.stalled = true ∨ x.dir ≠ .forward ∨ x.ratio < 990 ∨ 1010 < x.ratio then some (.mode, .speed)
        else if recordsNew e = false then none
        else if selectedState s = .rightsNone then some (.denied, .rightsNone)
        else if selectedState s = .rightsUnstated then some (.denied, .rightsUnstated)
        else if entrySource e = .digital ∧ s.faults.records.input.action = true then some (.input, .absent) else none
      let stopped : ErrorKind → ErrorDetail → Sequencer := fun kind d => { s.seq with
        state := .fault, pointer := k, held := none, kept := false, lastPosition := fp
        error := if s.seq.error.isSome then s.seq.error else some ⟨kind, .fetch, k, d,
          if s.tapeMap.pos.state = .unknown then none else some s.tapeMap.pos.afa⟩ }
      (s.seq.state = .armed →
        (¬ arrival → ¬ late → t = only) ∧
        (late → t.seq = stopped .late .absent ∧ ∀ q, EventSet.has (s.ports.get q).report .seqFault = true →
          EventSet.has (t.ports.get q).events .seqFault = true) ∧
        (arrival → isRehearsal e = true →
          t = { only with blend := faded, seq := { only.seq with state := .recording } }) ∧
        (arrival → isRehearsal e = false → ∀ y, refused = some y → t.seq = stopped y.1 y.2 ∧
          t.formatter.pendingOpen = s.formatter.pendingOpen ∧ t.formatter.gate = s.formatter.gate) ∧
        (arrival → isRehearsal e = false → refused = none → t = { only with
          blend := faded, seq := { only.seq with state := .recording }
          formatter := if s.formatter.gate = .closed ∨ s.formatter.closePoint.isSome = true then
              { s.formatter with pendingOpen := some asked }
            else s.formatter })) ∧
      (s.seq.state = .recording →
        let out : Nat → BlendChannel → BlendChannel := fun o c =>
          if c.selected then { c with pending := some ⟨.fadeOut, 64 * 2 ^ e.fadeOut.toNat, o, 2⟩ } else c
        (∀ p, fp = some p → forward → recordsNew e = true → e.outPresent = true → e.outAfa.toNat ≤ p →
          let o := if p = e.outAfa.toNat then e.outOffset.toNat else 0
          t = { only with
            blend := { s.blend with
              left := out o s.blend.left, right := out o s.blend.right, outAsked := true, lastFade := none }
            seq := { only.seq with state := .closing } }) ∧
        ((¬ forward ∨ recordsNew e = false ∨ e.outPresent = false ∨ ∀ p, fp = some p → p < e.outAfa.toNat) →
          t = only))) ∧
  ∀ (us : Nat) (s : State) (k : Fin 32), beforeTick s = s → s.transport.mode ≠ .unloaded → s.seq.held = some k →
    (s.faults.records.position.mode = .warn ∨ s.faults.records.position.mode = .off) →
    ∃ t, exec (.frameTick .forward us) s = .next t ∧
      let e := s.editList[k]
      let x := t.transport
      let window : Prop := x.mode = .record ∧ x.lock = true ∧ x.prot = false ∧ 990 ≤ x.ratio ∧ x.ratio ≤ 1010
      (s.seq.state = .armed → s.formatter.gate = .closed → s.formatter.pendingOpen = none → s.formatter.written = [] →
        e.inPresent = true → t.seq.lastPosition = some e.inAfa.toNat →
        isRehearsal e = false → s.formatter.writeEnable = true → window → (recordsNew e = true →
          (selectedState s = .rightsOpen ∨ selectedState s = .rightsOne) ∧
          (entrySource e = .digital → s.faults.records.input.action = false)) →
        t.seq = { s.seq with state := .recording, lastPosition := some e.inAfa.toNat } ∧
        (∃ sp, t.formatter.pendingOpen = some sp ∧ sp.first = x.tick ∧ sp.firstAfa = some e.inAfa.toNat ∧
          sp.kind = writeKindOf e ∧ sp.marker = entryMarker e ∧ sp.startAfa = entryStart e ∧ sp.prev = none) ∧
        ∀ ch, recordsNew e = true → entryHasChannel e ch = true → (t.blend.get ch).selected = true ∧
          (t.blend.get ch).pending = some ⟨.fadeIn, 64 * 2 ^ e.fadeIn.toNat, e.inOffset.toNat, 1⟩) ∧
      (s.seq.state = .recording → t.faults.counters.jumps = s.faults.counters.jumps →
        ((isRehearsal e = true ∧ s.formatter.gate = .closed ∧ s.formatter.pendingOpen = none) ∨
          (isRehearsal e = false ∧ s.formatter.gate = .opened ∧ window ∧ s.formatter.written = [] ∧
            t.formatter.build.isSome = true)) →
        recordsNew e = true → e.outPresent = true → t.seq.lastPosition = some e.outAfa.toNat →
        t.seq = { s.seq with state := .closing, lastPosition := some e.outAfa.toNat } ∧ t.blend.outAsked = true ∧
        ∀ ch, (s.blend.get ch).selected = true →
          (t.blend.get ch).pending = some ⟨.fadeOut, 64 * 2 ^ e.fadeOut.toNat, e.outOffset.toNat, 1⟩)

/-- EDIT START, HOLD and CONTINUE by the sequencer's state: what `Obligations.FetchFindsEntries` says of a fetch holds of the
fetch that EDIT START, and CONTINUE with no kept entry, begin. (That the refusals carry zeros is deduced: log entry 19. That a
kept entry made ARMED again leaves kept entry no is the model's choice: log entry 46.) -/
def Obligations.WalkRequests : Prop :=
  ∀ (p : Port) (s : State), waitsForRise s p = false → s.claims.edit = some p →
    (∀ k : Byte, 31 < k.toNat → exec (.editStart p k) s = .next (respond p 0x41 .range .zeros s)) ∧
    (∀ k : Byte, k.toNat ≤ 31 → s.seq.state ≠ .idle → s.seq.state ≠ .fault →
      exec (.editStart p k) s = .next (respond p 0x41 .busy .zeros s)) ∧
    (∀ k : Fin 32, (s.seq.state = .idle ∨ s.seq.state = .fault) →
      let t := fetch { s with seq := { s.seq with
        error := none, guard := 0, pointer := k, holdPending := false, abortPending := false } }
      exec (.editStart p (BitVec.ofNat 8 k.val)) s = .next (respond p 0x41 .ok (.seqState t.seq.state) t)) ∧
    (s.seq.state = .armed → exec (.hold p) s =
      .next (respond p 0x42 .ok (.seqState .held) { s with seq := { s.seq with state := .held, kept := true } })) ∧
    ((s.seq.state = .recording ∨ s.seq.state = .closing) → exec (.hold p) s =
      .next (respond p 0x42 .ok (.seqState s.seq.state) { s with seq := { s.seq with holdPending := true } })) ∧
    ((s.seq.state = .idle ∨ s.seq.state = .held ∨ s.seq.state = .fault) →
      exec (.hold p) s = .next (respond p 0x42 .state .zeros s)) ∧
    (s.seq.state ≠ .held → exec (.continueWalk p) s = .next (respond p 0x43 .state .zeros s)) ∧
    (s.seq.state = .held → s.seq.kept = false →
      exec (.continueWalk p) s = .next (respond p 0x43 .ok (.seqState (fetch s).seq.state) (fetch s))) ∧
    ∀ k, s.seq.state = .held → s.seq.kept = true → s.seq.held = some k →
      let late : Prop := ∃ a o lp, entryIn s.editList[k] = some (a, o) ∧ s.seq.lastPosition = some lp ∧ a ≤ lp
      (¬ late → exec (.continueWalk p) s = .next (respond p 0x43 .ok (.seqState .armed)
        { s with seq := { s.seq with state := .armed, kept := false } })) ∧
      (late → ∃ t, exec (.continueWalk p) s = .next t ∧ t.seq.state = .fault ∧ t.seq.pointer = k ∧ t.seq.held = none ∧
        (t.ports.get p).response = ⟨.ok, 0x43, .seqState .fault⟩ ∧
        (s.seq.error = none → t.seq.error = some ⟨.late, .fetch, k, .absent,
          if s.tapeMap.pos.state = .unknown then none else some s.tapeMap.pos.afa⟩))

/-- ABORT by the sequencer's state, its result OK in every one. -/
def Obligations.AbortByState : Prop :=
  ∀ (p : Port) (s : State), waitsForRise s p = false → s.claims.edit = some p →
    (s.seq.state = .idle → exec (.abort p) s = .next (respond p 0x44 .ok (.seqState .idle) s)) ∧
    (s.seq.state = .fault → exec (.abort p) s =
      .next (respond p 0x44 .ok (.seqState .idle) { s with seq := { s.seq with state := .idle } })) ∧
    (s.seq.state = .closing → exec (.abort p) s =
      .next (respond p 0x44 .ok (.seqState .closing) { s with seq := { s.seq with abortPending := true } })) ∧
    (∀ k, s.seq.state = .recording → s.seq.held = some k → s.formatter.pendingOpen = none →
      let len := 64 * 2 ^ s.editList[k].fadeOut.toNat
      let out : BlendChannel → BlendChannel := fun c =>
        if c.selected then { c with
          pending := none
          running := some ⟨.fadeOut, len, (4096 - c.last + 4096 / len - 1) / (4096 / len)⟩ }
        else c
      exec (.abort p) s = .next (respond p 0x44 .ok (.seqState .closing) { s with
        blend := { s.blend with left := out s.blend.left, right := out s.blend.right, outAsked := true, lastFade := none }
        seq := { s.seq with state := .closing, abortPending := true } })) ∧
    ((s.seq.state = .armed ∨ s.seq.state = .held) ∨
        (s.seq.state = .recording ∧ s.formatter.gate = .closed ∧ s.formatter.pendingOpen.isSome = true ∧
          s.seq.held.isSome = true) →
      ∃ t, exec (.abort p) s = .next t ∧
        t.seq.state = .idle ∧ t.seq.held = none ∧ t.seq.kept = false ∧ t.seq.error = s.seq.error ∧
        (s.seq.state ≠ .recording → t.seq.lastClose = some (.aborted, s.seq.pointer)) ∧
        (∀ k, s.seq.state = .recording → s.seq.held = some k → t.seq.lastClose = some (.aborted, k) ∧
          t.formatter.pendingOpen = none ∧ t.formatter.build = none ∧ t.formatter.ready = none ∧
          ∀ ch, t.blend.get ch = ⟨0, 0, none, none, false⟩) ∧
        t.formatter.gate = s.formatter.gate ∧ t.formatter.written = s.formatter.written ∧
        t.formatter.writeEnable = s.formatter.writeEnable ∧
        (∀ q, EventSet.has (s.ports.get q).report .seqDone = true →
          EventSet.has (t.ports.get q).events .seqDone = true) ∧
        (t.ports.get p).response = ⟨.ok, 0x44, .seqState .idle⟩ ∧
        t = { s with
          ports := t.ports, formatter := t.formatter, blend := t.blend, seq := t.seq
          monitor := { s.monitor with switch := t.monitor.switch, pending := t.monitor.pending }
          rights := { s.rights with word := t.rights.word, period := t.rights.period }
          outputs := { s.outputs with txWorst := t.outputs.txWorst }
          faults := { s.faults with records := t.faults.records } })

/-! ## Record and repair settings -/

/-- WRITE ENABLE sets the flag and nothing else; WRITE DISABLE clears it, and with the gate OPEN makes a forced close with
cause WRITE DISABLED, on which an entry that writes ends in FAULT. -/
def Obligations.WriteEnableAndDisable : Prop :=
  ∀ (p : Port) (s : State), waitsForRise s p = false → s.claims.edit = some p →
    exec (.writeEnable p) s = .next (respond p 0x48 .ok (.writeEnable true)
      { s with formatter := { s.formatter with writeEnable := true } }) ∧
    (s.formatter.gate = .closed → exec (.writeDisable p) s = .next (respond p 0x49 .ok (.writeEnable false)
      { s with formatter := { s.formatter with writeEnable := false } })) ∧
    (s.formatter.gate = .opened → ∃ t, exec (.writeDisable p) s = .next t ∧
      t.formatter.writeEnable = false ∧ t.formatter.gate = .opened ∧ t.formatter.closePoint = some .forced ∧
      t.formatter.pendingOpen = none ∧ t.formatter.build = none ∧ t.formatter.ready = none ∧
      t.formatter.openSpan = none ∧ t.formatter.run = none ∧ t.formatter.sending = s.formatter.sending ∧
      t.formatter.written = s.formatter.written ∧
      (t.ports.get p).response = ⟨.ok, 0x49, .writeEnable false⟩ ∧
      (writingEntry s = false → t.seq = s.seq ∧ t.blend = s.blend) ∧
      (∀ k, writingEntry s = true → s.seq.held = some k →
        t.seq = { s.seq with
          state := .fault, pointer := k, held := none, kept := false, holdPending := false, abortPending := false
          error := if s.seq.error.isSome then s.seq.error else some ⟨.writeOff, .run, k + 1, .absent,
            if s.tapeMap.pos.state = .unknown then none else some s.tapeMap.pos.afa⟩ } ∧
        (∀ ch, t.blend.get ch = ⟨0, 0, none, none, false⟩) ∧
        ∀ q, EventSet.has (s.ports.get q).report .seqFault = true →
          EventSet.has (t.ports.get q).events .seqFault = true) ∧
      t = { s with
        ports := t.ports, formatter := t.formatter, blend := t.blend, seq := t.seq
        monitor := { s.monitor with switch := t.monitor.switch, pending := t.monitor.pending }
        rights := { s.rights with word := t.rights.word, period := t.rights.period }
        outputs := { s.outputs with txWorst := t.outputs.txWorst }
        faults := { s.faults with records := t.faults.records } })

/-- SET RECORD: a code outside its set is refused with RANGE, a new record rate with BUSY while a write is in play;
otherwise each value given replaces the one held. A change of the selected source empties the FIFO, clears the held pair and
mutes the concealers; a loss of usability empties the FIFO; a change of the analog rights raises RIGHTS_CHANGED. (That the
values given take effect together, and that the loss empties the FIFO while ANALOG is selected too, is deduced: log entries
27 and 32. That the refusals carry zeros is deduced: log entry 19.) -/
def Obligations.RecordSettings : Prop :=
  ∀ (p : Port) (s : State), waitsForRise s p = false → s.claims.edit = some p →
    (∀ rate source analog : Option Byte, (∃ c : Byte, 1 < c.toNat ∧ (rate = some c ∨ source = some c ∨ analog = some c)) →
      exec (.setRecord p rate source analog) s = .next (respond p 0x50 .range .zeros s)) ∧
    ∀ (r : Option Rate) (d : Option AudioSource) (a : Option CopyState), a ≠ some .copyNone →
      let rc : Option Byte := r.map fun x => match x with | .r48k => 0 | .r44k1 => 1
      let dc : Option Byte := d.map fun x => match x with | .analog => 0 | .digital => 1
      let ac : Option Byte := a.map fun x => match x with | .copyOpen => 0 | .copyOne => 1 | .copyNone => 2
      let f := s.formatter
      let busy : Prop := (∃ x, r = some x ∧ x ≠ f.recordRate) ∧ (f.gate = .opened ∨ f.pendingOpen.isSome = true ∨
        s.seq.state = .armed ∨ s.seq.state = .recording ∨ s.seq.state = .closing)
      let rate := r.getD f.recordRate
      let source := d.getD f.defaultSource
      let analog := a.getD f.analogRights
      let t0 : State := { s with formatter := { f with recordRate := rate, defaultSource := source, analogRights := analog } }
      (busy → exec (.setRecord p rc dc ac) s = .next (respond p 0x50 .busy .zeros s)) ∧
      (¬ busy → ∃ t, exec (.setRecord p rc dc ac) s = .next t ∧
        t.formatter.recordRate = rate ∧ t.formatter.defaultSource = source ∧ t.formatter.analogRights = analog ∧
        (t.ports.get p).response = ⟨.ok, 0x50, .recordSettings rate source analog⟩ ∧
        (selectedSource t0 ≠ selectedSource s → t.formatter.fifo = [] ∧ t.formatter.fifoState = .priming ∧
          t.formatter.heldPair = ⟨0, 0⟩ ∧ ∀ ch, (t.concealer ch).state = .muted ∧ (t.concealer ch).gain = 0) ∧
        (usable s = true → usable t0 = false → t.formatter.fifo = [] ∧ t.formatter.fifoState = .priming) ∧
        (writingEntry s = false →
          (selectedSource t0 ≠ selectedSource s ∨ (analog ≠ f.analogRights ∧ selectedSource t0 = .analog) →
            t.rights.period = moreRestrictive s.rights.period (selectedState t0)) ∧
          (selectedSource t0 = selectedSource s → (analog = f.analogRights ∨ selectedSource t0 = .digital) →
            t.rights.period = s.rights.period)) ∧
        (analog ≠ f.analogRights → ∀ q, EventSet.has (s.ports.get q).report .rightsChanged = true →
          EventSet.has (t.ports.get q).events .rightsChanged = true) ∧
        (selectedSource t0 = selectedSource s → usable t0 = usable s → analog = f.analogRights →
          t = respond p 0x50 .ok (.recordSettings rate source analog) t0) ∧
        t.formatter.written = f.written ∧ t.formatter.writeEnable = f.writeEnable ∧ t.formatter.carried = f.carried ∧
        t.formatter.linkRate = f.linkRate ∧
        t = { s with
          ports := t.ports, formatter := t.formatter, blend := t.blend, seq := t.seq
          monitor := { s.monitor with switch := t.monitor.switch, pending := t.monitor.pending }
          rights := { s.rights with word := t.rights.word, period := t.rights.period }
          outputs := { s.outputs with txWorst := t.outputs.txWorst }
          faults := { s.faults with records := t.faults.records } })

/-- SET REPAIR and SET THRESHOLDS bring every value given into its allowed values: itself when allowed, else the next allowed
value above, else the largest, a low threshold never above the high: a P below 1 becomes 1. Each command completes for all its
values; the values so brought replace those held, the result
tells whether one was changed, and nothing else changes. -/
def Obligations.SettingsBrought : Prop :=
  (∀ v : Nat, (1 ≤ bringP v ∧ bringP v ≤ 8 ∧ (v < 1 → bringP v = 1) ∧ (1 ≤ v → v ≤ 8 → bringP v = v) ∧ (8 < v → bringP v = 8)) ∧
    (bringH v ≤ 64 ∧ (v ≤ 64 → bringH v = v) ∧ (64 < v → bringH v = 64)) ∧
    (let allowed := [16, 32, 64, 128, 256];
      bringM v ∈ allowed ∧ (v ∈ allowed → bringM v = v) ∧ (256 < v → bringM v = 256) ∧
        (v ≤ 256 → v ≤ bringM v ∧ ∀ a ∈ allowed, v ≤ a → bringM v ≤ a)) ∧
    (let allowed := [64, 128, 256, 512, 1024];
      bringU v ∈ allowed ∧ (v ∈ allowed → bringU v = v) ∧ (1024 < v → bringU v = 1024) ∧
        (v ≤ 1024 → v ≤ bringU v ∧ ∀ a ∈ allowed, v ≤ a → bringU v ≤ a))) ∧
  (∀ (p : Port) (pv hv : Option Byte) (mv uv : Option (BitVec 16)) (s : State), waitsForRise s p = false →
    s.claims.edit = some p →
    let set : RepairSettings :=
      ⟨(pv.map fun v => bringP v.toNat).getD s.settings.p, (hv.map fun v => bringH v.toNat).getD s.settings.h,
        (mv.map fun v => bringM v.toNat).getD s.settings.m, (uv.map fun v => bringU v.toNat).getD s.settings.u⟩
    let changed : Prop := (∃ v, pv = some v ∧ bringP v.toNat ≠ v.toNat) ∨ (∃ v, hv = some v ∧ bringH v.toNat ≠ v.toNat) ∨
      (∃ v, mv = some v ∧ bringM v.toNat ≠ v.toNat) ∨ ∃ v, uv = some v ∧ bringU v.toNat ≠ v.toNat
    (changed → exec (.setRepair p pv hv mv uv) s =
      .next (respond p 0x51 .clamped (.repairSettings set) { s with settings := set })) ∧
    (¬ changed → exec (.setRepair p pv hv mv uv) s =
      .next (respond p 0x51 .ok (.repairSettings set) { s with settings := set }))) ∧
  ∀ (p : Port) (high low : BitVec 16) (s : State), waitsForRise s p = false → s.claims.edit = some p →
    let h := if 896 < high.toNat then 896 else high.toNat
    let l := if h < low.toNat then h else low.toNat
    let t : State := { s with faults := { s.faults with high := h, low := l } }
    (h = high.toNat → l = low.toNat →
      exec (.setThresholds p high low) s = .next (respond p 0x53 .ok (.thresholds h l) t)) ∧
    (h ≠ high.toNat ∨ l ≠ low.toNat →
      exec (.setThresholds p high low) s = .next (respond p 0x53 .clamped (.thresholds h l) t))

/-! ## Fault monitor and tape map -/

/-- FAULT MODE: codes outside their sets, and OFF for SERVO, are refused with RANGE; otherwise the mode is set, and the
record and the heads follow the change: cleared to OFF, an action ended to WARN, a gone condition's action ended from LATCHED
to AUTO. INPUT, which follows state, is evaluated at once when its monitoring begins, and its action closes a write in
progress. The payload is the kind's record as it then stands, and a mode set to the mode held changes nothing. (Which records
are the trackers that OFF resets, CONFIRM's among them, is deduced: log entry 26. The detail RATE before the first rate field
is the model's choice: log entry 41. That the refusal carries zeros is deduced: log entry 19.) -/
def Obligations.FaultModes : Prop :=
  ∀ (p : Port) (s : State), waitsForRise s p = false → s.claims.edit = some p →
    (∀ kind mode : Byte, kind = 0 ∨ 7 < kind.toNat ∨ 3 < mode.toNat ∨ (kind = 1 ∧ mode = 3) →
      exec (.faultMode p kind mode) s = .next (respond p 0x52 .range .zeros s)) ∧
    ∀ (k : FaultKind) (m : FaultMode), faultsHeld s → ¬ (k = .servo ∧ m = .off) →
      let kc := BitVec.ofNat 8 (codeOfFaultKind k)
      let mc : Byte := match m with | .latched => 0 | .auto => 1 | .warn => 2 | .off => 3
      let r := s.faults.records.get k
      ∃ t, exec (.faultMode p kc mc) s = .next t ∧
        ((t.faults.records.get k).mode = m ∧ faultsHeld t) ∧
        (t.ports.get p).response = ⟨.ok, 0x52, .kindRecord k (t.faults.records.get k)⟩ ∧
        (∀ j, j ≠ k → j ≠ .input → t.faults.records.get j = s.faults.records.get j) ∧
        (m = r.mode → t = respond p 0x52 .ok (.kindRecord k r) s) ∧
        (m ≠ r.mode → m = .off → t.faults.records.get k = ⟨.off, false, false, false, 0, none, .absent⟩ ∧
          (k = .clog → ∀ path tr, t.faults.heads.get path tr = ⟨0, false, false⟩) ∧
          (k = .rate → t.faults.window = []) ∧ (k = .position → t.faults.positionTag = none) ∧
          (k = .confirm → t.faults.handed = [] ∧ t.faults.lastConf = none) ∧
          (r.action = true → ∀ q, EventSet.has (s.ports.get q).report .faultEnded = true →
            EventSet.has (t.ports.get q).events .faultEnded = true)) ∧
        (r.mode = .off → m ≠ .off → k ≠ .input → t.faults.records.get k = { r with mode := m }) ∧
        (r.mode = .off → m ≠ .off → k = .input → writingEntry s = false →
          ((t.faults.records.get k).present = true ↔ selectedSource s = .digital ∧ usable s = false) ∧
          ((t.faults.records.get k).present = true → (t.faults.records.get k).seen = true ∧
            (t.faults.records.get k).action = (m == .latched || m == .auto) ∧
            ∀ q, EventSet.has (s.ports.get q).report .faultRaised = true →
              EventSet.has (t.ports.get q).events .faultRaised = true)) ∧
        (r.mode = .off → m ≠ .off → k = .input →
          let unusable : Prop := s.rights.lock = false ∨ s.formatter.linkRate ≠ some (.known s.formatter.recordRate)
          let cond : Option FaultDetail :=
            if selectedSource s = .digital ∧ usable s = false then
              some (if s.rights.lock then .inputRate else .inputUnlocked)
            else none
          (usable s = false ↔ unusable) ∧
          (writingEntry s = false ∨ gateInPlay s = false ∨ cond = none ∨ m = .warn →
            t.faults.records.input = ({ r with mode := m } : FaultRecord).under cond
              (if s.tapeMap.pos.state = .unknown then none else some s.tapeMap.pos.afa) ∧ t.seq = s.seq) ∧
          ∀ j, s.seq.held = some j → writingEntry s = true → gateInPlay s = true → cond.isSome = true →
            (m = .latched ∨ m = .auto) →
            t.seq = { s.seq with
              state := .fault, pointer := j, held := none, kept := false, holdPending := false, abortPending := false
              error := if s.seq.error.isSome then s.seq.error else some ⟨.input, .run, j + 1, .absent,
                if s.tapeMap.pos.state = .unknown then none else some s.tapeMap.pos.afa⟩ } ∧
            t.formatter.gate = s.formatter.gate ∧ t.formatter.pendingOpen = none ∧
            (s.formatter.gate = .opened → t.formatter.closePoint = some .forced) ∧
            (∀ ch, t.blend.get ch = ⟨0, 0, none, none, false⟩) ∧ t.faults.records.input.seen = true ∧
            t.faults.records.input.detail = (if s.rights.lock then .inputRate else .inputUnlocked) ∧
            (t.faults.records.input.present = true ↔ s.formatter.defaultSource = .digital)) ∧
        (r.mode ≠ .off → m = .warn → t.faults.records.get k = { r with mode := .warn, action := false } ∧
          (k = .clog → ∀ path tr, t.faults.heads.get path tr = { s.faults.heads.get path tr with action := false })) ∧
        (r.mode = .latched → m = .auto → k ≠ .clog →
          t.faults.records.get k = { r with mode := .auto, action := r.action && r.present }) ∧
        (r.mode = .latched → m = .auto → k = .clog → ∀ path tr, t.faults.heads.get path tr =
          { s.faults.heads.get path tr with
            action := (s.faults.heads.get path tr).action && (s.faults.heads.get path tr).present }) ∧
        ((r.mode = .auto ∨ r.mode = .warn) → m = .latched → t.faults.records.get k = { r with mode := .latched }) ∧
        (r.mode = .warn → m = .auto → t.faults.records.get k = { r with mode := .auto }) ∧
        (k ≠ .input → t = { s with
          ports := t.ports
          faults := { s.faults with
            records := t.faults.records, heads := t.faults.heads, window := t.faults.window
            positionTag := t.faults.positionTag, handed := t.faults.handed, lastConf := t.faults.lastConf } }) ∧
        (k ≠ .confirm ∨ m ≠ .off → t.faults.handed = s.faults.handed ∧ t.faults.lastConf = s.faults.lastConf)

/-- CLEAR FAULTS: a kind whose condition is gone loses its LATCHED action, seen, count, first AFA and detail; one whose
condition is present keeps its record, but for the LATCHED actions of CLOG's heads whose own condition is gone. How a condition
arises and goes: a raise counts, sets the detail, the first AFA and seen, raises FAULT_RAISED and in LATCHED and AUTO puts the
action in force; an AUTO action ends with its condition. At a FRAME_TICK with a tape, by the tallies of its completions: UNCORR
by the uncorrectable columns, RATE by the sum of the window of eight against the thresholds, each head of CLOG by its usable
blocks, each head raised counting one and each AUTO action of a head that ends raising FAULT_ENDED, POSITION by a jump or a
range clamp of that tick, gone at a tick without one. (The order of the blocks within the tick and of the users of one
completion is the model's: log entries 4 and 50.) -/
def Obligations.FaultsCleared : Prop :=
  (∀ (p : Port) (s : State), waitsForRise s p = false → faultsHeld s → ∃ t, exec (.clearFaults p) s = .next t ∧
    faultsHeld t ∧
    (∀ k, (s.faults.records.get k).present = false →
      let r := s.faults.records.get k
      t.faults.records.get k =
        ⟨r.mode, false, if r.mode = .latched then false else r.action, false, 0, none, .absent⟩ ∧
      (r.mode = .latched → r.action = true → ∀ q, EventSet.has (s.ports.get q).report .faultEnded = true →
        EventSet.has (t.ports.get q).events .faultEnded = true)) ∧
    (∀ k, k ≠ .clog → (s.faults.records.get k).present = true → t.faults.records.get k = s.faults.records.get k) ∧
    (s.faults.records.clog.present = true →
      t.faults.records.clog = { s.faults.records.clog with action := t.faults.heads.list.any (·.action) }) ∧
    (∀ path tr, let h := s.faults.heads.get path tr
      t.faults.heads.get path tr = { h with
        action := if s.faults.records.clog.mode = .latched ∧ h.present = false then false else h.action }) ∧
    (∃ lines, (t.ports.get p).response = ⟨.ok, 0x15, .faultClear lines⟩ ∧
      lines = [FaultKind.servo, .confirm, .input, .clog, .position, .uncorr, .rate].map fun k =>
        ⟨(t.faults.records.get k).present, (t.faults.records.get k).action, (t.faults.records.get k).seen⟩) ∧
    t = { s with
      ports := t.ports, faults := { s.faults with records := t.faults.records, heads := t.faults.heads } }) ∧
  (∀ (k : FaultKind) (cond : Option FaultDetail) (s : State), let t := conditionTo k cond s
    let r := s.faults.records.get k
    let r' := r.under cond (if s.tapeMap.pos.state = .unknown then none else some s.tapeMap.pos.afa)
    t = { s with ports := t.ports, faults := { s.faults with records := s.faults.records.set k r' } } ∧
    (r.present = false → r'.present = true → ∀ q, EventSet.has (s.ports.get q).report .faultRaised = true →
      EventSet.has (t.ports.get q).events .faultRaised = true) ∧
    (r.action = true → r'.action = false → ∀ q, EventSet.has (s.ports.get q).report .faultEnded = true →
      EventSet.has (t.ports.get q).events .faultEnded = true)) ∧
  ∀ (dir : Direction) (us : Nat) (s : State), s.transport.mode ≠ .unloaded →
    (∀ x, s.faults.positionTag = some x → x ≤ s.transport.tick) → ∃ t, exec (.frameTick dir us) s = .next t ∧
    let f := s.faults
    let afa := if t.tapeMap.pos.state = .unknown then none else some t.tapeMap.periodValue
    let result : ReadPath → TickResult := fun path => match path with
      | .pre => decoderResult .pre { s with transport := t.transport }
      | .conf => decoderResult .conf { s with transport := t.transport, tapeMap := t.tapeMap }
    (∀ path tr, (∀ c, result path ≠ .completion c) → t.faults.heads.get path tr = f.heads.get path tr) ∧
    (∀ path c, result path = .completion c → ∀ tr,
      let h := f.heads.get path tr
      let m := f.records.clog.mode
      let n := match tr with
        | .a => c.tally.headA.clean + c.tally.headA.fixed
        | .b => c.tally.headB.clean + c.tally.headB.fixed
      t.faults.heads.get path tr =
        if m = .off then h
        else if h.present then
          if 28 ≤ n then ⟨0, false, h.action && m != .auto⟩ else h
        else if n ≠ 0 then { h with count := 0 }
        else if h.count < 3 then { h with count := h.count + 1 }
        else ⟨4, true, h.action || m == .latched || m == .auto⟩) ∧
    (f.records.clog.mode ≠ .off → (∃ path tr, (f.heads.get path tr).present = false ∧
        (t.faults.heads.get path tr).present = true) →
      t.faults.records.clog.seen = true ∧ (∃ path tr, t.faults.records.clog.detail = .clogHead path tr ∧
        (f.heads.get path tr).present = false ∧ (t.faults.heads.get path tr).present = true) ∧
      ∀ q, EventSet.has (s.ports.get q).report .faultRaised = true →
        EventSet.has (t.ports.get q).events .faultRaised = true) ∧
    (let raised := [(ReadPath.pre, Track.a), (.pre, .b), (.conf, .a), (.conf, .b)].countP fun x =>
        !(f.heads.get x.1 x.2).present && (t.faults.heads.get x.1 x.2).present;
      t.faults.records.clog.count =
        if raised = 0 then f.records.clog.count else min 255 (f.records.clog.count + raised)) ∧
    (∀ path tr, (f.heads.get path tr).action = true → (t.faults.heads.get path tr).action = false →
      ∀ q, EventSet.has (s.ports.get q).report .faultEnded = true → EventSet.has (t.ports.get q).events .faultEnded = true) ∧
    ((∀ c, result .pre ≠ .completion c) → t.faults.records.uncorr = f.records.uncorr ∧
      t.faults.records.rate = f.records.rate ∧ t.faults.window = f.window) ∧
    (∀ c, result .pre = .completion c →
      let k := c.tally
      let unusable := k.headA.flagged + k.headA.lost + k.headB.flagged + k.headB.lost
      t.faults.records.uncorr = f.records.uncorr.under
        (if k.uncorrA + k.uncorrB = 0 then none else some (.uncorr k.identity k.uncorrA k.uncorrB)) afa ∧
      (f.records.rate.mode = .off → t.faults.window = f.window ∧ t.faults.records.rate = f.records.rate) ∧
      (f.records.rate.mode ≠ .off →
        t.faults.window = (f.window ++ [unusable]).drop (f.window.length - 7) ∧
        t.faults.records.rate = f.records.rate.under
          (if (if f.records.rate.present then f.low else f.high) < t.faults.window.sum then
            some (.rateSum t.faults.window.sum) else none) afa)) ∧
    (f.records.position.mode ≠ .off →
      let jumped : Prop := t.faults.counters.jumps ≠ f.counters.jumps
      let clamped : Prop := t.tapeMap.pos.state ≠ .unknown ∧
        ((dir = .forward ∧ 1048575 ≤ t.tapeMap.periodValue) ∨ (dir = .reverse ∧ t.tapeMap.periodValue = 0))
      (jumped → t.faults.positionTag = some t.transport.tick ∧ t.faults.records.position =
        f.records.position.under (some (.positionJump t.tapeMap.periodValue)) (some t.tapeMap.periodValue)) ∧
      (¬ jumped → clamped → t.faults.positionTag = some t.transport.tick ∧ t.faults.records.position =
        f.records.position.under (some (.positionRange t.tapeMap.pos.afa)) (some t.tapeMap.pos.afa)) ∧
      (¬ jumped → ¬ clamped → t.faults.positionTag = none ∧ t.faults.records.position =
        if f.positionTag.isSome then f.records.position.under none none else f.records.position))

/-- READ FAULTS, READ COUNTS and the verify scan's requests: what each refuses, what it returns, and what little it changes: a
port's own snapshot, the verify record. Each of the five completes in every state of a port that does not wait for the rise.
(That a clamped VERIFY START carries the threshold held in the byte after the verify state is deduced: log entries 3 and 43.)
The scan itself: a step of its own source begins it at the start AFA, fails on the first of POSITION, COLUMNS and BLOCKS, goes
on below the end AFA, and at it passes, or waits again with loop set; FRAME_TICK takes one step for each completion, of PRE
with the frame position, of CONF with the AFA of the frame's POSITION pack, else of the oldest written-list entry that the
tally's identity matches, else none; a stall, and a report that leaves decode range or for CONF leaves RECORD, stops it with
RANGE. (That the refusals carry zeros is deduced: log entry 19. That the CONF step at a tick goes by the tape map as the PRE
packs of the same tick leave it, and by the written list as it stood at the tick, is the model's order: log entries 4 and 50.) -/
def Obligations.MonitorRequests : Prop :=
  (∀ (p : Port) (s : State), waitsForRise s p = false →
    let r := s.faults.records
    (exec (.readFaults p 0) s = .next (respond p 0x14 .ok (.faultSummary
        ([FaultKind.servo, .confirm, .input, .clog, .position, .uncorr, .rate].map fun k =>
          ⟨(r.get k).mode, (r.get k).present, (r.get k).action, (r.get k).seen⟩)
        (faultCode r) s.faults.high s.faults.low) s) ∧
      (∀ k, exec (.readFaults p (BitVec.ofNat 8 (codeOfFaultKind k))) s = .next (respond p 0x14 .ok
        (.faultRecord k (r.get k)
          (if k = .clog then [s.faults.heads.preA, s.faults.heads.preB, s.faults.heads.confA, s.faults.heads.confB] else [])
          (if k = .rate then some (s.faults.window.sum, s.faults.window.length) else none)) s)) ∧
      ∀ c : Byte, 7 < c.toNat → exec (.readFaults p c) s = .next (respond p 0x14 .range .zeros s)) ∧
    (∀ (first : Byte) (snap : Bool),
      (22 < first.toNat → exec (.readCounts p first snap) s = .next (respond p 0x16 .range .zeros s)) ∧
      (first.toNat ≤ 22 → ∃ t l : State, exec (.readCounts p first snap) s = .next t ∧
        (l.faults.snap1, l.faults.snap2, l.faults.snap3) =
          (if snap = false then (s.faults.snap1, s.faults.snap2, s.faults.snap3)
          else match p with
            | .p1 => (s.faults.counters, s.faults.snap2, s.faults.snap3)
            | .p2 => (s.faults.snap1, s.faults.counters, s.faults.snap3)
            | .p3 => (s.faults.snap1, s.faults.snap2, s.faults.counters)) ∧
        l = { s with faults := { s.faults with
          snap1 := l.faults.snap1, snap2 := l.faults.snap2, snap3 := l.faults.snap3 } } ∧
        (let c := (snapshotOf l p).list;
          t = respond p 0x16 .ok
            (.counters (c.getD first.toNat 0) (c.getD (first.toNat + 1) 0) (c.getD (first.toNat + 2) 0)) l))) ∧
    (let v := s.faults.verify;
      let runs : Prop := v.state = .waiting ∨ v.state = .scanning
      (∀ (source : Byte) (start : Option (BitVec 20)) (stop : BitVec 20) (thr : Byte) (loop : Bool),
        let bad : Prop := 1 < source.toNat ∨ (∃ a, start = some a ∧ stop.toNat < a.toNat) ∨ (loop = true ∧ start = none)
        (runs → exec (.verifyStart p source start stop thr loop) s = .next (respond p 0x18 .busy .zeros s)) ∧
        (¬ runs → bad → exec (.verifyStart p source start stop thr loop) s = .next (respond p 0x18 .range .zeros s)) ∧
        (¬ runs → ¬ bad → source = 1 → s.transport.mode ≠ .record →
          exec (.verifyStart p source start stop thr loop) s = .next (respond p 0x18 .state .zeros s)) ∧
        (¬ runs → ¬ bad → (source = 0 ∨ s.transport.mode = .record) →
          let st : VerifyState := if start.isSome then .waiting else .scanning
          let begun : VerifyRecord :=
            { state := st, source := if source = 0 then .pre else .conf, start := start.map fun a => a.toNat
              stop := stop.toNat, threshold := if 112 < thr.toNat then 112 else thr.toNat, loop := loop, checked := 0
              passes := 0, lastScan := none, prevScan := none, failure := none, stopCause := none }
          let t : State := { s with faults := { s.faults with verify := begun } }
          (thr.toNat ≤ 112 →
            exec (.verifyStart p source start stop thr loop) s = .next (respond p 0x18 .ok (.verifyState st) t)) ∧
          (112 < thr.toNat →
            exec (.verifyStart p source start stop thr loop) s = .next (respond p 0x18 .clamped (.verifyClamped st 112) t) ∧
            (payloadBits (.verifyClamped st 112)).toNat = codeOfVerify st * 2 ^ 88 + 112 * 2 ^ 80))) ∧
      (runs → exec (.verifyStop p) s = .next (respond p 0x19 .ok (.verifyState .stopped)
        (raiseEvent .verifyDone { s with faults := { s.faults with
          verify := { v with state := .stopped, stopCause := some .request } } }))) ∧
      (¬ runs → exec (.verifyStop p) s = .next (respond p 0x19 .ok (.verifyState v.state) s)) ∧
      exec (.verifyRead p 0) s = .next (respond p 0x1A .ok (.verifyPage0
        ⟨v.state, v.source, v.start, v.stop, v.threshold, v.loop, v.checked, v.passes, v.stopCause⟩) s) ∧
      exec (.verifyRead p 1) s = .next (respond p 0x1A .ok (.verifyPage1 v.state v.lastScan v.failure) s) ∧
      ∀ page : Byte, 1 < page.toNat → exec (.verifyRead p page) s = .next (respond p 0x1A .range .zeros s))) ∧
  (∀ (path : ReadPath) (scan : Option Afa) (jumped : Bool) (k : Tally) (s : State),
    let v := s.faults.verify
    let t := verifyStep path scan jumped k s
    let steps : Prop := v.source = path ∧ (v.state = .scanning ∨ (v.state = .waiting ∧ v.start.isSome = true ∧
      scan = v.start))
    let badA := k.headA.flagged + k.headA.lost
    let badB := k.headB.flagged + k.headB.lost
    let broken : Prop := match v.source with
      | .pre => jumped = true
      | .conf => ∃ a b, v.prevScan = some a ∧ scan = some b ∧ b ≠ a + 1
    let columns := k.uncorrA + k.uncorrB
    let next : VerifyRecord := { v with state := .scanning, checked := min 65535 (v.checked + 1), prevScan := scan }
    let fail : VerifyCause → VerifyRecord := fun c => { next with
      state := .fail, failure := some ⟨scan, if badA < badB then .b else .a, badA + badB, columns, c⟩ }
    (¬ steps → t = s) ∧
    (steps → t = { s with ports := t.ports, faults := { s.faults with verify := t.faults.verify } } ∧
      (t.faults.verify.state = .fail ∨ t.faults.verify.state = .pass →
        ∀ q, EventSet.has (s.ports.get q).report .verifyDone = true →
          EventSet.has (t.ports.get q).events .verifyDone = true) ∧
      (broken → t.faults.verify = fail .position) ∧
      (¬ broken → columns ≠ 0 → t.faults.verify = fail .columns) ∧
      (¬ broken → columns = 0 → v.threshold < badA + badB → t.faults.verify = fail .blocks) ∧
      (¬ broken → columns = 0 → badA + badB ≤ v.threshold →
        (scan = none → t.faults.verify = next) ∧
        ∀ a, scan = some a →
          (a < v.stop → t.faults.verify = { next with lastScan := some a }) ∧
          (v.stop ≤ a → v.loop = false → t.faults.verify = { next with state := .pass, lastScan := some a }) ∧
          (v.stop ≤ a → v.loop = true → t.faults.verify = { next with
            state := .waiting, passes := min 255 (v.passes + 1), lastScan := none, prevScan := none })))) ∧
  (∀ (dir : Direction) (us : Nat) (s : State), s.transport.mode ≠ .unloaded → beforeTick s = s →
    ∃ t, exec (.frameTick dir us) s = .next t ∧
      let x := t.transport
      let range : Prop := (x.mode = .play ∨ x.mode = .record) ∧ x.stalled = false ∧ x.dir = .forward ∧ 875 ≤ x.ratio ∧
        x.ratio ≤ 1125
      let pre := decoderResult .pre { s with transport := x }
      let conf := decoderResult .conf { s with transport := x, tapeMap := t.tapeMap }
      (range → s.faults.verify.source = .pre → ∀ c, pre = .completion c → ∃ jumped,
        (jumped = true ↔ t.faults.counters.jumps ≠ s.faults.counters.jumps) ∧
        t.faults.verify = (verifyStep .pre t.seq.lastPosition jumped c.tally s).faults.verify) ∧
      (range → s.faults.verify.source = .conf → ∀ c, conf = .completion c →
        let matched : WrittenFrame → Bool := fun w => match c.tally.identity with
          | .afa a => w.afa == a
          | .lowBits b => w.afa % 256 == b.toNat
          | .absent => false
        let stepped : Option Afa → Prop := fun scan =>
          t.faults.verify = (verifyStep .conf scan false c.tally s).faults.verify
        (∀ k, c.packs.position = some k → stepped (some k.afa)) ∧
        (c.packs.position = none → (∀ w ∈ s.formatter.written, matched w = false) → stepped none) ∧
        (c.packs.position = none → ∀ older w newer, s.formatter.written = older ++ w :: newer →
          (∀ v ∈ older, matched v = false) → matched w = true → stepped (some w.afa))) ∧
      (¬ range → s.faults.verify.state = .scanning → decodeRange s.transport = true →
        t.faults.verify = { s.faults.verify with state := .stopped, stopCause := some .range })) ∧
  ∀ s : State, s.faults.verify.state = .scanning →
    (decodeRange s.transport = true → ∃ t, exec .stallTimeout s = .next t ∧
      t.faults.verify = { s.faults.verify with state := .stopped, stopCause := some .range } ∧
      ∀ q, EventSet.has (s.ports.get q).report .verifyDone = true →
        EventSet.has (t.ports.get q).events .verifyDone = true) ∧
    ∀ (p : Port) (m l r : Byte) (mode : Mode), waitsForRise s p = false → s.claims.transport = some p →
      [Mode.unloaded, .stop, .play, .record, .cue, .wind][m.toNat]? = some mode → mode ≠ .unloaded →
      l.toNat ≤ 1 → r.toNat ≤ 1 → ∃ t, exec (.modeReport p m l r) s = .next t ∧
        let leaves : Prop := (decodeRange s.transport = true ∧ mode ≠ .play ∧ mode ≠ .record) ∨
          (s.faults.verify.source = .conf ∧ s.transport.mode = .record ∧ mode ≠ .record)
        (leaves → t.faults.verify = { s.faults.verify with state := .stopped, stopCause := some .range }) ∧
        (¬ leaves → t.faults.verify = s.faults.verify)

/-- READ POSITION with its two pages, READ INDEX, CLEAR INDEX and JUMP_CANDIDATE_EXPIRY. (Which entry fields a refused READ
INDEX carries beside the counts is the model's choice: log entry 12. That a refused READ POSITION carries zeros is deduced: log
entry 19. That JUMP_CANDIDATE_EXPIRY does nothing when it is taken while not due is the model's choice: log entry 1.) The
marker debounce: three marker packs in a row of one kind, number and start, with run indices that follow in the direction of
travel, confirm a run once, which inserts a READ entry, or rewrites the nearest entry within 2 of the start, each raising
INDEX_CHANGED, or finds INDEX_FULL, and in PLAY raises MARKER_SEEN; any other pack empties the debounce or begins it anew.
FRAME_TICK gives it the PROGRAM pack of its completion. -/
def Obligations.TapeMapRequests : Prop :=
  (∀ (p : Port) (s : State), waitsForRise s p = false →
    let m := s.tapeMap
    let t := s.transport
    ((∃ v : PositionView, exec (.readPosition p 0) s = .next (respond p 0x10 .ok (.position v) s) ∧
        v.state = m.pos.state ∧ v.afa = m.pos.afa ∧ v.rate = m.pos.rate ∧ v.lastGeneration = m.pos.lastGeneration ∧
        v.framesSince = m.pos.framesSince ∧ v.entries = m.index.length ∧ v.indexFull = m.indexFull ∧
        v.changeCount = m.changeCount ∧
        (v.candidateHeld = true ↔ ∃ c, m.pos.candidate = some c ∧ c.age < 9) ∧
        (v.candidateInRange = true ↔ ∃ c, m.pos.candidate = some c ∧ c.age < 9 ∧ 0 ≤ c.projected ∧ c.projected ≤ 1048575) ∧
        (v.candidateInRange = false → v.candidateAfa = none) ∧
        ∀ c, m.pos.candidate = some c → v.candidateInRange = true → v.candidateAfa = some c.projected.toNat) ∧
      (∃ v : TransportView, exec (.readPosition p 1) s = .next (respond p 0x10 .ok (.transport v) s) ∧
        v.mode = t.mode ∧ v.lock = t.lock ∧ v.prot = t.prot ∧ v.dir = t.dir ∧ v.ratio = t.ratio ∧
        v.stalled = t.stalled ∧
        (v.decodeRange = true ↔ (t.mode = .play ∨ t.mode = .record) ∧ t.stalled = false ∧ t.dir = .forward ∧
          875 ≤ t.ratio ∧ t.ratio ≤ 1125) ∧
        (v.writeWindow = true ↔ t.mode = .record ∧ t.lock = true ∧ t.prot = false ∧ t.stalled = false ∧
          t.dir = .forward ∧ 990 ≤ t.ratio ∧ t.ratio ≤ 1010)) ∧
      ∀ page : Byte, 1 < page.toNat → exec (.readPosition p page) s = .next (respond p 0x10 .range .zeros s)) ∧
    (∀ k : Byte,
      (63 < k.toNat → ∃ e, exec (.readIndex p k) s =
        .next (respond p 0x11 .range (.indexEntry e m.index.length m.indexFull m.changeCount) s)) ∧
      (∀ e, k.toNat ≤ 63 → m.index[k.toNat]? = some e → exec (.readIndex p k) s =
        .next (respond p 0x11 .ok (.indexEntry (some e) m.index.length m.indexFull m.changeCount) s)) ∧
      (k.toNat ≤ 63 → m.index.length ≤ k.toNat → exec (.readIndex p k) s =
        .next (respond p 0x11 .ok (.indexEntry none m.index.length m.indexFull m.changeCount) s))) ∧
    (s.claims.edit = some p →
      let emptied : State := { s with tapeMap := { m with index := [], indexFull := false, debounce := none } }
      let counted : State := { s with tapeMap := { m with
        index := [], indexFull := false, debounce := none, changeCount := m.changeCount + 1 } }
      (m.index = [] → exec (.clearIndex p) s = .next (respond p 0x54 .ok .zeros emptied)) ∧
      (m.index ≠ [] → exec (.clearIndex p) s = .next (respond p 0x54 .ok .zeros (raiseEvent .indexChanged counted)))) ∧
    (∀ c, m.pos.candidate = some c →
      (9 ≤ c.age → exec .jumpCandidateExpiry s =
        .next { s with tapeMap := { m with pos := { m.pos with candidate := none } } }) ∧
      (c.age < 9 → exec .jumpCandidateExpiry s = .next s)) ∧
    (m.pos.candidate = none → exec .jumpCandidateExpiry s = .next s)) ∧
  (∀ (k : Option ProgramPack) (afa : Option Afa) (dir : Direction) (s : State),
    let t := updateDebounce k afa dir s
    let m := s.tapeMap
    let with' : Option Debounce → State := fun d => { s with tapeMap := { m with debounce := d } }
    ((k = none ∨ afa = none ∨ (∃ p, k = some p ∧ p.marker = none) ∨
      ∃ p a, k = some p ∧ afa = some a ∧ a < p.runIndex) → t = with' none) ∧
    ∀ p a kind, k = some p → afa = some a → p.marker = some kind → p.runIndex ≤ a →
      let start := a - p.runIndex
      let fresh : Debounce := ⟨kind, p.number, start, p.runIndex, 1, false⟩
      let goesOn : Debounce → Prop := fun d => d.kind = kind ∧ d.number = p.number ∧ d.start = start ∧
        match dir with | .forward => p.runIndex = d.lastIndex + 1 | .reverse => p.runIndex + 1 = d.lastIndex
      ((∀ d, m.debounce = some d → ¬ goesOn d) → t = with' (some fresh)) ∧
      ∀ d, m.debounce = some d → goesOn d →
        let d' : Debounce := { d with count := min 3 (d.count + 1), lastIndex := p.runIndex }
        let near : IndexEntry → Prop := fun e => e.start ≤ start + 2 ∧ start ≤ e.start + 2
        let dist : IndexEntry → Nat := fun e => (e.start - start) + (start - e.start)
        (d.count < 2 ∨ d.applied = true → t = with' (some d')) ∧
        (2 ≤ d.count → d.applied = false → indexHeld s →
          t = { s with ports := t.ports, tapeMap := { m with
            debounce := some { d' with applied := true }, index := t.tapeMap.index, indexFull := t.tapeMap.indexFull
            changeCount := if t.tapeMap.index = m.index then m.changeCount else m.changeCount + 1 } } ∧
          indexHeld t ∧
          (t.tapeMap.index ≠ m.index → ∀ q, EventSet.has (s.ports.get q).report .indexChanged = true →
            EventSet.has (t.ports.get q).events .indexChanged = true) ∧
          (t.tapeMap.index = m.index → ∀ q, EventSet.has (t.ports.get q).events .indexChanged =
            EventSet.has (s.ports.get q).events .indexChanged) ∧
          (s.transport.mode = .play → ∀ q, EventSet.has (s.ports.get q).report .markerSeen = true →
            EventSet.has (t.ports.get q).events .markerSeen = true) ∧
          (s.transport.mode ≠ .play → ∀ q, EventSet.has (t.ports.get q).events .markerSeen =
            EventSet.has (s.ports.get q).events .markerSeen) ∧
          ((∀ e ∈ m.index, ¬ near e) → m.index.length < 64 → t.tapeMap.indexFull = m.indexFull ∧
            ∀ e, e ∈ t.tapeMap.index ↔ e = ⟨start, kind, p.number, .read⟩ ∨ e ∈ m.index) ∧
          ((∀ e ∈ m.index, ¬ near e) → m.index.length = 64 → t.tapeMap.index = m.index ∧ t.tapeMap.indexFull = true) ∧
          ∀ e ∈ m.index, near e → (∀ o ∈ m.index, dist e < dist o ∨ (dist e = dist o ∧ e.start ≤ o.start)) →
            t.tapeMap.indexFull = m.indexFull ∧
            (e.kind = kind → e.number = p.number → t.tapeMap.index = m.index) ∧
            (e.kind ≠ kind ∨ e.number ≠ p.number → ∀ o, o ∈ t.tapeMap.index ↔
              o = ⟨e.start, kind, p.number, .read⟩ ∨ (o ∈ m.index ∧ o ≠ e)))) ∧
  ∀ (dir : Direction) (us : Nat) (s : State), s.transport.mode ≠ .unloaded → beforeTick s = s →
    ∃ t, exec (.frameTick dir us) s = .next t ∧
      let packs := (decoderResult .pre { s with transport := t.transport }).packs
      let afa : Option Afa := match packs.position with | some k => some k.afa | none => t.seq.lastPosition
      let u := updateDebounce packs.program afa dir { s with transport := t.transport }
      t.tapeMap.debounce = u.tapeMap.debounce ∧ t.tapeMap.index = u.tapeMap.index ∧
        t.tapeMap.indexFull = u.tapeMap.indexFull ∧ t.tapeMap.changeCount = u.tapeMap.changeCount ∧
        (t.tapeMap.index ≠ s.tapeMap.index → ∀ q, EventSet.has (s.ports.get q).report .indexChanged = true →
          EventSet.has (t.ports.get q).events .indexChanged = true)

/-! ## Invariants -/

/-- Every step keeps the write gate's promise: apart from the track that a forced close lets finish, the gate is OPEN only
while writing is enabled, the tape is not protected, the mode is RECORD with servo lock, and the sequencer is in RECORDING
or CLOSING with an entry that writes. -/
def Obligations.GateKept : Prop := ∀ s t : State, gateHeld s → step s = .next t → gateHeld t

/-- Every step keeps the fault records to their modes: OFF has neither condition, seen nor action, WARN no action, and the
CLOG record is what its heads are. -/
def Obligations.FaultsKept : Prop := ∀ s t : State, faultsHeld s → step s = .next t → faultsHeld t

/-- Every step keeps the ports' pending sets within their report-enable sets, the program index in order and within its 64
entries, the other lists within their lengths, and the AFA within its range. -/
def Obligations.SetsAndListsKept : Prop :=
  (∀ s t : State, eventsReported s → step s = .next t → eventsReported t) ∧
  (∀ s t : State, indexHeld s → step s = .next t → indexHeld t) ∧
  (∀ s t : State, listsHeld s → step s = .next t → listsHeld t) ∧
  ∀ s t : State, positionHeld s → step s = .next t → positionHeld t

end
end

