-- ==== Sys2Proof/Laws/OuterCode.lean ====
section
/-! SUPPORT. What the outer code restores (R6): the symbols of a written column, from any 48 of them. -/

namespace Sys2Proof.Machine

open Sys2Proof

/-- A written column is the word of the code for its data. -/
theorem outerColumn_eq (data : List Symbol) (r : Fin 56) :
    (outerColumn data r.val).toFin = tableWord outerTable (dataOf data) r := by
  unfold outerColumn tableWord
  by_cases h : r.val < 48
  · simp [h, dataOf]
  · simp [h, outerCheck]

/-- Agreement of a column with the known symbols, row by row. -/
theorem outerAgrees_iff (known : List (Option Symbol)) (d : Fin 48 → Fin 1024) :
    outerAgrees known d = true ↔ ∀ (r : Fin 56) (v : Symbol), known.getD r.val none = some v →
      tableWord outerTable d r = v.toFin := by
  unfold outerAgrees
  simp only [List.all_eq_true, List.mem_finRange, true_implies]
  refine forall_congr' fun r => ?_
  cases h : known.getD r.val none with
  | none => simp
  | some v => simp

/-- The rows of a column whose symbol is not known. -/
def unknownRows (known : List (Option Symbol)) : Finset (Fin 56) :=
  Finset.univ.filter fun r => (known.getD r.val none).isNone = true

/-- Two columns that have every known symbol are one, when at most 8 are not known. -/
theorem outerAgrees_unique {known : List (Option Symbol)} (hn : (unknownRows known).card ≤ 8) {d d' : Fin 48 → Fin 1024}
    (h : outerAgrees known d = true) (h' : outerAgrees known d' = true) : d = d' := by
  refine outerTable_strong (fun r => (known.getD r.val none).isNone) hn d d' fun r hr => ?_
  cases hk : known.getD r.val none with
  | none => rw [hk] at hr; cases hr
  | some v => rw [(outerAgrees_iff known d).mp h r v hk, (outerAgrees_iff known d').mp h' r v hk]

/-- R6: a written column is restored from any 48 of its symbols. -/
theorem outerRestore_written (data : List Symbol) (known : List (Option Symbol))
    (hk : ∀ r : Fin 56, ∀ v, known.getD r.val none = some v → v = outerColumn data r.val)
    (hn : (unknownRows known).card ≤ 8) (r : Nat) (hr : r < 56) : outerRestore known r = outerColumn data r := by
  have hd : outerAgrees known (dataOf data) = true :=
    (outerAgrees_iff known _).mpr fun i v hv => by rw [hk i v hv, outerColumn_eq]
  have hfit : ∀ v, outerFits known ⟨r, hr⟩ v = true ↔ v = (outerColumn data r).toFin := by
    intro v
    unfold outerFits
    rw [decide_eq_true_iff, ← outerColumn_eq data ⟨r, hr⟩ |>.symm]
    constructor
    · rintro ⟨d, h, rfl⟩
      rw [outerAgrees_unique hn h hd]
    · rintro rfl
      exact ⟨dataOf data, hd, rfl⟩
  unfold outerRestore
  rw [dif_pos hr]
  cases hf : (List.finRange 1024).find? (outerFits known ⟨r, hr⟩) with
  | none =>
    have := List.find?_eq_none.mp hf (outerColumn data r).toFin (List.mem_finRange _)
    exact absurd ((hfit _).mpr rfl) this
  | some v =>
    have := (hfit v).mp (List.find?_some hf)
    subst this
    rfl

/-- A column of zeros is what the formatter writes for data of zeros (R11). -/
theorem outerColumn_zero (data : List Symbol) (h : ∀ r, r < 48 → data.getD r 0 = 0) (r : Nat) (hr : r < 56) :
    outerColumn data r = 0 := by
  have hd : dataOf data = fun _ => 0 := funext fun i => by simp only [dataOf, h i.val i.isLt]; rfl
  have := outerColumn_eq data ⟨r, hr⟩
  rw [hd, outerTable_zero] at this
  exact BitVec.eq_of_toFin_eq (by simpa using this)

/-- R11: known zeros in the data rows are restored to a column of zeros, whichever of the check rows are unknown. -/
theorem outerRestore_zeros (known : List (Option Symbol)) (hk : ∀ r : Fin 56, ∀ v, known.getD r.val none = some v → v = 0)
    (hn : (unknownRows known).card ≤ 8) (r : Nat) (hr : r < 56) : outerRestore known r = 0 := by
  have h0 : ∀ q, q < 56 → outerColumn [] q = 0 := outerColumn_zero [] (by simp)
  rw [outerRestore_written [] known (fun i v hv => by rw [hk i v hv, h0 i.val i.isLt]) hn r hr, h0 r hr]

end Sys2Proof.Machine
end

