-- ==== Sys2Proof/Laws/Payload.lean ====
section
/-! SUPPORT. What the fields of a payload laid at their places give at each of its 96 bits (R195, R198), said once. -/

namespace Sys2Proof.Laws

open Sys2Proof.Machine

/-- One field of width `w` with `o` bits before it: its own bits are those of its value, most significant first, and every
other bit is 0. -/
theorem field_getLsbD (w o v x : Nat) (h : o + w ≤ 96) :
    (BitVec.ofNat 96 (v % 2 ^ w) <<< (96 - o - w)).getLsbD x = true ↔
      96 - o - w ≤ x ∧ x < 96 - o ∧ v.testBit (x - (96 - o - w)) = true := by
  simp only [BitVec.getLsbD_shiftLeft, BitVec.getLsbD_ofNat, Nat.testBit_mod_two_pow, Bool.and_eq_true, decide_eq_true_eq,
    Bool.not_eq_true', decide_eq_false_iff_not]
  constructor
  · rintro ⟨⟨hx, hn⟩, -, hw, hb⟩
    exact ⟨by omega, by omega, hb⟩
  · rintro ⟨h1, h2, hb⟩
    exact ⟨⟨by omega, by omega⟩, by omega, by omega, hb⟩

/-- A bit of a payload laid in fields is set just where a field that covers it has that bit of its value set. -/
theorem layFields_getLsbD (fs : List (Nat × Nat)) (vs : List Nat) (x : Nat) (h : ∀ f ∈ fs, f.2 + f.1 ≤ 96) :
    (layFields fs vs).getLsbD x = true ↔
      ∃ g ∈ fs.zip vs, 96 - g.1.2 - g.1.1 ≤ x ∧ x < 96 - g.1.2 ∧ g.2.testBit (x - (96 - g.1.2 - g.1.1)) = true := by
  induction fs generalizing vs with
  | nil => simp [layFields]
  | cons f fs ih =>
    cases vs with
    | nil => simp [layFields]
    | cons v vs =>
      have hf := field_getLsbD f.1 f.2 v x (h f List.mem_cons_self)
      have hr := ih vs fun g hg => h g (List.mem_cons_of_mem _ hg)
      simp only [layFields, BitVec.getLsbD_or, Bool.or_eq_true, hf, hr, List.zip_cons_cons]
      simp

/-- Each form has one place for each of its fields, and no field passes the last bit. -/
theorem places_length (f : PayloadForm) : f.places.length = f.widths.length := f.places_suit.1

/-- A field of a form, with its place, ends within the 96 bits. -/
theorem places_bound (f : PayloadForm) : ∀ g ∈ f.widths.zip f.places, g.2 + g.1 ≤ 96 := f.places_suit.2.1

/-- R195: a value of more than one byte stands at the low end of its bytes, and any other within one byte. -/
theorem places_low_end (f : PayloadForm) : ∀ g ∈ f.widths.zip f.places,
    if wide g.1 then (g.2 + g.1) % 8 = 0 else g.2 / 8 = (g.2 + g.1 - 1) / 8 := f.places_suit.2.2.2.2.1

end Sys2Proof.Laws
end

