-- ==== Sys2Proof/Laws/State.lean ====
section
/-! SUPPORT. What each plain update of `State` leaves alone, field by field, true by `rfl`, so that no later proof unfolds a
record update; and the laws of the small tables inside it (ports, claims, fault records, heads, blend channels). -/

namespace Sys2Proof.Machine

open Sys2Proof

/-! ### raiseEvent -/

@[simp] theorem raiseEvent_claims (e : Event) (s : State) : (raiseEvent e s).claims = s.claims := rfl
@[simp] theorem raiseEvent_transport (e : Event) (s : State) : (raiseEvent e s).transport = s.transport := rfl
@[simp] theorem raiseEvent_clock (e : Event) (s : State) : (raiseEvent e s).clock = s.clock := rfl
@[simp] theorem raiseEvent_formatter (e : Event) (s : State) : (raiseEvent e s).formatter = s.formatter := rfl
@[simp] theorem raiseEvent_preDecoder (e : Event) (s : State) : (raiseEvent e s).preDecoder = s.preDecoder := rfl
@[simp] theorem raiseEvent_confDecoder (e : Event) (s : State) : (raiseEvent e s).confDecoder = s.confDecoder := rfl
@[simp] theorem raiseEvent_preRepair (e : Event) (s : State) : (raiseEvent e s).preRepair = s.preRepair := rfl
@[simp] theorem raiseEvent_confRepair (e : Event) (s : State) : (raiseEvent e s).confRepair = s.confRepair := rfl
@[simp] theorem raiseEvent_settings (e : Event) (s : State) : (raiseEvent e s).settings = s.settings := rfl
@[simp] theorem raiseEvent_blend (e : Event) (s : State) : (raiseEvent e s).blend = s.blend := rfl
@[simp] theorem raiseEvent_monitor (e : Event) (s : State) : (raiseEvent e s).monitor = s.monitor := rfl
@[simp] theorem raiseEvent_outputs (e : Event) (s : State) : (raiseEvent e s).outputs = s.outputs := rfl
@[simp] theorem raiseEvent_tapeMap (e : Event) (s : State) : (raiseEvent e s).tapeMap = s.tapeMap := rfl
@[simp] theorem raiseEvent_editList (e : Event) (s : State) : (raiseEvent e s).editList = s.editList := rfl
@[simp] theorem raiseEvent_seq (e : Event) (s : State) : (raiseEvent e s).seq = s.seq := rfl
@[simp] theorem raiseEvent_rights (e : Event) (s : State) : (raiseEvent e s).rights = s.rights := rfl
@[simp] theorem raiseEvent_faults (e : Event) (s : State) : (raiseEvent e s).faults = s.faults := rfl
@[simp] theorem raiseEvent_pending (e : Event) (s : State) : (raiseEvent e s).pending = s.pending := rfl

/-! ### raiseFor -/

@[simp] theorem raiseFor_claims (p : Port) (e : Event) (s : State) : (raiseFor p e s).claims = s.claims := rfl
@[simp] theorem raiseFor_transport (p : Port) (e : Event) (s : State) : (raiseFor p e s).transport = s.transport := rfl
@[simp] theorem raiseFor_clock (p : Port) (e : Event) (s : State) : (raiseFor p e s).clock = s.clock := rfl
@[simp] theorem raiseFor_formatter (p : Port) (e : Event) (s : State) : (raiseFor p e s).formatter = s.formatter := rfl
@[simp] theorem raiseFor_preDecoder (p : Port) (e : Event) (s : State) : (raiseFor p e s).preDecoder = s.preDecoder := rfl
@[simp] theorem raiseFor_confDecoder (p : Port) (e : Event) (s : State) : (raiseFor p e s).confDecoder = s.confDecoder := rfl
@[simp] theorem raiseFor_preRepair (p : Port) (e : Event) (s : State) : (raiseFor p e s).preRepair = s.preRepair := rfl
@[simp] theorem raiseFor_confRepair (p : Port) (e : Event) (s : State) : (raiseFor p e s).confRepair = s.confRepair := rfl
@[simp] theorem raiseFor_settings (p : Port) (e : Event) (s : State) : (raiseFor p e s).settings = s.settings := rfl
@[simp] theorem raiseFor_blend (p : Port) (e : Event) (s : State) : (raiseFor p e s).blend = s.blend := rfl
@[simp] theorem raiseFor_monitor (p : Port) (e : Event) (s : State) : (raiseFor p e s).monitor = s.monitor := rfl
@[simp] theorem raiseFor_outputs (p : Port) (e : Event) (s : State) : (raiseFor p e s).outputs = s.outputs := rfl
@[simp] theorem raiseFor_tapeMap (p : Port) (e : Event) (s : State) : (raiseFor p e s).tapeMap = s.tapeMap := rfl
@[simp] theorem raiseFor_editList (p : Port) (e : Event) (s : State) : (raiseFor p e s).editList = s.editList := rfl
@[simp] theorem raiseFor_seq (p : Port) (e : Event) (s : State) : (raiseFor p e s).seq = s.seq := rfl
@[simp] theorem raiseFor_rights (p : Port) (e : Event) (s : State) : (raiseFor p e s).rights = s.rights := rfl
@[simp] theorem raiseFor_faults (p : Port) (e : Event) (s : State) : (raiseFor p e s).faults = s.faults := rfl
@[simp] theorem raiseFor_pending (p : Port) (e : Event) (s : State) : (raiseFor p e s).pending = s.pending := rfl

/-! ### respond -/

@[simp] theorem respond_claims (p : Port) (op : Byte) (res : ResultCode) (pl : Payload) (s : State) : (respond p op res pl s).claims = s.claims := rfl
@[simp] theorem respond_transport (p : Port) (op : Byte) (res : ResultCode) (pl : Payload) (s : State) : (respond p op res pl s).transport = s.transport := rfl
@[simp] theorem respond_clock (p : Port) (op : Byte) (res : ResultCode) (pl : Payload) (s : State) : (respond p op res pl s).clock = s.clock := rfl
@[simp] theorem respond_formatter (p : Port) (op : Byte) (res : ResultCode) (pl : Payload) (s : State) : (respond p op res pl s).formatter = s.formatter := rfl
@[simp] theorem respond_preDecoder (p : Port) (op : Byte) (res : ResultCode) (pl : Payload) (s : State) : (respond p op res pl s).preDecoder = s.preDecoder := rfl
@[simp] theorem respond_confDecoder (p : Port) (op : Byte) (res : ResultCode) (pl : Payload) (s : State) : (respond p op res pl s).confDecoder = s.confDecoder := rfl
@[simp] theorem respond_preRepair (p : Port) (op : Byte) (res : ResultCode) (pl : Payload) (s : State) : (respond p op res pl s).preRepair = s.preRepair := rfl
@[simp] theorem respond_confRepair (p : Port) (op : Byte) (res : ResultCode) (pl : Payload) (s : State) : (respond p op res pl s).confRepair = s.confRepair := rfl
@[simp] theorem respond_settings (p : Port) (op : Byte) (res : ResultCode) (pl : Payload) (s : State) : (respond p op res pl s).settings = s.settings := rfl
@[simp] theorem respond_blend (p : Port) (op : Byte) (res : ResultCode) (pl : Payload) (s : State) : (respond p op res pl s).blend = s.blend := rfl
@[simp] theorem respond_monitor (p : Port) (op : Byte) (res : ResultCode) (pl : Payload) (s : State) : (respond p op res pl s).monitor = s.monitor := rfl
@[simp] theorem respond_outputs (p : Port) (op : Byte) (res : ResultCode) (pl : Payload) (s : State) : (respond p op res pl s).outputs = s.outputs := rfl
@[simp] theorem respond_tapeMap (p : Port) (op : Byte) (res : ResultCode) (pl : Payload) (s : State) : (respond p op res pl s).tapeMap = s.tapeMap := rfl
@[simp] theorem respond_editList (p : Port) (op : Byte) (res : ResultCode) (pl : Payload) (s : State) : (respond p op res pl s).editList = s.editList := rfl
@[simp] theorem respond_seq (p : Port) (op : Byte) (res : ResultCode) (pl : Payload) (s : State) : (respond p op res pl s).seq = s.seq := rfl
@[simp] theorem respond_rights (p : Port) (op : Byte) (res : ResultCode) (pl : Payload) (s : State) : (respond p op res pl s).rights = s.rights := rfl
@[simp] theorem respond_faults (p : Port) (op : Byte) (res : ResultCode) (pl : Payload) (s : State) : (respond p op res pl s).faults = s.faults := rfl
@[simp] theorem respond_pending (p : Port) (op : Byte) (res : ResultCode) (pl : Payload) (s : State) : (respond p op res pl s).pending = s.pending := rfl

/-! ### endWait -/

@[simp] theorem endWait_claims (p : Port) (s : State) : (endWait p s).claims = s.claims := rfl
@[simp] theorem endWait_transport (p : Port) (s : State) : (endWait p s).transport = s.transport := rfl
@[simp] theorem endWait_clock (p : Port) (s : State) : (endWait p s).clock = s.clock := rfl
@[simp] theorem endWait_formatter (p : Port) (s : State) : (endWait p s).formatter = s.formatter := rfl
@[simp] theorem endWait_preDecoder (p : Port) (s : State) : (endWait p s).preDecoder = s.preDecoder := rfl
@[simp] theorem endWait_confDecoder (p : Port) (s : State) : (endWait p s).confDecoder = s.confDecoder := rfl
@[simp] theorem endWait_preRepair (p : Port) (s : State) : (endWait p s).preRepair = s.preRepair := rfl
@[simp] theorem endWait_confRepair (p : Port) (s : State) : (endWait p s).confRepair = s.confRepair := rfl
@[simp] theorem endWait_settings (p : Port) (s : State) : (endWait p s).settings = s.settings := rfl
@[simp] theorem endWait_blend (p : Port) (s : State) : (endWait p s).blend = s.blend := rfl
@[simp] theorem endWait_monitor (p : Port) (s : State) : (endWait p s).monitor = s.monitor := rfl
@[simp] theorem endWait_outputs (p : Port) (s : State) : (endWait p s).outputs = s.outputs := rfl
@[simp] theorem endWait_tapeMap (p : Port) (s : State) : (endWait p s).tapeMap = s.tapeMap := rfl
@[simp] theorem endWait_editList (p : Port) (s : State) : (endWait p s).editList = s.editList := rfl
@[simp] theorem endWait_seq (p : Port) (s : State) : (endWait p s).seq = s.seq := rfl
@[simp] theorem endWait_rights (p : Port) (s : State) : (endWait p s).rights = s.rights := rfl
@[simp] theorem endWait_faults (p : Port) (s : State) : (endWait p s).faults = s.faults := rfl
@[simp] theorem endWait_pending (p : Port) (s : State) : (endWait p s).pending = s.pending := rfl

/-! ### clearReset -/

@[simp] theorem clearReset_claims (p : Port) (s : State) : (clearReset p s).claims = s.claims := rfl
@[simp] theorem clearReset_transport (p : Port) (s : State) : (clearReset p s).transport = s.transport := rfl
@[simp] theorem clearReset_clock (p : Port) (s : State) : (clearReset p s).clock = s.clock := rfl
@[simp] theorem clearReset_formatter (p : Port) (s : State) : (clearReset p s).formatter = s.formatter := rfl
@[simp] theorem clearReset_preDecoder (p : Port) (s : State) : (clearReset p s).preDecoder = s.preDecoder := rfl
@[simp] theorem clearReset_confDecoder (p : Port) (s : State) : (clearReset p s).confDecoder = s.confDecoder := rfl
@[simp] theorem clearReset_preRepair (p : Port) (s : State) : (clearReset p s).preRepair = s.preRepair := rfl
@[simp] theorem clearReset_confRepair (p : Port) (s : State) : (clearReset p s).confRepair = s.confRepair := rfl
@[simp] theorem clearReset_settings (p : Port) (s : State) : (clearReset p s).settings = s.settings := rfl
@[simp] theorem clearReset_blend (p : Port) (s : State) : (clearReset p s).blend = s.blend := rfl
@[simp] theorem clearReset_monitor (p : Port) (s : State) : (clearReset p s).monitor = s.monitor := rfl
@[simp] theorem clearReset_outputs (p : Port) (s : State) : (clearReset p s).outputs = s.outputs := rfl
@[simp] theorem clearReset_tapeMap (p : Port) (s : State) : (clearReset p s).tapeMap = s.tapeMap := rfl
@[simp] theorem clearReset_editList (p : Port) (s : State) : (clearReset p s).editList = s.editList := rfl
@[simp] theorem clearReset_seq (p : Port) (s : State) : (clearReset p s).seq = s.seq := rfl
@[simp] theorem clearReset_rights (p : Port) (s : State) : (clearReset p s).rights = s.rights := rfl
@[simp] theorem clearReset_faults (p : Port) (s : State) : (clearReset p s).faults = s.faults := rfl
@[simp] theorem clearReset_pending (p : Port) (s : State) : (clearReset p s).pending = s.pending := rfl

/-! ### grantClaim -/

@[simp] theorem grantClaim_ports (k : ClaimKind) (p : Port) (s : State) : (grantClaim k p s).ports = s.ports := rfl
@[simp] theorem grantClaim_transport (k : ClaimKind) (p : Port) (s : State) : (grantClaim k p s).transport = s.transport := rfl
@[simp] theorem grantClaim_clock (k : ClaimKind) (p : Port) (s : State) : (grantClaim k p s).clock = s.clock := rfl
@[simp] theorem grantClaim_formatter (k : ClaimKind) (p : Port) (s : State) : (grantClaim k p s).formatter = s.formatter := rfl
@[simp] theorem grantClaim_preDecoder (k : ClaimKind) (p : Port) (s : State) : (grantClaim k p s).preDecoder = s.preDecoder := rfl
@[simp] theorem grantClaim_confDecoder (k : ClaimKind) (p : Port) (s : State) : (grantClaim k p s).confDecoder = s.confDecoder := rfl
@[simp] theorem grantClaim_preRepair (k : ClaimKind) (p : Port) (s : State) : (grantClaim k p s).preRepair = s.preRepair := rfl
@[simp] theorem grantClaim_confRepair (k : ClaimKind) (p : Port) (s : State) : (grantClaim k p s).confRepair = s.confRepair := rfl
@[simp] theorem grantClaim_settings (k : ClaimKind) (p : Port) (s : State) : (grantClaim k p s).settings = s.settings := rfl
@[simp] theorem grantClaim_blend (k : ClaimKind) (p : Port) (s : State) : (grantClaim k p s).blend = s.blend := rfl
@[simp] theorem grantClaim_monitor (k : ClaimKind) (p : Port) (s : State) : (grantClaim k p s).monitor = s.monitor := rfl
@[simp] theorem grantClaim_outputs (k : ClaimKind) (p : Port) (s : State) : (grantClaim k p s).outputs = s.outputs := rfl
@[simp] theorem grantClaim_tapeMap (k : ClaimKind) (p : Port) (s : State) : (grantClaim k p s).tapeMap = s.tapeMap := rfl
@[simp] theorem grantClaim_editList (k : ClaimKind) (p : Port) (s : State) : (grantClaim k p s).editList = s.editList := rfl
@[simp] theorem grantClaim_seq (k : ClaimKind) (p : Port) (s : State) : (grantClaim k p s).seq = s.seq := rfl
@[simp] theorem grantClaim_rights (k : ClaimKind) (p : Port) (s : State) : (grantClaim k p s).rights = s.rights := rfl
@[simp] theorem grantClaim_faults (k : ClaimKind) (p : Port) (s : State) : (grantClaim k p s).faults = s.faults := rfl
@[simp] theorem grantClaim_pending (k : ClaimKind) (p : Port) (s : State) : (grantClaim k p s).pending = s.pending := rfl

/-! ### setRecord -/

@[simp] theorem setRecord_ports (k : FaultKind) (r : FaultRecord) (s : State) : (setRecord k r s).ports = s.ports := rfl
@[simp] theorem setRecord_claims (k : FaultKind) (r : FaultRecord) (s : State) : (setRecord k r s).claims = s.claims := rfl
@[simp] theorem setRecord_transport (k : FaultKind) (r : FaultRecord) (s : State) : (setRecord k r s).transport = s.transport := rfl
@[simp] theorem setRecord_clock (k : FaultKind) (r : FaultRecord) (s : State) : (setRecord k r s).clock = s.clock := rfl
@[simp] theorem setRecord_formatter (k : FaultKind) (r : FaultRecord) (s : State) : (setRecord k r s).formatter = s.formatter := rfl
@[simp] theorem setRecord_preDecoder (k : FaultKind) (r : FaultRecord) (s : State) : (setRecord k r s).preDecoder = s.preDecoder := rfl
@[simp] theorem setRecord_confDecoder (k : FaultKind) (r : FaultRecord) (s : State) : (setRecord k r s).confDecoder = s.confDecoder := rfl
@[simp] theorem setRecord_preRepair (k : FaultKind) (r : FaultRecord) (s : State) : (setRecord k r s).preRepair = s.preRepair := rfl
@[simp] theorem setRecord_confRepair (k : FaultKind) (r : FaultRecord) (s : State) : (setRecord k r s).confRepair = s.confRepair := rfl
@[simp] theorem setRecord_settings (k : FaultKind) (r : FaultRecord) (s : State) : (setRecord k r s).settings = s.settings := rfl
@[simp] theorem setRecord_blend (k : FaultKind) (r : FaultRecord) (s : State) : (setRecord k r s).blend = s.blend := rfl
@[simp] theorem setRecord_monitor (k : FaultKind) (r : FaultRecord) (s : State) : (setRecord k r s).monitor = s.monitor := rfl
@[simp] theorem setRecord_outputs (k : FaultKind) (r : FaultRecord) (s : State) : (setRecord k r s).outputs = s.outputs := rfl
@[simp] theorem setRecord_tapeMap (k : FaultKind) (r : FaultRecord) (s : State) : (setRecord k r s).tapeMap = s.tapeMap := rfl
@[simp] theorem setRecord_editList (k : FaultKind) (r : FaultRecord) (s : State) : (setRecord k r s).editList = s.editList := rfl
@[simp] theorem setRecord_seq (k : FaultKind) (r : FaultRecord) (s : State) : (setRecord k r s).seq = s.seq := rfl
@[simp] theorem setRecord_rights (k : FaultKind) (r : FaultRecord) (s : State) : (setRecord k r s).rights = s.rights := rfl
@[simp] theorem setRecord_pending (k : FaultKind) (r : FaultRecord) (s : State) : (setRecord k r s).pending = s.pending := rfl

/-! ### setMode -/

@[simp] theorem setMode_ports (k : FaultKind) (m : FaultMode) (s : State) : (setMode k m s).ports = s.ports := rfl
@[simp] theorem setMode_claims (k : FaultKind) (m : FaultMode) (s : State) : (setMode k m s).claims = s.claims := rfl
@[simp] theorem setMode_transport (k : FaultKind) (m : FaultMode) (s : State) : (setMode k m s).transport = s.transport := rfl
@[simp] theorem setMode_clock (k : FaultKind) (m : FaultMode) (s : State) : (setMode k m s).clock = s.clock := rfl
@[simp] theorem setMode_formatter (k : FaultKind) (m : FaultMode) (s : State) : (setMode k m s).formatter = s.formatter := rfl
@[simp] theorem setMode_preDecoder (k : FaultKind) (m : FaultMode) (s : State) : (setMode k m s).preDecoder = s.preDecoder := rfl
@[simp] theorem setMode_confDecoder (k : FaultKind) (m : FaultMode) (s : State) : (setMode k m s).confDecoder = s.confDecoder := rfl
@[simp] theorem setMode_preRepair (k : FaultKind) (m : FaultMode) (s : State) : (setMode k m s).preRepair = s.preRepair := rfl
@[simp] theorem setMode_confRepair (k : FaultKind) (m : FaultMode) (s : State) : (setMode k m s).confRepair = s.confRepair := rfl
@[simp] theorem setMode_settings (k : FaultKind) (m : FaultMode) (s : State) : (setMode k m s).settings = s.settings := rfl
@[simp] theorem setMode_blend (k : FaultKind) (m : FaultMode) (s : State) : (setMode k m s).blend = s.blend := rfl
@[simp] theorem setMode_monitor (k : FaultKind) (m : FaultMode) (s : State) : (setMode k m s).monitor = s.monitor := rfl
@[simp] theorem setMode_outputs (k : FaultKind) (m : FaultMode) (s : State) : (setMode k m s).outputs = s.outputs := rfl
@[simp] theorem setMode_tapeMap (k : FaultKind) (m : FaultMode) (s : State) : (setMode k m s).tapeMap = s.tapeMap := rfl
@[simp] theorem setMode_editList (k : FaultKind) (m : FaultMode) (s : State) : (setMode k m s).editList = s.editList := rfl
@[simp] theorem setMode_seq (k : FaultKind) (m : FaultMode) (s : State) : (setMode k m s).seq = s.seq := rfl
@[simp] theorem setMode_rights (k : FaultKind) (m : FaultMode) (s : State) : (setMode k m s).rights = s.rights := rfl
@[simp] theorem setMode_pending (k : FaultKind) (m : FaultMode) (s : State) : (setMode k m s).pending = s.pending := rfl

/-! ### clogRecord -/

@[simp] theorem clogRecord_ports (s : State) : (clogRecord s).ports = s.ports := rfl
@[simp] theorem clogRecord_claims (s : State) : (clogRecord s).claims = s.claims := rfl
@[simp] theorem clogRecord_transport (s : State) : (clogRecord s).transport = s.transport := rfl
@[simp] theorem clogRecord_clock (s : State) : (clogRecord s).clock = s.clock := rfl
@[simp] theorem clogRecord_formatter (s : State) : (clogRecord s).formatter = s.formatter := rfl
@[simp] theorem clogRecord_preDecoder (s : State) : (clogRecord s).preDecoder = s.preDecoder := rfl
@[simp] theorem clogRecord_confDecoder (s : State) : (clogRecord s).confDecoder = s.confDecoder := rfl
@[simp] theorem clogRecord_preRepair (s : State) : (clogRecord s).preRepair = s.preRepair := rfl
@[simp] theorem clogRecord_confRepair (s : State) : (clogRecord s).confRepair = s.confRepair := rfl
@[simp] theorem clogRecord_settings (s : State) : (clogRecord s).settings = s.settings := rfl
@[simp] theorem clogRecord_blend (s : State) : (clogRecord s).blend = s.blend := rfl
@[simp] theorem clogRecord_monitor (s : State) : (clogRecord s).monitor = s.monitor := rfl
@[simp] theorem clogRecord_outputs (s : State) : (clogRecord s).outputs = s.outputs := rfl
@[simp] theorem clogRecord_tapeMap (s : State) : (clogRecord s).tapeMap = s.tapeMap := rfl
@[simp] theorem clogRecord_editList (s : State) : (clogRecord s).editList = s.editList := rfl
@[simp] theorem clogRecord_seq (s : State) : (clogRecord s).seq = s.seq := rfl
@[simp] theorem clogRecord_rights (s : State) : (clogRecord s).rights = s.rights := rfl
@[simp] theorem clogRecord_pending (s : State) : (clogRecord s).pending = s.pending := rfl

/-! ### setHead -/

@[simp] theorem setHead_ports (path : ReadPath) (t : Track) (c : ClogHead) (s : State) : (setHead path t c s).ports = s.ports := rfl
@[simp] theorem setHead_claims (path : ReadPath) (t : Track) (c : ClogHead) (s : State) : (setHead path t c s).claims = s.claims := rfl
@[simp] theorem setHead_transport (path : ReadPath) (t : Track) (c : ClogHead) (s : State) : (setHead path t c s).transport = s.transport := rfl
@[simp] theorem setHead_clock (path : ReadPath) (t : Track) (c : ClogHead) (s : State) : (setHead path t c s).clock = s.clock := rfl
@[simp] theorem setHead_formatter (path : ReadPath) (t : Track) (c : ClogHead) (s : State) : (setHead path t c s).formatter = s.formatter := rfl
@[simp] theorem setHead_preDecoder (path : ReadPath) (t : Track) (c : ClogHead) (s : State) : (setHead path t c s).preDecoder = s.preDecoder := rfl
@[simp] theorem setHead_confDecoder (path : ReadPath) (t : Track) (c : ClogHead) (s : State) : (setHead path t c s).confDecoder = s.confDecoder := rfl
@[simp] theorem setHead_preRepair (path : ReadPath) (t : Track) (c : ClogHead) (s : State) : (setHead path t c s).preRepair = s.preRepair := rfl
@[simp] theorem setHead_confRepair (path : ReadPath) (t : Track) (c : ClogHead) (s : State) : (setHead path t c s).confRepair = s.confRepair := rfl
@[simp] theorem setHead_settings (path : ReadPath) (t : Track) (c : ClogHead) (s : State) : (setHead path t c s).settings = s.settings := rfl
@[simp] theorem setHead_blend (path : ReadPath) (t : Track) (c : ClogHead) (s : State) : (setHead path t c s).blend = s.blend := rfl
@[simp] theorem setHead_monitor (path : ReadPath) (t : Track) (c : ClogHead) (s : State) : (setHead path t c s).monitor = s.monitor := rfl
@[simp] theorem setHead_outputs (path : ReadPath) (t : Track) (c : ClogHead) (s : State) : (setHead path t c s).outputs = s.outputs := rfl
@[simp] theorem setHead_tapeMap (path : ReadPath) (t : Track) (c : ClogHead) (s : State) : (setHead path t c s).tapeMap = s.tapeMap := rfl
@[simp] theorem setHead_editList (path : ReadPath) (t : Track) (c : ClogHead) (s : State) : (setHead path t c s).editList = s.editList := rfl
@[simp] theorem setHead_seq (path : ReadPath) (t : Track) (c : ClogHead) (s : State) : (setHead path t c s).seq = s.seq := rfl
@[simp] theorem setHead_rights (path : ReadPath) (t : Track) (c : ClogHead) (s : State) : (setHead path t c s).rights = s.rights := rfl
@[simp] theorem setHead_pending (path : ReadPath) (t : Track) (c : ClogHead) (s : State) : (setHead path t c s).pending = s.pending := rfl

/-! ### clearHead -/

@[simp] theorem clearHead_ports (path : ReadPath) (t : Track) (s : State) : (clearHead path t s).ports = s.ports := rfl
@[simp] theorem clearHead_claims (path : ReadPath) (t : Track) (s : State) : (clearHead path t s).claims = s.claims := rfl
@[simp] theorem clearHead_transport (path : ReadPath) (t : Track) (s : State) : (clearHead path t s).transport = s.transport := rfl
@[simp] theorem clearHead_clock (path : ReadPath) (t : Track) (s : State) : (clearHead path t s).clock = s.clock := rfl
@[simp] theorem clearHead_formatter (path : ReadPath) (t : Track) (s : State) : (clearHead path t s).formatter = s.formatter := rfl
@[simp] theorem clearHead_preDecoder (path : ReadPath) (t : Track) (s : State) : (clearHead path t s).preDecoder = s.preDecoder := rfl
@[simp] theorem clearHead_confDecoder (path : ReadPath) (t : Track) (s : State) : (clearHead path t s).confDecoder = s.confDecoder := rfl
@[simp] theorem clearHead_preRepair (path : ReadPath) (t : Track) (s : State) : (clearHead path t s).preRepair = s.preRepair := rfl
@[simp] theorem clearHead_confRepair (path : ReadPath) (t : Track) (s : State) : (clearHead path t s).confRepair = s.confRepair := rfl
@[simp] theorem clearHead_settings (path : ReadPath) (t : Track) (s : State) : (clearHead path t s).settings = s.settings := rfl
@[simp] theorem clearHead_blend (path : ReadPath) (t : Track) (s : State) : (clearHead path t s).blend = s.blend := rfl
@[simp] theorem clearHead_monitor (path : ReadPath) (t : Track) (s : State) : (clearHead path t s).monitor = s.monitor := rfl
@[simp] theorem clearHead_outputs (path : ReadPath) (t : Track) (s : State) : (clearHead path t s).outputs = s.outputs := rfl
@[simp] theorem clearHead_tapeMap (path : ReadPath) (t : Track) (s : State) : (clearHead path t s).tapeMap = s.tapeMap := rfl
@[simp] theorem clearHead_editList (path : ReadPath) (t : Track) (s : State) : (clearHead path t s).editList = s.editList := rfl
@[simp] theorem clearHead_seq (path : ReadPath) (t : Track) (s : State) : (clearHead path t s).seq = s.seq := rfl
@[simp] theorem clearHead_rights (path : ReadPath) (t : Track) (s : State) : (clearHead path t s).rights = s.rights := rfl
@[simp] theorem clearHead_pending (path : ReadPath) (t : Track) (s : State) : (clearHead path t s).pending = s.pending := rfl

/-! ### setVerify -/

@[simp] theorem setVerify_ports (v : VerifyRecord) (s : State) : (setVerify v s).ports = s.ports := rfl
@[simp] theorem setVerify_claims (v : VerifyRecord) (s : State) : (setVerify v s).claims = s.claims := rfl
@[simp] theorem setVerify_transport (v : VerifyRecord) (s : State) : (setVerify v s).transport = s.transport := rfl
@[simp] theorem setVerify_clock (v : VerifyRecord) (s : State) : (setVerify v s).clock = s.clock := rfl
@[simp] theorem setVerify_formatter (v : VerifyRecord) (s : State) : (setVerify v s).formatter = s.formatter := rfl
@[simp] theorem setVerify_preDecoder (v : VerifyRecord) (s : State) : (setVerify v s).preDecoder = s.preDecoder := rfl
@[simp] theorem setVerify_confDecoder (v : VerifyRecord) (s : State) : (setVerify v s).confDecoder = s.confDecoder := rfl
@[simp] theorem setVerify_preRepair (v : VerifyRecord) (s : State) : (setVerify v s).preRepair = s.preRepair := rfl
@[simp] theorem setVerify_confRepair (v : VerifyRecord) (s : State) : (setVerify v s).confRepair = s.confRepair := rfl
@[simp] theorem setVerify_settings (v : VerifyRecord) (s : State) : (setVerify v s).settings = s.settings := rfl
@[simp] theorem setVerify_blend (v : VerifyRecord) (s : State) : (setVerify v s).blend = s.blend := rfl
@[simp] theorem setVerify_monitor (v : VerifyRecord) (s : State) : (setVerify v s).monitor = s.monitor := rfl
@[simp] theorem setVerify_outputs (v : VerifyRecord) (s : State) : (setVerify v s).outputs = s.outputs := rfl
@[simp] theorem setVerify_tapeMap (v : VerifyRecord) (s : State) : (setVerify v s).tapeMap = s.tapeMap := rfl
@[simp] theorem setVerify_editList (v : VerifyRecord) (s : State) : (setVerify v s).editList = s.editList := rfl
@[simp] theorem setVerify_seq (v : VerifyRecord) (s : State) : (setVerify v s).seq = s.seq := rfl
@[simp] theorem setVerify_rights (v : VerifyRecord) (s : State) : (setVerify v s).rights = s.rights := rfl
@[simp] theorem setVerify_pending (v : VerifyRecord) (s : State) : (setVerify v s).pending = s.pending := rfl

/-! ### countSlip -/

@[simp] theorem countSlip_ports (s : State) : (countSlip s).ports = s.ports := rfl
@[simp] theorem countSlip_claims (s : State) : (countSlip s).claims = s.claims := rfl
@[simp] theorem countSlip_transport (s : State) : (countSlip s).transport = s.transport := rfl
@[simp] theorem countSlip_clock (s : State) : (countSlip s).clock = s.clock := rfl
@[simp] theorem countSlip_formatter (s : State) : (countSlip s).formatter = s.formatter := rfl
@[simp] theorem countSlip_preDecoder (s : State) : (countSlip s).preDecoder = s.preDecoder := rfl
@[simp] theorem countSlip_confDecoder (s : State) : (countSlip s).confDecoder = s.confDecoder := rfl
@[simp] theorem countSlip_preRepair (s : State) : (countSlip s).preRepair = s.preRepair := rfl
@[simp] theorem countSlip_confRepair (s : State) : (countSlip s).confRepair = s.confRepair := rfl
@[simp] theorem countSlip_settings (s : State) : (countSlip s).settings = s.settings := rfl
@[simp] theorem countSlip_blend (s : State) : (countSlip s).blend = s.blend := rfl
@[simp] theorem countSlip_monitor (s : State) : (countSlip s).monitor = s.monitor := rfl
@[simp] theorem countSlip_outputs (s : State) : (countSlip s).outputs = s.outputs := rfl
@[simp] theorem countSlip_tapeMap (s : State) : (countSlip s).tapeMap = s.tapeMap := rfl
@[simp] theorem countSlip_editList (s : State) : (countSlip s).editList = s.editList := rfl
@[simp] theorem countSlip_seq (s : State) : (countSlip s).seq = s.seq := rfl
@[simp] theorem countSlip_rights (s : State) : (countSlip s).rights = s.rights := rfl
@[simp] theorem countSlip_pending (s : State) : (countSlip s).pending = s.pending := rfl

/-! ### dropUnchecked -/

@[simp] theorem dropUnchecked_ports (s : State) : (dropUnchecked s).ports = s.ports := rfl
@[simp] theorem dropUnchecked_claims (s : State) : (dropUnchecked s).claims = s.claims := rfl
@[simp] theorem dropUnchecked_transport (s : State) : (dropUnchecked s).transport = s.transport := rfl
@[simp] theorem dropUnchecked_clock (s : State) : (dropUnchecked s).clock = s.clock := rfl
@[simp] theorem dropUnchecked_formatter (s : State) : (dropUnchecked s).formatter = s.formatter := rfl
@[simp] theorem dropUnchecked_preDecoder (s : State) : (dropUnchecked s).preDecoder = s.preDecoder := rfl
@[simp] theorem dropUnchecked_confDecoder (s : State) : (dropUnchecked s).confDecoder = s.confDecoder := rfl
@[simp] theorem dropUnchecked_preRepair (s : State) : (dropUnchecked s).preRepair = s.preRepair := rfl
@[simp] theorem dropUnchecked_confRepair (s : State) : (dropUnchecked s).confRepair = s.confRepair := rfl
@[simp] theorem dropUnchecked_settings (s : State) : (dropUnchecked s).settings = s.settings := rfl
@[simp] theorem dropUnchecked_blend (s : State) : (dropUnchecked s).blend = s.blend := rfl
@[simp] theorem dropUnchecked_monitor (s : State) : (dropUnchecked s).monitor = s.monitor := rfl
@[simp] theorem dropUnchecked_outputs (s : State) : (dropUnchecked s).outputs = s.outputs := rfl
@[simp] theorem dropUnchecked_tapeMap (s : State) : (dropUnchecked s).tapeMap = s.tapeMap := rfl
@[simp] theorem dropUnchecked_editList (s : State) : (dropUnchecked s).editList = s.editList := rfl
@[simp] theorem dropUnchecked_seq (s : State) : (dropUnchecked s).seq = s.seq := rfl
@[simp] theorem dropUnchecked_rights (s : State) : (dropUnchecked s).rights = s.rights := rfl
@[simp] theorem dropUnchecked_pending (s : State) : (dropUnchecked s).pending = s.pending := rfl

/-! ### emptyFifo -/

@[simp] theorem emptyFifo_ports (s : State) : (emptyFifo s).ports = s.ports := rfl
@[simp] theorem emptyFifo_claims (s : State) : (emptyFifo s).claims = s.claims := rfl
@[simp] theorem emptyFifo_transport (s : State) : (emptyFifo s).transport = s.transport := rfl
@[simp] theorem emptyFifo_clock (s : State) : (emptyFifo s).clock = s.clock := rfl
@[simp] theorem emptyFifo_preDecoder (s : State) : (emptyFifo s).preDecoder = s.preDecoder := rfl
@[simp] theorem emptyFifo_confDecoder (s : State) : (emptyFifo s).confDecoder = s.confDecoder := rfl
@[simp] theorem emptyFifo_preRepair (s : State) : (emptyFifo s).preRepair = s.preRepair := rfl
@[simp] theorem emptyFifo_confRepair (s : State) : (emptyFifo s).confRepair = s.confRepair := rfl
@[simp] theorem emptyFifo_settings (s : State) : (emptyFifo s).settings = s.settings := rfl
@[simp] theorem emptyFifo_blend (s : State) : (emptyFifo s).blend = s.blend := rfl
@[simp] theorem emptyFifo_monitor (s : State) : (emptyFifo s).monitor = s.monitor := rfl
@[simp] theorem emptyFifo_outputs (s : State) : (emptyFifo s).outputs = s.outputs := rfl
@[simp] theorem emptyFifo_tapeMap (s : State) : (emptyFifo s).tapeMap = s.tapeMap := rfl
@[simp] theorem emptyFifo_editList (s : State) : (emptyFifo s).editList = s.editList := rfl
@[simp] theorem emptyFifo_seq (s : State) : (emptyFifo s).seq = s.seq := rfl
@[simp] theorem emptyFifo_rights (s : State) : (emptyFifo s).rights = s.rights := rfl
@[simp] theorem emptyFifo_faults (s : State) : (emptyFifo s).faults = s.faults := rfl
@[simp] theorem emptyFifo_pending (s : State) : (emptyFifo s).pending = s.pending := rfl

/-! ### withSettings -/

@[simp] theorem withSettings_ports (r : Option Rate) (d : Option AudioSource) (a : Option CopyState) (s : State) : (withSettings r d a s).ports = s.ports := rfl
@[simp] theorem withSettings_claims (r : Option Rate) (d : Option AudioSource) (a : Option CopyState) (s : State) : (withSettings r d a s).claims = s.claims := rfl
@[simp] theorem withSettings_transport (r : Option Rate) (d : Option AudioSource) (a : Option CopyState) (s : State) : (withSettings r d a s).transport = s.transport := rfl
@[simp] theorem withSettings_clock (r : Option Rate) (d : Option AudioSource) (a : Option CopyState) (s : State) : (withSettings r d a s).clock = s.clock := rfl
@[simp] theorem withSettings_preDecoder (r : Option Rate) (d : Option AudioSource) (a : Option CopyState) (s : State) : (withSettings r d a s).preDecoder = s.preDecoder := rfl
@[simp] theorem withSettings_confDecoder (r : Option Rate) (d : Option AudioSource) (a : Option CopyState) (s : State) : (withSettings r d a s).confDecoder = s.confDecoder := rfl
@[simp] theorem withSettings_preRepair (r : Option Rate) (d : Option AudioSource) (a : Option CopyState) (s : State) : (withSettings r d a s).preRepair = s.preRepair := rfl
@[simp] theorem withSettings_confRepair (r : Option Rate) (d : Option AudioSource) (a : Option CopyState) (s : State) : (withSettings r d a s).confRepair = s.confRepair := rfl
@[simp] theorem withSettings_settings (r : Option Rate) (d : Option AudioSource) (a : Option CopyState) (s : State) : (withSettings r d a s).settings = s.settings := rfl
@[simp] theorem withSettings_blend (r : Option Rate) (d : Option AudioSource) (a : Option CopyState) (s : State) : (withSettings r d a s).blend = s.blend := rfl
@[simp] theorem withSettings_monitor (r : Option Rate) (d : Option AudioSource) (a : Option CopyState) (s : State) : (withSettings r d a s).monitor = s.monitor := rfl
@[simp] theorem withSettings_outputs (r : Option Rate) (d : Option AudioSource) (a : Option CopyState) (s : State) : (withSettings r d a s).outputs = s.outputs := rfl
@[simp] theorem withSettings_tapeMap (r : Option Rate) (d : Option AudioSource) (a : Option CopyState) (s : State) : (withSettings r d a s).tapeMap = s.tapeMap := rfl
@[simp] theorem withSettings_editList (r : Option Rate) (d : Option AudioSource) (a : Option CopyState) (s : State) : (withSettings r d a s).editList = s.editList := rfl
@[simp] theorem withSettings_seq (r : Option Rate) (d : Option AudioSource) (a : Option CopyState) (s : State) : (withSettings r d a s).seq = s.seq := rfl
@[simp] theorem withSettings_rights (r : Option Rate) (d : Option AudioSource) (a : Option CopyState) (s : State) : (withSettings r d a s).rights = s.rights := rfl
@[simp] theorem withSettings_faults (r : Option Rate) (d : Option AudioSource) (a : Option CopyState) (s : State) : (withSettings r d a s).faults = s.faults := rfl
@[simp] theorem withSettings_pending (r : Option Rate) (d : Option AudioSource) (a : Option CopyState) (s : State) : (withSettings r d a s).pending = s.pending := rfl

/-! ### refreshWord -/

@[simp] theorem refreshWord_ports (s : State) : (refreshWord s).ports = s.ports := rfl
@[simp] theorem refreshWord_claims (s : State) : (refreshWord s).claims = s.claims := rfl
@[simp] theorem refreshWord_transport (s : State) : (refreshWord s).transport = s.transport := rfl
@[simp] theorem refreshWord_clock (s : State) : (refreshWord s).clock = s.clock := rfl
@[simp] theorem refreshWord_formatter (s : State) : (refreshWord s).formatter = s.formatter := rfl
@[simp] theorem refreshWord_preDecoder (s : State) : (refreshWord s).preDecoder = s.preDecoder := rfl
@[simp] theorem refreshWord_confDecoder (s : State) : (refreshWord s).confDecoder = s.confDecoder := rfl
@[simp] theorem refreshWord_preRepair (s : State) : (refreshWord s).preRepair = s.preRepair := rfl
@[simp] theorem refreshWord_confRepair (s : State) : (refreshWord s).confRepair = s.confRepair := rfl
@[simp] theorem refreshWord_settings (s : State) : (refreshWord s).settings = s.settings := rfl
@[simp] theorem refreshWord_blend (s : State) : (refreshWord s).blend = s.blend := rfl
@[simp] theorem refreshWord_monitor (s : State) : (refreshWord s).monitor = s.monitor := rfl
@[simp] theorem refreshWord_tapeMap (s : State) : (refreshWord s).tapeMap = s.tapeMap := rfl
@[simp] theorem refreshWord_editList (s : State) : (refreshWord s).editList = s.editList := rfl
@[simp] theorem refreshWord_seq (s : State) : (refreshWord s).seq = s.seq := rfl
@[simp] theorem refreshWord_faults (s : State) : (refreshWord s).faults = s.faults := rfl
@[simp] theorem refreshWord_pending (s : State) : (refreshWord s).pending = s.pending := rfl

/-! ### countPeriodRights -/

@[simp] theorem countPeriodRights_ports (s : State) : (countPeriodRights s).ports = s.ports := rfl
@[simp] theorem countPeriodRights_claims (s : State) : (countPeriodRights s).claims = s.claims := rfl
@[simp] theorem countPeriodRights_transport (s : State) : (countPeriodRights s).transport = s.transport := rfl
@[simp] theorem countPeriodRights_clock (s : State) : (countPeriodRights s).clock = s.clock := rfl
@[simp] theorem countPeriodRights_formatter (s : State) : (countPeriodRights s).formatter = s.formatter := rfl
@[simp] theorem countPeriodRights_preDecoder (s : State) : (countPeriodRights s).preDecoder = s.preDecoder := rfl
@[simp] theorem countPeriodRights_confDecoder (s : State) : (countPeriodRights s).confDecoder = s.confDecoder := rfl
@[simp] theorem countPeriodRights_preRepair (s : State) : (countPeriodRights s).preRepair = s.preRepair := rfl
@[simp] theorem countPeriodRights_confRepair (s : State) : (countPeriodRights s).confRepair = s.confRepair := rfl
@[simp] theorem countPeriodRights_settings (s : State) : (countPeriodRights s).settings = s.settings := rfl
@[simp] theorem countPeriodRights_blend (s : State) : (countPeriodRights s).blend = s.blend := rfl
@[simp] theorem countPeriodRights_monitor (s : State) : (countPeriodRights s).monitor = s.monitor := rfl
@[simp] theorem countPeriodRights_outputs (s : State) : (countPeriodRights s).outputs = s.outputs := rfl
@[simp] theorem countPeriodRights_tapeMap (s : State) : (countPeriodRights s).tapeMap = s.tapeMap := rfl
@[simp] theorem countPeriodRights_editList (s : State) : (countPeriodRights s).editList = s.editList := rfl
@[simp] theorem countPeriodRights_seq (s : State) : (countPeriodRights s).seq = s.seq := rfl
@[simp] theorem countPeriodRights_faults (s : State) : (countPeriodRights s).faults = s.faults := rfl
@[simp] theorem countPeriodRights_pending (s : State) : (countPeriodRights s).pending = s.pending := rfl

/-! ### tickRights -/

@[simp] theorem tickRights_ports (s : State) : (tickRights s).ports = s.ports := rfl
@[simp] theorem tickRights_claims (s : State) : (tickRights s).claims = s.claims := rfl
@[simp] theorem tickRights_transport (s : State) : (tickRights s).transport = s.transport := rfl
@[simp] theorem tickRights_clock (s : State) : (tickRights s).clock = s.clock := rfl
@[simp] theorem tickRights_formatter (s : State) : (tickRights s).formatter = s.formatter := rfl
@[simp] theorem tickRights_preDecoder (s : State) : (tickRights s).preDecoder = s.preDecoder := rfl
@[simp] theorem tickRights_confDecoder (s : State) : (tickRights s).confDecoder = s.confDecoder := rfl
@[simp] theorem tickRights_preRepair (s : State) : (tickRights s).preRepair = s.preRepair := rfl
@[simp] theorem tickRights_confRepair (s : State) : (tickRights s).confRepair = s.confRepair := rfl
@[simp] theorem tickRights_settings (s : State) : (tickRights s).settings = s.settings := rfl
@[simp] theorem tickRights_blend (s : State) : (tickRights s).blend = s.blend := rfl
@[simp] theorem tickRights_monitor (s : State) : (tickRights s).monitor = s.monitor := rfl
@[simp] theorem tickRights_outputs (s : State) : (tickRights s).outputs = s.outputs := rfl
@[simp] theorem tickRights_tapeMap (s : State) : (tickRights s).tapeMap = s.tapeMap := rfl
@[simp] theorem tickRights_editList (s : State) : (tickRights s).editList = s.editList := rfl
@[simp] theorem tickRights_seq (s : State) : (tickRights s).seq = s.seq := rfl
@[simp] theorem tickRights_faults (s : State) : (tickRights s).faults = s.faults := rfl
@[simp] theorem tickRights_pending (s : State) : (tickRights s).pending = s.pending := rfl

/-! ### tickClock -/

@[simp] theorem tickClock_ports (s : State) : (tickClock s).ports = s.ports := rfl
@[simp] theorem tickClock_claims (s : State) : (tickClock s).claims = s.claims := rfl
@[simp] theorem tickClock_transport (s : State) : (tickClock s).transport = s.transport := rfl
@[simp] theorem tickClock_formatter (s : State) : (tickClock s).formatter = s.formatter := rfl
@[simp] theorem tickClock_preDecoder (s : State) : (tickClock s).preDecoder = s.preDecoder := rfl
@[simp] theorem tickClock_confDecoder (s : State) : (tickClock s).confDecoder = s.confDecoder := rfl
@[simp] theorem tickClock_preRepair (s : State) : (tickClock s).preRepair = s.preRepair := rfl
@[simp] theorem tickClock_confRepair (s : State) : (tickClock s).confRepair = s.confRepair := rfl
@[simp] theorem tickClock_settings (s : State) : (tickClock s).settings = s.settings := rfl
@[simp] theorem tickClock_blend (s : State) : (tickClock s).blend = s.blend := rfl
@[simp] theorem tickClock_monitor (s : State) : (tickClock s).monitor = s.monitor := rfl
@[simp] theorem tickClock_outputs (s : State) : (tickClock s).outputs = s.outputs := rfl
@[simp] theorem tickClock_tapeMap (s : State) : (tickClock s).tapeMap = s.tapeMap := rfl
@[simp] theorem tickClock_editList (s : State) : (tickClock s).editList = s.editList := rfl
@[simp] theorem tickClock_seq (s : State) : (tickClock s).seq = s.seq := rfl
@[simp] theorem tickClock_rights (s : State) : (tickClock s).rights = s.rights := rfl
@[simp] theorem tickClock_faults (s : State) : (tickClock s).faults = s.faults := rfl
@[simp] theorem tickClock_pending (s : State) : (tickClock s).pending = s.pending := rfl

/-! ### fadeInRequest -/

@[simp] theorem fadeInRequest_ports (e : EditEntry) (o : Nat) (s : State) : (fadeInRequest e o s).ports = s.ports := rfl
@[simp] theorem fadeInRequest_claims (e : EditEntry) (o : Nat) (s : State) : (fadeInRequest e o s).claims = s.claims := rfl
@[simp] theorem fadeInRequest_transport (e : EditEntry) (o : Nat) (s : State) : (fadeInRequest e o s).transport = s.transport := rfl
@[simp] theorem fadeInRequest_clock (e : EditEntry) (o : Nat) (s : State) : (fadeInRequest e o s).clock = s.clock := rfl
@[simp] theorem fadeInRequest_formatter (e : EditEntry) (o : Nat) (s : State) : (fadeInRequest e o s).formatter = s.formatter := rfl
@[simp] theorem fadeInRequest_preDecoder (e : EditEntry) (o : Nat) (s : State) : (fadeInRequest e o s).preDecoder = s.preDecoder := rfl
@[simp] theorem fadeInRequest_confDecoder (e : EditEntry) (o : Nat) (s : State) : (fadeInRequest e o s).confDecoder = s.confDecoder := rfl
@[simp] theorem fadeInRequest_preRepair (e : EditEntry) (o : Nat) (s : State) : (fadeInRequest e o s).preRepair = s.preRepair := rfl
@[simp] theorem fadeInRequest_confRepair (e : EditEntry) (o : Nat) (s : State) : (fadeInRequest e o s).confRepair = s.confRepair := rfl
@[simp] theorem fadeInRequest_settings (e : EditEntry) (o : Nat) (s : State) : (fadeInRequest e o s).settings = s.settings := rfl
@[simp] theorem fadeInRequest_monitor (e : EditEntry) (o : Nat) (s : State) : (fadeInRequest e o s).monitor = s.monitor := rfl
@[simp] theorem fadeInRequest_outputs (e : EditEntry) (o : Nat) (s : State) : (fadeInRequest e o s).outputs = s.outputs := rfl
@[simp] theorem fadeInRequest_tapeMap (e : EditEntry) (o : Nat) (s : State) : (fadeInRequest e o s).tapeMap = s.tapeMap := rfl
@[simp] theorem fadeInRequest_editList (e : EditEntry) (o : Nat) (s : State) : (fadeInRequest e o s).editList = s.editList := rfl
@[simp] theorem fadeInRequest_seq (e : EditEntry) (o : Nat) (s : State) : (fadeInRequest e o s).seq = s.seq := rfl
@[simp] theorem fadeInRequest_rights (e : EditEntry) (o : Nat) (s : State) : (fadeInRequest e o s).rights = s.rights := rfl
@[simp] theorem fadeInRequest_faults (e : EditEntry) (o : Nat) (s : State) : (fadeInRequest e o s).faults = s.faults := rfl
@[simp] theorem fadeInRequest_pending (e : EditEntry) (o : Nat) (s : State) : (fadeInRequest e o s).pending = s.pending := rfl

/-! ### fadeOutRequest -/

@[simp] theorem fadeOutRequest_ports (e : EditEntry) (o : Nat) (s : State) : (fadeOutRequest e o s).ports = s.ports := rfl
@[simp] theorem fadeOutRequest_claims (e : EditEntry) (o : Nat) (s : State) : (fadeOutRequest e o s).claims = s.claims := rfl
@[simp] theorem fadeOutRequest_transport (e : EditEntry) (o : Nat) (s : State) : (fadeOutRequest e o s).transport = s.transport := rfl
@[simp] theorem fadeOutRequest_clock (e : EditEntry) (o : Nat) (s : State) : (fadeOutRequest e o s).clock = s.clock := rfl
@[simp] theorem fadeOutRequest_formatter (e : EditEntry) (o : Nat) (s : State) : (fadeOutRequest e o s).formatter = s.formatter := rfl
@[simp] theorem fadeOutRequest_preDecoder (e : EditEntry) (o : Nat) (s : State) : (fadeOutRequest e o s).preDecoder = s.preDecoder := rfl
@[simp] theorem fadeOutRequest_confDecoder (e : EditEntry) (o : Nat) (s : State) : (fadeOutRequest e o s).confDecoder = s.confDecoder := rfl
@[simp] theorem fadeOutRequest_preRepair (e : EditEntry) (o : Nat) (s : State) : (fadeOutRequest e o s).preRepair = s.preRepair := rfl
@[simp] theorem fadeOutRequest_confRepair (e : EditEntry) (o : Nat) (s : State) : (fadeOutRequest e o s).confRepair = s.confRepair := rfl
@[simp] theorem fadeOutRequest_settings (e : EditEntry) (o : Nat) (s : State) : (fadeOutRequest e o s).settings = s.settings := rfl
@[simp] theorem fadeOutRequest_monitor (e : EditEntry) (o : Nat) (s : State) : (fadeOutRequest e o s).monitor = s.monitor := rfl
@[simp] theorem fadeOutRequest_outputs (e : EditEntry) (o : Nat) (s : State) : (fadeOutRequest e o s).outputs = s.outputs := rfl
@[simp] theorem fadeOutRequest_tapeMap (e : EditEntry) (o : Nat) (s : State) : (fadeOutRequest e o s).tapeMap = s.tapeMap := rfl
@[simp] theorem fadeOutRequest_editList (e : EditEntry) (o : Nat) (s : State) : (fadeOutRequest e o s).editList = s.editList := rfl
@[simp] theorem fadeOutRequest_seq (e : EditEntry) (o : Nat) (s : State) : (fadeOutRequest e o s).seq = s.seq := rfl
@[simp] theorem fadeOutRequest_rights (e : EditEntry) (o : Nat) (s : State) : (fadeOutRequest e o s).rights = s.rights := rfl
@[simp] theorem fadeOutRequest_faults (e : EditEntry) (o : Nat) (s : State) : (fadeOutRequest e o s).faults = s.faults := rfl
@[simp] theorem fadeOutRequest_pending (e : EditEntry) (o : Nat) (s : State) : (fadeOutRequest e o s).pending = s.pending := rfl

/-! ### fadeOutNowRequest -/

@[simp] theorem fadeOutNowRequest_ports (e : EditEntry) (s : State) : (fadeOutNowRequest e s).ports = s.ports := rfl
@[simp] theorem fadeOutNowRequest_claims (e : EditEntry) (s : State) : (fadeOutNowRequest e s).claims = s.claims := rfl
@[simp] theorem fadeOutNowRequest_transport (e : EditEntry) (s : State) : (fadeOutNowRequest e s).transport = s.transport := rfl
@[simp] theorem fadeOutNowRequest_clock (e : EditEntry) (s : State) : (fadeOutNowRequest e s).clock = s.clock := rfl
@[simp] theorem fadeOutNowRequest_formatter (e : EditEntry) (s : State) : (fadeOutNowRequest e s).formatter = s.formatter := rfl
@[simp] theorem fadeOutNowRequest_preDecoder (e : EditEntry) (s : State) : (fadeOutNowRequest e s).preDecoder = s.preDecoder := rfl
@[simp] theorem fadeOutNowRequest_confDecoder (e : EditEntry) (s : State) : (fadeOutNowRequest e s).confDecoder = s.confDecoder := rfl
@[simp] theorem fadeOutNowRequest_preRepair (e : EditEntry) (s : State) : (fadeOutNowRequest e s).preRepair = s.preRepair := rfl
@[simp] theorem fadeOutNowRequest_confRepair (e : EditEntry) (s : State) : (fadeOutNowRequest e s).confRepair = s.confRepair := rfl
@[simp] theorem fadeOutNowRequest_settings (e : EditEntry) (s : State) : (fadeOutNowRequest e s).settings = s.settings := rfl
@[simp] theorem fadeOutNowRequest_monitor (e : EditEntry) (s : State) : (fadeOutNowRequest e s).monitor = s.monitor := rfl
@[simp] theorem fadeOutNowRequest_outputs (e : EditEntry) (s : State) : (fadeOutNowRequest e s).outputs = s.outputs := rfl
@[simp] theorem fadeOutNowRequest_tapeMap (e : EditEntry) (s : State) : (fadeOutNowRequest e s).tapeMap = s.tapeMap := rfl
@[simp] theorem fadeOutNowRequest_editList (e : EditEntry) (s : State) : (fadeOutNowRequest e s).editList = s.editList := rfl
@[simp] theorem fadeOutNowRequest_seq (e : EditEntry) (s : State) : (fadeOutNowRequest e s).seq = s.seq := rfl
@[simp] theorem fadeOutNowRequest_rights (e : EditEntry) (s : State) : (fadeOutNowRequest e s).rights = s.rights := rfl
@[simp] theorem fadeOutNowRequest_faults (e : EditEntry) (s : State) : (fadeOutNowRequest e s).faults = s.faults := rfl
@[simp] theorem fadeOutNowRequest_pending (e : EditEntry) (s : State) : (fadeOutNowRequest e s).pending = s.pending := rfl

/-! ### cutRequest -/

@[simp] theorem cutRequest_ports (s : State) : (cutRequest s).ports = s.ports := rfl
@[simp] theorem cutRequest_claims (s : State) : (cutRequest s).claims = s.claims := rfl
@[simp] theorem cutRequest_transport (s : State) : (cutRequest s).transport = s.transport := rfl
@[simp] theorem cutRequest_clock (s : State) : (cutRequest s).clock = s.clock := rfl
@[simp] theorem cutRequest_formatter (s : State) : (cutRequest s).formatter = s.formatter := rfl
@[simp] theorem cutRequest_preDecoder (s : State) : (cutRequest s).preDecoder = s.preDecoder := rfl
@[simp] theorem cutRequest_confDecoder (s : State) : (cutRequest s).confDecoder = s.confDecoder := rfl
@[simp] theorem cutRequest_preRepair (s : State) : (cutRequest s).preRepair = s.preRepair := rfl
@[simp] theorem cutRequest_confRepair (s : State) : (cutRequest s).confRepair = s.confRepair := rfl
@[simp] theorem cutRequest_settings (s : State) : (cutRequest s).settings = s.settings := rfl
@[simp] theorem cutRequest_monitor (s : State) : (cutRequest s).monitor = s.monitor := rfl
@[simp] theorem cutRequest_outputs (s : State) : (cutRequest s).outputs = s.outputs := rfl
@[simp] theorem cutRequest_tapeMap (s : State) : (cutRequest s).tapeMap = s.tapeMap := rfl
@[simp] theorem cutRequest_editList (s : State) : (cutRequest s).editList = s.editList := rfl
@[simp] theorem cutRequest_seq (s : State) : (cutRequest s).seq = s.seq := rfl
@[simp] theorem cutRequest_rights (s : State) : (cutRequest s).rights = s.rights := rfl
@[simp] theorem cutRequest_faults (s : State) : (cutRequest s).faults = s.faults := rfl
@[simp] theorem cutRequest_pending (s : State) : (cutRequest s).pending = s.pending := rfl

/-! ### releaseBlend -/

@[simp] theorem releaseBlend_ports (s : State) : (releaseBlend s).ports = s.ports := rfl
@[simp] theorem releaseBlend_claims (s : State) : (releaseBlend s).claims = s.claims := rfl
@[simp] theorem releaseBlend_transport (s : State) : (releaseBlend s).transport = s.transport := rfl
@[simp] theorem releaseBlend_clock (s : State) : (releaseBlend s).clock = s.clock := rfl
@[simp] theorem releaseBlend_formatter (s : State) : (releaseBlend s).formatter = s.formatter := rfl
@[simp] theorem releaseBlend_preDecoder (s : State) : (releaseBlend s).preDecoder = s.preDecoder := rfl
@[simp] theorem releaseBlend_confDecoder (s : State) : (releaseBlend s).confDecoder = s.confDecoder := rfl
@[simp] theorem releaseBlend_preRepair (s : State) : (releaseBlend s).preRepair = s.preRepair := rfl
@[simp] theorem releaseBlend_confRepair (s : State) : (releaseBlend s).confRepair = s.confRepair := rfl
@[simp] theorem releaseBlend_settings (s : State) : (releaseBlend s).settings = s.settings := rfl
@[simp] theorem releaseBlend_monitor (s : State) : (releaseBlend s).monitor = s.monitor := rfl
@[simp] theorem releaseBlend_outputs (s : State) : (releaseBlend s).outputs = s.outputs := rfl
@[simp] theorem releaseBlend_tapeMap (s : State) : (releaseBlend s).tapeMap = s.tapeMap := rfl
@[simp] theorem releaseBlend_editList (s : State) : (releaseBlend s).editList = s.editList := rfl
@[simp] theorem releaseBlend_seq (s : State) : (releaseBlend s).seq = s.seq := rfl
@[simp] theorem releaseBlend_rights (s : State) : (releaseBlend s).rights = s.rights := rfl
@[simp] theorem releaseBlend_faults (s : State) : (releaseBlend s).faults = s.faults := rfl
@[simp] theorem releaseBlend_pending (s : State) : (releaseBlend s).pending = s.pending := rfl

/-! ### tickBlend -/

@[simp] theorem tickBlend_ports (s : State) : (tickBlend s).ports = s.ports := rfl
@[simp] theorem tickBlend_claims (s : State) : (tickBlend s).claims = s.claims := rfl
@[simp] theorem tickBlend_transport (s : State) : (tickBlend s).transport = s.transport := rfl
@[simp] theorem tickBlend_clock (s : State) : (tickBlend s).clock = s.clock := rfl
@[simp] theorem tickBlend_formatter (s : State) : (tickBlend s).formatter = s.formatter := rfl
@[simp] theorem tickBlend_preDecoder (s : State) : (tickBlend s).preDecoder = s.preDecoder := rfl
@[simp] theorem tickBlend_confDecoder (s : State) : (tickBlend s).confDecoder = s.confDecoder := rfl
@[simp] theorem tickBlend_preRepair (s : State) : (tickBlend s).preRepair = s.preRepair := rfl
@[simp] theorem tickBlend_confRepair (s : State) : (tickBlend s).confRepair = s.confRepair := rfl
@[simp] theorem tickBlend_settings (s : State) : (tickBlend s).settings = s.settings := rfl
@[simp] theorem tickBlend_monitor (s : State) : (tickBlend s).monitor = s.monitor := rfl
@[simp] theorem tickBlend_outputs (s : State) : (tickBlend s).outputs = s.outputs := rfl
@[simp] theorem tickBlend_tapeMap (s : State) : (tickBlend s).tapeMap = s.tapeMap := rfl
@[simp] theorem tickBlend_editList (s : State) : (tickBlend s).editList = s.editList := rfl
@[simp] theorem tickBlend_seq (s : State) : (tickBlend s).seq = s.seq := rfl
@[simp] theorem tickBlend_rights (s : State) : (tickBlend s).rights = s.rights := rfl
@[simp] theorem tickBlend_faults (s : State) : (tickBlend s).faults = s.faults := rfl
@[simp] theorem tickBlend_pending (s : State) : (tickBlend s).pending = s.pending := rfl

/-! ### mapBlend -/

@[simp] theorem mapBlend_ports (ch : Channel) (f : BlendChannel → BlendChannel) (s : State) : (mapBlend ch f s).ports = s.ports := rfl
@[simp] theorem mapBlend_claims (ch : Channel) (f : BlendChannel → BlendChannel) (s : State) : (mapBlend ch f s).claims = s.claims := rfl
@[simp] theorem mapBlend_transport (ch : Channel) (f : BlendChannel → BlendChannel) (s : State) : (mapBlend ch f s).transport = s.transport := rfl
@[simp] theorem mapBlend_clock (ch : Channel) (f : BlendChannel → BlendChannel) (s : State) : (mapBlend ch f s).clock = s.clock := rfl
@[simp] theorem mapBlend_formatter (ch : Channel) (f : BlendChannel → BlendChannel) (s : State) : (mapBlend ch f s).formatter = s.formatter := rfl
@[simp] theorem mapBlend_preDecoder (ch : Channel) (f : BlendChannel → BlendChannel) (s : State) : (mapBlend ch f s).preDecoder = s.preDecoder := rfl
@[simp] theorem mapBlend_confDecoder (ch : Channel) (f : BlendChannel → BlendChannel) (s : State) : (mapBlend ch f s).confDecoder = s.confDecoder := rfl
@[simp] theorem mapBlend_preRepair (ch : Channel) (f : BlendChannel → BlendChannel) (s : State) : (mapBlend ch f s).preRepair = s.preRepair := rfl
@[simp] theorem mapBlend_confRepair (ch : Channel) (f : BlendChannel → BlendChannel) (s : State) : (mapBlend ch f s).confRepair = s.confRepair := rfl
@[simp] theorem mapBlend_settings (ch : Channel) (f : BlendChannel → BlendChannel) (s : State) : (mapBlend ch f s).settings = s.settings := rfl
@[simp] theorem mapBlend_monitor (ch : Channel) (f : BlendChannel → BlendChannel) (s : State) : (mapBlend ch f s).monitor = s.monitor := rfl
@[simp] theorem mapBlend_outputs (ch : Channel) (f : BlendChannel → BlendChannel) (s : State) : (mapBlend ch f s).outputs = s.outputs := rfl
@[simp] theorem mapBlend_tapeMap (ch : Channel) (f : BlendChannel → BlendChannel) (s : State) : (mapBlend ch f s).tapeMap = s.tapeMap := rfl
@[simp] theorem mapBlend_editList (ch : Channel) (f : BlendChannel → BlendChannel) (s : State) : (mapBlend ch f s).editList = s.editList := rfl
@[simp] theorem mapBlend_seq (ch : Channel) (f : BlendChannel → BlendChannel) (s : State) : (mapBlend ch f s).seq = s.seq := rfl
@[simp] theorem mapBlend_rights (ch : Channel) (f : BlendChannel → BlendChannel) (s : State) : (mapBlend ch f s).rights = s.rights := rfl
@[simp] theorem mapBlend_faults (ch : Channel) (f : BlendChannel → BlendChannel) (s : State) : (mapBlend ch f s).faults = s.faults := rfl
@[simp] theorem mapBlend_pending (ch : Channel) (f : BlendChannel → BlendChannel) (s : State) : (mapBlend ch f s).pending = s.pending := rfl

/-! ### silenceRequest -/

@[simp] theorem silenceRequest_ports (s : State) : (silenceRequest s).ports = s.ports := rfl
@[simp] theorem silenceRequest_claims (s : State) : (silenceRequest s).claims = s.claims := rfl
@[simp] theorem silenceRequest_transport (s : State) : (silenceRequest s).transport = s.transport := rfl
@[simp] theorem silenceRequest_clock (s : State) : (silenceRequest s).clock = s.clock := rfl
@[simp] theorem silenceRequest_preDecoder (s : State) : (silenceRequest s).preDecoder = s.preDecoder := rfl
@[simp] theorem silenceRequest_confDecoder (s : State) : (silenceRequest s).confDecoder = s.confDecoder := rfl
@[simp] theorem silenceRequest_preRepair (s : State) : (silenceRequest s).preRepair = s.preRepair := rfl
@[simp] theorem silenceRequest_confRepair (s : State) : (silenceRequest s).confRepair = s.confRepair := rfl
@[simp] theorem silenceRequest_settings (s : State) : (silenceRequest s).settings = s.settings := rfl
@[simp] theorem silenceRequest_monitor (s : State) : (silenceRequest s).monitor = s.monitor := rfl
@[simp] theorem silenceRequest_outputs (s : State) : (silenceRequest s).outputs = s.outputs := rfl
@[simp] theorem silenceRequest_tapeMap (s : State) : (silenceRequest s).tapeMap = s.tapeMap := rfl
@[simp] theorem silenceRequest_editList (s : State) : (silenceRequest s).editList = s.editList := rfl
@[simp] theorem silenceRequest_seq (s : State) : (silenceRequest s).seq = s.seq := rfl
@[simp] theorem silenceRequest_rights (s : State) : (silenceRequest s).rights = s.rights := rfl
@[simp] theorem silenceRequest_faults (s : State) : (silenceRequest s).faults = s.faults := rfl
@[simp] theorem silenceRequest_pending (s : State) : (silenceRequest s).pending = s.pending := rfl

/-! ### setSeqState -/

@[simp] theorem setSeqState_ports (st : SeqState) (s : State) : (setSeqState st s).ports = s.ports := rfl
@[simp] theorem setSeqState_claims (st : SeqState) (s : State) : (setSeqState st s).claims = s.claims := rfl
@[simp] theorem setSeqState_transport (st : SeqState) (s : State) : (setSeqState st s).transport = s.transport := rfl
@[simp] theorem setSeqState_clock (st : SeqState) (s : State) : (setSeqState st s).clock = s.clock := rfl
@[simp] theorem setSeqState_formatter (st : SeqState) (s : State) : (setSeqState st s).formatter = s.formatter := rfl
@[simp] theorem setSeqState_preDecoder (st : SeqState) (s : State) : (setSeqState st s).preDecoder = s.preDecoder := rfl
@[simp] theorem setSeqState_confDecoder (st : SeqState) (s : State) : (setSeqState st s).confDecoder = s.confDecoder := rfl
@[simp] theorem setSeqState_preRepair (st : SeqState) (s : State) : (setSeqState st s).preRepair = s.preRepair := rfl
@[simp] theorem setSeqState_confRepair (st : SeqState) (s : State) : (setSeqState st s).confRepair = s.confRepair := rfl
@[simp] theorem setSeqState_settings (st : SeqState) (s : State) : (setSeqState st s).settings = s.settings := rfl
@[simp] theorem setSeqState_blend (st : SeqState) (s : State) : (setSeqState st s).blend = s.blend := rfl
@[simp] theorem setSeqState_monitor (st : SeqState) (s : State) : (setSeqState st s).monitor = s.monitor := rfl
@[simp] theorem setSeqState_outputs (st : SeqState) (s : State) : (setSeqState st s).outputs = s.outputs := rfl
@[simp] theorem setSeqState_tapeMap (st : SeqState) (s : State) : (setSeqState st s).tapeMap = s.tapeMap := rfl
@[simp] theorem setSeqState_editList (st : SeqState) (s : State) : (setSeqState st s).editList = s.editList := rfl
@[simp] theorem setSeqState_rights (st : SeqState) (s : State) : (setSeqState st s).rights = s.rights := rfl
@[simp] theorem setSeqState_faults (st : SeqState) (s : State) : (setSeqState st s).faults = s.faults := rfl
@[simp] theorem setSeqState_pending (st : SeqState) (s : State) : (setSeqState st s).pending = s.pending := rfl

/-! ### clearPending -/

@[simp] theorem clearPending_ports (s : State) : (clearPending s).ports = s.ports := rfl
@[simp] theorem clearPending_claims (s : State) : (clearPending s).claims = s.claims := rfl
@[simp] theorem clearPending_transport (s : State) : (clearPending s).transport = s.transport := rfl
@[simp] theorem clearPending_clock (s : State) : (clearPending s).clock = s.clock := rfl
@[simp] theorem clearPending_formatter (s : State) : (clearPending s).formatter = s.formatter := rfl
@[simp] theorem clearPending_preDecoder (s : State) : (clearPending s).preDecoder = s.preDecoder := rfl
@[simp] theorem clearPending_confDecoder (s : State) : (clearPending s).confDecoder = s.confDecoder := rfl
@[simp] theorem clearPending_preRepair (s : State) : (clearPending s).preRepair = s.preRepair := rfl
@[simp] theorem clearPending_confRepair (s : State) : (clearPending s).confRepair = s.confRepair := rfl
@[simp] theorem clearPending_settings (s : State) : (clearPending s).settings = s.settings := rfl
@[simp] theorem clearPending_blend (s : State) : (clearPending s).blend = s.blend := rfl
@[simp] theorem clearPending_monitor (s : State) : (clearPending s).monitor = s.monitor := rfl
@[simp] theorem clearPending_outputs (s : State) : (clearPending s).outputs = s.outputs := rfl
@[simp] theorem clearPending_tapeMap (s : State) : (clearPending s).tapeMap = s.tapeMap := rfl
@[simp] theorem clearPending_editList (s : State) : (clearPending s).editList = s.editList := rfl
@[simp] theorem clearPending_rights (s : State) : (clearPending s).rights = s.rights := rfl
@[simp] theorem clearPending_faults (s : State) : (clearPending s).faults = s.faults := rfl
@[simp] theorem clearPending_pending (s : State) : (clearPending s).pending = s.pending := rfl

/-! ### addBaked -/

@[simp] theorem addBaked_ports (n : Nat) (s : State) : (addBaked n s).ports = s.ports := rfl
@[simp] theorem addBaked_claims (n : Nat) (s : State) : (addBaked n s).claims = s.claims := rfl
@[simp] theorem addBaked_transport (n : Nat) (s : State) : (addBaked n s).transport = s.transport := rfl
@[simp] theorem addBaked_clock (n : Nat) (s : State) : (addBaked n s).clock = s.clock := rfl
@[simp] theorem addBaked_formatter (n : Nat) (s : State) : (addBaked n s).formatter = s.formatter := rfl
@[simp] theorem addBaked_preDecoder (n : Nat) (s : State) : (addBaked n s).preDecoder = s.preDecoder := rfl
@[simp] theorem addBaked_confDecoder (n : Nat) (s : State) : (addBaked n s).confDecoder = s.confDecoder := rfl
@[simp] theorem addBaked_preRepair (n : Nat) (s : State) : (addBaked n s).preRepair = s.preRepair := rfl
@[simp] theorem addBaked_confRepair (n : Nat) (s : State) : (addBaked n s).confRepair = s.confRepair := rfl
@[simp] theorem addBaked_settings (n : Nat) (s : State) : (addBaked n s).settings = s.settings := rfl
@[simp] theorem addBaked_blend (n : Nat) (s : State) : (addBaked n s).blend = s.blend := rfl
@[simp] theorem addBaked_monitor (n : Nat) (s : State) : (addBaked n s).monitor = s.monitor := rfl
@[simp] theorem addBaked_outputs (n : Nat) (s : State) : (addBaked n s).outputs = s.outputs := rfl
@[simp] theorem addBaked_tapeMap (n : Nat) (s : State) : (addBaked n s).tapeMap = s.tapeMap := rfl
@[simp] theorem addBaked_editList (n : Nat) (s : State) : (addBaked n s).editList = s.editList := rfl
@[simp] theorem addBaked_rights (n : Nat) (s : State) : (addBaked n s).rights = s.rights := rfl
@[simp] theorem addBaked_pending (n : Nat) (s : State) : (addBaked n s).pending = s.pending := rfl

/-! ### setIndex -/

@[simp] theorem setIndex_ports (ix : List IndexEntry) (s : State) : (setIndex ix s).ports = s.ports := rfl
@[simp] theorem setIndex_claims (ix : List IndexEntry) (s : State) : (setIndex ix s).claims = s.claims := rfl
@[simp] theorem setIndex_transport (ix : List IndexEntry) (s : State) : (setIndex ix s).transport = s.transport := rfl
@[simp] theorem setIndex_clock (ix : List IndexEntry) (s : State) : (setIndex ix s).clock = s.clock := rfl
@[simp] theorem setIndex_formatter (ix : List IndexEntry) (s : State) : (setIndex ix s).formatter = s.formatter := rfl
@[simp] theorem setIndex_preDecoder (ix : List IndexEntry) (s : State) : (setIndex ix s).preDecoder = s.preDecoder := rfl
@[simp] theorem setIndex_confDecoder (ix : List IndexEntry) (s : State) : (setIndex ix s).confDecoder = s.confDecoder := rfl
@[simp] theorem setIndex_preRepair (ix : List IndexEntry) (s : State) : (setIndex ix s).preRepair = s.preRepair := rfl
@[simp] theorem setIndex_confRepair (ix : List IndexEntry) (s : State) : (setIndex ix s).confRepair = s.confRepair := rfl
@[simp] theorem setIndex_settings (ix : List IndexEntry) (s : State) : (setIndex ix s).settings = s.settings := rfl
@[simp] theorem setIndex_blend (ix : List IndexEntry) (s : State) : (setIndex ix s).blend = s.blend := rfl
@[simp] theorem setIndex_monitor (ix : List IndexEntry) (s : State) : (setIndex ix s).monitor = s.monitor := rfl
@[simp] theorem setIndex_outputs (ix : List IndexEntry) (s : State) : (setIndex ix s).outputs = s.outputs := rfl
@[simp] theorem setIndex_editList (ix : List IndexEntry) (s : State) : (setIndex ix s).editList = s.editList := rfl
@[simp] theorem setIndex_seq (ix : List IndexEntry) (s : State) : (setIndex ix s).seq = s.seq := rfl
@[simp] theorem setIndex_rights (ix : List IndexEntry) (s : State) : (setIndex ix s).rights = s.rights := rfl
@[simp] theorem setIndex_faults (ix : List IndexEntry) (s : State) : (setIndex ix s).faults = s.faults := rfl
@[simp] theorem setIndex_pending (ix : List IndexEntry) (s : State) : (setIndex ix s).pending = s.pending := rfl

/-! ### indexChange -/

@[simp] theorem indexChange_claims (s : State) : (indexChange s).claims = s.claims := rfl
@[simp] theorem indexChange_transport (s : State) : (indexChange s).transport = s.transport := rfl
@[simp] theorem indexChange_clock (s : State) : (indexChange s).clock = s.clock := rfl
@[simp] theorem indexChange_formatter (s : State) : (indexChange s).formatter = s.formatter := rfl
@[simp] theorem indexChange_preDecoder (s : State) : (indexChange s).preDecoder = s.preDecoder := rfl
@[simp] theorem indexChange_confDecoder (s : State) : (indexChange s).confDecoder = s.confDecoder := rfl
@[simp] theorem indexChange_preRepair (s : State) : (indexChange s).preRepair = s.preRepair := rfl
@[simp] theorem indexChange_confRepair (s : State) : (indexChange s).confRepair = s.confRepair := rfl
@[simp] theorem indexChange_settings (s : State) : (indexChange s).settings = s.settings := rfl
@[simp] theorem indexChange_blend (s : State) : (indexChange s).blend = s.blend := rfl
@[simp] theorem indexChange_monitor (s : State) : (indexChange s).monitor = s.monitor := rfl
@[simp] theorem indexChange_outputs (s : State) : (indexChange s).outputs = s.outputs := rfl
@[simp] theorem indexChange_editList (s : State) : (indexChange s).editList = s.editList := rfl
@[simp] theorem indexChange_seq (s : State) : (indexChange s).seq = s.seq := rfl
@[simp] theorem indexChange_rights (s : State) : (indexChange s).rights = s.rights := rfl
@[simp] theorem indexChange_faults (s : State) : (indexChange s).faults = s.faults := rfl
@[simp] theorem indexChange_pending (s : State) : (indexChange s).pending = s.pending := rfl

/-! ### settleRepair -/

@[simp] theorem settleRepair_ports (s : State) : (settleRepair s).ports = s.ports := rfl
@[simp] theorem settleRepair_claims (s : State) : (settleRepair s).claims = s.claims := rfl
@[simp] theorem settleRepair_transport (s : State) : (settleRepair s).transport = s.transport := rfl
@[simp] theorem settleRepair_clock (s : State) : (settleRepair s).clock = s.clock := rfl
@[simp] theorem settleRepair_preDecoder (s : State) : (settleRepair s).preDecoder = s.preDecoder := rfl
@[simp] theorem settleRepair_confDecoder (s : State) : (settleRepair s).confDecoder = s.confDecoder := rfl
@[simp] theorem settleRepair_settings (s : State) : (settleRepair s).settings = s.settings := rfl
@[simp] theorem settleRepair_blend (s : State) : (settleRepair s).blend = s.blend := rfl
@[simp] theorem settleRepair_monitor (s : State) : (settleRepair s).monitor = s.monitor := rfl
@[simp] theorem settleRepair_outputs (s : State) : (settleRepair s).outputs = s.outputs := rfl
@[simp] theorem settleRepair_tapeMap (s : State) : (settleRepair s).tapeMap = s.tapeMap := rfl
@[simp] theorem settleRepair_editList (s : State) : (settleRepair s).editList = s.editList := rfl
@[simp] theorem settleRepair_seq (s : State) : (settleRepair s).seq = s.seq := rfl
@[simp] theorem settleRepair_rights (s : State) : (settleRepair s).rights = s.rights := rfl
@[simp] theorem settleRepair_faults (s : State) : (settleRepair s).faults = s.faults := rfl
@[simp] theorem settleRepair_pending (s : State) : (settleRepair s).pending = s.pending := rfl

/-! ### Tables -/

@[simp] theorem Ports.get_set (p : Ports) (q : Port) (c : PortContext) : (p.set q c).get q = c := by cases q <;> rfl

theorem Ports.get_set_of_ne (p : Ports) (q r : Port) (c : PortContext) (h : r ≠ q) : (p.set q c).get r = p.get r := by
  cases q <;> cases r <;> first | rfl | exact absurd rfl h

@[simp] theorem Claims.holder_setHolder (c : Claims) (k : ClaimKind) (h : Option Port) :
    (c.setHolder k h).holder k = h := by cases k <;> rfl

theorem Claims.holder_setHolder_of_ne (c : Claims) (k l : ClaimKind) (h : Option Port) (hk : l ≠ k) :
    (c.setHolder k h).holder l = c.holder l := by
  cases k <;> cases l <;> first | rfl | exact absurd rfl hk

@[simp] theorem FaultRecords.get_set (r : FaultRecords) (k : FaultKind) (f : FaultRecord) : (r.set k f).get k = f := by
  cases k <;> rfl

theorem FaultRecords.get_set_of_ne (r : FaultRecords) (k l : FaultKind) (f : FaultRecord) (h : l ≠ k) :
    (r.set k f).get l = r.get l := by
  cases k <;> cases l <;> first | rfl | exact absurd rfl h

@[simp] theorem ClogHeads.get_set (h : ClogHeads) (p : ReadPath) (t : Track) (c : ClogHead) :
    (h.set p t c).get p t = c := by cases p <;> cases t <;> rfl

@[simp] theorem Blend.get_set (b : Blend) (ch : Channel) (c : BlendChannel) : (b.set ch c).get ch = c := by
  cases ch <;> rfl

@[simp] theorem setRecord_get (k : FaultKind) (r : FaultRecord) (s : State) :
    (setRecord k r s).faults.records.get k = r := by simp [setRecord]

@[simp] theorem raiseEvent_port (e : Event) (s : State) (p : Port) :
    (raiseEvent e s).ports.get p = (s.ports.get p).notice e := by cases p <;> rfl

@[simp] theorem respond_port (p : Port) (op : Byte) (res : ResultCode) (pl : Payload) (s : State) :
    (respond p op res pl s).ports.get p =
      { s.ports.get p with response := ⟨res, op, pl⟩, frameError := false, select := .high } := by
  cases p <;> rfl

theorem respond_other_port (p q : Port) (op : Byte) (res : ResultCode) (pl : Payload) (s : State) (h : q ≠ p) :
    (respond p op res pl s).ports.get q = s.ports.get q := Ports.get_set_of_ne _ _ _ _ h

end Sys2Proof.Machine
end

