-- ==== Sys2Proof/Laws/SeqFrame.lean ====
section
/-! SUPPORT. What the work of the sequencer, and everything it asks of other blocks, leaves alone: `SeqFrame s t` says that `t`
differs from `s` in nothing but the ports, the blend unit, the monitor switch, the outputs, and the parts of the formatter,
the sequencer, the rights unit and the fault records that this work may change. One lemma per operation. -/

namespace Sys2Proof.Machine

open Sys2Proof

/-- A port context to which events have been added, and nothing else done. -/
structure PortGrow (c d : PortContext) : Prop where
  rest : d = { c with events := d.events }
  grows : ∀ e, EventSet.has c.events e = true → EventSet.has d.events e = true

theorem PortGrow.refl (c : PortContext) : PortGrow c c := ⟨rfl, fun _ h => h⟩

theorem PortGrow.trans {c d e : PortContext} (h : PortGrow c d) (k : PortGrow d e) : PortGrow c e :=
  ⟨by rw [k.rest, h.rest], fun x hx => k.grows x (h.grows x hx)⟩

theorem notice_grow (c : PortContext) (e : Event) : PortGrow c (c.notice e) := by
  unfold PortContext.notice
  split
  · exact ⟨rfl, fun x hx => by simp_all [EventSet.has]⟩
  · exact .refl c

/-- What the sequencer's work leaves alone. -/
structure SeqFrame (s t : State) : Prop where
  ports : ∀ q, PortGrow (s.ports.get q) (t.ports.get q)
  claims : t.claims = s.claims
  transport : t.transport = s.transport
  clock : t.clock = s.clock
  preDecoder : t.preDecoder = s.preDecoder
  confDecoder : t.confDecoder = s.confDecoder
  preRepair : t.preRepair = s.preRepair
  confRepair : t.confRepair = s.confRepair
  settings : t.settings = s.settings
  tapeMap : t.tapeMap = s.tapeMap
  editList : t.editList = s.editList
  pending : t.pending = s.pending
  recordRate : t.formatter.recordRate = s.formatter.recordRate
  defaultSource : t.formatter.defaultSource = s.formatter.defaultSource
  analogRights : t.formatter.analogRights = s.formatter.analogRights
  writeEnable : t.formatter.writeEnable = s.formatter.writeEnable
  linkRate : t.formatter.linkRate = s.formatter.linkRate
  written : t.formatter.written = s.formatter.written
  carried : t.formatter.carried = s.formatter.carried
  digital : t.rights.digital = s.rights.digital
  lock : t.rights.lock = s.rights.lock
  history : t.rights.history = s.rights.history
  accepted : t.rights.accepted = s.rights.accepted
  tape : t.rights.tape = s.rights.tape
  kept : t.rights.kept = s.rights.kept
  candidate : t.rights.candidate = s.rights.candidate
  heads : t.faults.heads = s.faults.heads
  counters : t.faults.counters = s.faults.counters
  high : t.faults.high = s.faults.high
  low : t.faults.low = s.faults.low
  handed : t.faults.handed = s.faults.handed
  verify : t.faults.verify = s.faults.verify
  lastPosition : t.seq.lastPosition = s.seq.lastPosition
  mode : t.monitor.mode = s.monitor.mode
  source : t.monitor.source = s.monitor.source
  outLeft : t.outputs.left = s.outputs.left
  outRight : t.outputs.right = s.outputs.right
  txPairs : t.outputs.txPairs = s.outputs.txPairs
  txSent : t.outputs.txSent = s.outputs.txSent
  window : t.faults.window = s.faults.window
  positionTag : t.faults.positionTag = s.faults.positionTag
  lastConf : t.faults.lastConf = s.faults.lastConf
  snap1 : t.faults.snap1 = s.faults.snap1
  snap2 : t.faults.snap2 = s.faults.snap2
  snap3 : t.faults.snap3 = s.faults.snap3

theorem SeqFrame.refl (s : State) : SeqFrame s s := by
  constructor <;> first | rfl | exact fun _ => .refl _

theorem SeqFrame.trans {s t u : State} (h : SeqFrame s t) (k : SeqFrame t u) : SeqFrame s u :=
  ⟨fun q => (h.ports q).trans (k.ports q),
    k.claims.trans h.claims,
    k.transport.trans h.transport,
    k.clock.trans h.clock,
    k.preDecoder.trans h.preDecoder,
    k.confDecoder.trans h.confDecoder,
    k.preRepair.trans h.preRepair,
    k.confRepair.trans h.confRepair,
    k.settings.trans h.settings,
    k.tapeMap.trans h.tapeMap,
    k.editList.trans h.editList,
    k.pending.trans h.pending,
    k.recordRate.trans h.recordRate,
    k.defaultSource.trans h.defaultSource,
    k.analogRights.trans h.analogRights,
    k.writeEnable.trans h.writeEnable,
    k.linkRate.trans h.linkRate,
    k.written.trans h.written,
    k.carried.trans h.carried,
    k.digital.trans h.digital,
    k.lock.trans h.lock,
    k.history.trans h.history,
    k.accepted.trans h.accepted,
    k.tape.trans h.tape,
    k.kept.trans h.kept,
    k.candidate.trans h.candidate,
    k.heads.trans h.heads,
    k.counters.trans h.counters,
    k.high.trans h.high,
    k.low.trans h.low,
    k.handed.trans h.handed,
    k.verify.trans h.verify,
    k.lastPosition.trans h.lastPosition,
    k.mode.trans h.mode,
    k.source.trans h.source,
    k.outLeft.trans h.outLeft,
    k.outRight.trans h.outRight,
    k.txPairs.trans h.txPairs,
    k.txSent.trans h.txSent,
    k.window.trans h.window,
    k.positionTag.trans h.positionTag,
    k.lastConf.trans h.lastConf,
    k.snap1.trans h.snap1,
    k.snap2.trans h.snap2,
    k.snap3.trans h.snap3⟩

/-- The frame as one equation: what `SeqFrame` allows to change stands as `t` has it. -/
theorem SeqFrame.state_eq {s t : State} (h : SeqFrame s t) :
    t = { s with
      ports := t.ports, formatter := t.formatter, blend := t.blend, seq := t.seq
      monitor := { s.monitor with switch := t.monitor.switch, pending := t.monitor.pending }
      rights := { s.rights with word := t.rights.word, period := t.rights.period }
      outputs := { s.outputs with txWorst := t.outputs.txWorst }
      faults := { s.faults with records := t.faults.records } } := by
  have e1 : t.monitor = { s.monitor with switch := t.monitor.switch, pending := t.monitor.pending } := by
    dsimp only
    rw [← h.mode, ← h.source]
  have e2 : t.rights = { s.rights with word := t.rights.word, period := t.rights.period } := by
    dsimp only
    rw [← h.history, ← h.accepted, ← h.lock, ← h.digital, ← h.kept, ← h.tape, ← h.candidate]
  have e3 : t.outputs = { s.outputs with txWorst := t.outputs.txWorst } := by
    dsimp only
    rw [← h.outLeft, ← h.outRight, ← h.txPairs, ← h.txSent]
  have e4 : t.faults = { s.faults with records := t.faults.records } := by
    dsimp only
    rw [← h.heads, ← h.high, ← h.low, ← h.window, ← h.positionTag, ← h.handed, ← h.lastConf, ← h.counters, ← h.snap1,
      ← h.snap2, ← h.snap3, ← h.verify]
  rw [← e1, ← e2, ← e3, ← e4, ← h.claims, ← h.transport, ← h.clock, ← h.preDecoder, ← h.confDecoder, ← h.preRepair,
    ← h.confRepair, ← h.settings, ← h.tapeMap, ← h.editList, ← h.pending]

/-! ### Plain updates -/

theorem raiseEvent_seqFrame (e : Event) (s : State) : SeqFrame s (raiseEvent e s) := by
  constructor <;> first | rfl | (intro q; cases q <;> exact notice_grow _ _)

theorem raiseFor_seqFrame (p : Port) (e : Event) (s : State) : SeqFrame s (raiseFor p e s) := by
  constructor <;> first | rfl | (intro q; cases p <;> cases q <;> first | exact notice_grow _ _ | exact .refl _)

theorem setRecord_seqFrame (k : FaultKind) (r : FaultRecord) (s : State) : SeqFrame s (setRecord k r s) := by
  constructor <;> first | rfl | exact fun _ => .refl _

theorem emptyFifo_seqFrame (s : State) : SeqFrame s (emptyFifo s) := by
  constructor <;> first | rfl | exact fun _ => .refl _

theorem refreshWord_seqFrame (s : State) : SeqFrame s (refreshWord s) := by
  constructor <;> first | rfl | exact fun _ => .refl _

theorem countPeriodRights_seqFrame (s : State) : SeqFrame s (countPeriodRights s) := by
  constructor <;> first | rfl | exact fun _ => .refl _

theorem fadeInRequest_seqFrame (e : EditEntry) (o : Nat) (s : State) : SeqFrame s (fadeInRequest e o s) := by
  constructor <;> first | rfl | exact fun _ => .refl _

theorem fadeOutRequest_seqFrame (e : EditEntry) (o : Nat) (s : State) : SeqFrame s (fadeOutRequest e o s) := by
  constructor <;> first | rfl | exact fun _ => .refl _

theorem fadeOutNowRequest_seqFrame (e : EditEntry) (s : State) : SeqFrame s (fadeOutNowRequest e s) := by
  constructor <;> first | rfl | exact fun _ => .refl _

theorem cutRequest_seqFrame (s : State) : SeqFrame s (cutRequest s) := by
  constructor <;> first | rfl | exact fun _ => .refl _

theorem releaseBlend_seqFrame (s : State) : SeqFrame s (releaseBlend s) := by
  constructor <;> first | rfl | exact fun _ => .refl _

theorem silenceRequest_seqFrame (s : State) : SeqFrame s (silenceRequest s) := by
  constructor <;> first | rfl | exact fun _ => .refl _

theorem setSeqState_seqFrame (st : SeqState) (s : State) : SeqFrame s (setSeqState st s) := by
  constructor <;> first | rfl | exact fun _ => .refl _

theorem clearPending_seqFrame (s : State) : SeqFrame s (clearPending s) := by
  constructor <;> first | rfl | exact fun _ => .refl _

/-! ### Events that reach a port -/

theorem single_has (e : Event) : EventSet.has e.single e = true := by cases e <;> decide

theorem notice_has (c : PortContext) (e : Event) (h : EventSet.has c.report e = true) :
    EventSet.has (c.notice e).events e = true := by
  unfold PortContext.notice
  rw [if_pos h]
  have := single_has e
  simp_all [EventSet.has]

/-- An event raised at the end of an operation is pending at each port that enabled it before. -/
theorem raised_has {s u : State} (h : SeqFrame s u) (e : Event) (q : Port)
    (hq : EventSet.has (s.ports.get q).report e = true) :
    EventSet.has ((raiseEvent e u).ports.get q).events e = true := by
  have hr : EventSet.has (u.ports.get q).report e = true := by
    rw [(h.ports q).rest]
    exact hq
  cases q <;> exact notice_has _ e hr

/-- An event raised stays pending through what follows. -/
theorem raised_stays {s u t : State} (h : SeqFrame s u) (e : Event) (k : SeqFrame (raiseEvent e u) t) (q : Port)
    (hq : EventSet.has (s.ports.get q).report e = true) : EventSet.has (t.ports.get q).events e = true :=
  (k.ports q).grows e (raised_has h e q hq)

/-! ### Operations -/

theorem reselect_seqFrame (s : State) : SeqFrame s (reselect s) := by
  unfold reselect
  simp only
  split
  · split
    · exact .refl s
    · constructor <;> first | rfl | exact fun _ => .refl _
  · constructor <;> first | rfl | exact fun _ => .refl _

theorem faultRaise_seqFrame (k : FaultKind) (d : FaultDetail) (s : State) : SeqFrame s (faultRaise k d s) := by
  unfold faultRaise
  simp only
  split
  · exact .refl s
  · exact (setRecord_seqFrame _ _ s).trans (raiseEvent_seqFrame _ _)

theorem endAction_seqFrame (k : FaultKind) (s : State) : SeqFrame s (endAction k s) := by
  unfold endAction
  simp only
  split
  · exact (setRecord_seqFrame _ _ s).trans (raiseEvent_seqFrame _ _)
  · exact .refl s

theorem conditionTo_seqFrame (k : FaultKind) (c : Option FaultDetail) (s : State) : SeqFrame s (conditionTo k c s) := by
  unfold conditionTo
  cases c with
  | some d =>
    simp only
    split
    · exact .refl s
    · exact (setRecord_seqFrame _ _ s).trans (faultRaise_seqFrame _ _ _)
  | none =>
    simp only
    split
    · split
      · exact (setRecord_seqFrame _ _ s).trans (endAction_seqFrame _ _)
      · exact setRecord_seqFrame _ _ s
    · exact .refl s

theorem evaluateInput_seqFrame (s : State) : SeqFrame s (evaluateInput s) := conditionTo_seqFrame _ _ s

theorem afterSourceChange_seqFrame (s0 s : State) : SeqFrame s (afterSourceChange s0 s) := by
  unfold afterSourceChange
  split
  · exact .refl s
  · refine SeqFrame.trans ?_ (evaluateInput_seqFrame _)
    constructor <;> first | rfl | exact fun _ => .refl _

theorem openRequest_seqFrame (sp : Span) (s : State) : SeqFrame s (openRequest sp s) := by
  unfold openRequest
  split
  · constructor <;> first | rfl | exact fun _ => .refl _
  · exact .refl s

theorem closeRequest_seqFrame (g : FrameNo) (s : State) : SeqFrame s (closeRequest g s) := by
  unfold closeRequest
  split <;> first | exact .refl s | (constructor <;> first | rfl | exact fun _ => .refl _)

theorem forcedCloseRequest_seqFrame (s : State) : SeqFrame s (forcedCloseRequest s) := by
  unfold forcedCloseRequest
  simp only
  split
  · constructor <;> first | rfl | exact fun _ => .refl _
  · split
    · constructor <;> first | rfl | exact fun _ => .refl _
    · exact .refl s

theorem recordError_seqFrame (kind : ErrorKind) (ph : Phase) (k : Fin 32) (d : ErrorDetail) (s : State) :
    SeqFrame s (recordError kind ph k d s) := by
  unfold recordError
  split
  · exact .refl s
  · constructor <;> first | rfl | exact fun _ => .refl _

theorem giveUp_seqFrame (s : State) : SeqFrame s (giveUp s) := by
  unfold giveUp
  split
  · refine SeqFrame.trans ?_ (reselect_seqFrame _)
    refine SeqFrame.trans ?_ (afterSourceChange_seqFrame _ _)
    constructor <;> first | rfl | exact fun _ => .refl _
  · constructor <;> first | rfl | exact fun _ => .refl _

theorem takeEntry_seqFrame (k : Fin 32) (s : State) : SeqFrame s (takeEntry k s) := by
  unfold takeEntry
  refine SeqFrame.trans ?_ (reselect_seqFrame _)
  refine SeqFrame.trans ?_ (afterSourceChange_seqFrame _ _)
  constructor <;> first | rfl | exact fun _ => .refl _

theorem seqStop_seqFrame (kind : ErrorKind) (d : ErrorDetail) (k : Fin 32) (s : State) :
    SeqFrame s (seqStop kind d k s) := by
  unfold seqStop
  refine SeqFrame.trans ?_ (raiseEvent_seqFrame _ _)
  refine SeqFrame.trans ?_ (giveUp_seqFrame _)
  refine SeqFrame.trans ?_ (recordError_seqFrame _ _ _ _ _)
  constructor <;> first | rfl | exact fun _ => .refl _

theorem endWalk_seqFrame (c : CloseKind) (k : Fin 32) (s : State) : SeqFrame s (endWalk c k s) := by
  refine SeqFrame.trans ?_ (raiseEvent_seqFrame _ _)
  constructor <;> first | rfl | exact fun _ => .refl _

theorem fetchFound_seqFrame (p : Fin 32) (s : State) : SeqFrame s (fetchFound p s) := by
  unfold fetchFound
  simp only
  split
  · refine SeqFrame.trans ?_ (seqStop_seqFrame _ _ _ _)
    constructor <;> first | rfl | exact fun _ => .refl _
  · refine SeqFrame.trans ?_ (takeEntry_seqFrame _ _)
    constructor <;> first | rfl | exact fun _ => .refl _

theorem fetchPass_seqFrame (p q : Fin 32) (more : State → State) (hm : ∀ u, SeqFrame u (more u)) (s : State) :
    SeqFrame s (fetchPass p q more s) := by
  unfold fetchPass
  simp only
  split
  · refine SeqFrame.trans ?_ (seqStop_seqFrame _ _ _ _)
    constructor <;> first | rfl | exact fun _ => .refl _
  · split
    · refine SeqFrame.trans ?_ (endWalk_seqFrame _ _ _)
      constructor <;> first | rfl | exact fun _ => .refl _
    · refine SeqFrame.trans ?_ (hm _)
      constructor <;> first | rfl | exact fun _ => .refl _

theorem fetchFrom_seqFrame (n : Nat) : ∀ s : State, SeqFrame s (fetchFrom n s) := by
  induction n with
  | zero => exact fun s => .refl s
  | succ n ih =>
    intro s
    unfold fetchFrom
    simp only
    split <;> first | exact fetchPass_seqFrame _ _ _ ih s | exact fetchFound_seqFrame _ s

theorem fetch_seqFrame (s : State) : SeqFrame s (fetch s) := fetchFrom_seqFrame 34 s

theorem complete_seqFrame (s : State) : SeqFrame s (complete s) := by
  unfold complete
  split
  · exact .refl s
  · rename_i k e _
    have h : SeqFrame s (clearPending (giveUp { s with seq := { s.seq with state := .idle, pointer := k } })) := by
      refine SeqFrame.trans ?_ (clearPending_seqFrame _)
      refine SeqFrame.trans ?_ (giveUp_seqFrame _)
      constructor <;> first | rfl | exact fun _ => .refl _
    simp only
    split
    · exact h.trans ((setSeqState_seqFrame _ _).trans (raiseEvent_seqFrame _ _))
    · split
      · exact h.trans (endWalk_seqFrame _ _ _)
      · split
        · exact h.trans (endWalk_seqFrame _ _ _)
        · split
          · refine h.trans ?_
            constructor <;> first | rfl | exact fun _ => .refl _
          · refine h.trans (SeqFrame.trans ?_ (fetch_seqFrame _))
            constructor <;> first | rfl | exact fun _ => .refl _

theorem failEntry_seqFrame (kind : ErrorKind) (d : ErrorDetail) (k : Fin 32) (s : State) :
    SeqFrame s (failEntry kind d k s) := by
  unfold failEntry
  refine SeqFrame.trans ?_ (raiseEvent_seqFrame _ _)
  refine SeqFrame.trans ?_ (giveUp_seqFrame _)
  refine SeqFrame.trans ?_ (clearPending_seqFrame _)
  refine SeqFrame.trans ?_ (recordError_seqFrame _ _ _ _ _)
  constructor <;> first | rfl | exact fun _ => .refl _

theorem seqForcedClose_seqFrame (kind : ErrorKind) (d : ErrorDetail) (s : State) :
    SeqFrame s (seqForcedClose kind d s) := by
  unfold seqForcedClose
  split
  · exact .refl s
  · split
    · exact ((forcedCloseRequest_seqFrame s).trans (cutRequest_seqFrame _)).trans (failEntry_seqFrame _ _ _ _)
    · exact .refl s

theorem seqForcedCloseAll_seqFrame (kind : ErrorKind) (d : ErrorDetail) (s : State) :
    SeqFrame s (seqForcedCloseAll kind d s) := by
  unfold seqForcedCloseAll
  split
  · exact .refl s
  · split
    · refine SeqFrame.trans ?_ (failEntry_seqFrame _ _ _ _)
      refine SeqFrame.trans ?_ (cutRequest_seqFrame _)
      split
      · exact .refl s
      · exact forcedCloseRequest_seqFrame s
    · exact .refl s

theorem assembleEnd_seqFrame (s : State) : SeqFrame s (assembleEnd s) :=
  ((forcedCloseRequest_seqFrame s).trans (cutRequest_seqFrame _)).trans (complete_seqFrame _)

theorem leftRecord_seqFrame (s : State) : SeqFrame s (leftRecord s) := by
  unfold leftRecord
  split
  · split
    · exact assembleEnd_seqFrame s
    · exact seqForcedClose_seqFrame _ _ s
  · exact .refl s

theorem windowLoss_seqFrame (t : Transport) (s : State) : SeqFrame s (windowLoss t s) := by
  unfold windowLoss
  split
  · split
    · exact leftRecord_seqFrame s
    · split
      · exact seqForcedClose_seqFrame _ _ s
      · split <;> exact seqForcedClose_seqFrame _ _ s
  · exact .refl s

theorem seqJump_seqFrame (s : State) : SeqFrame s (seqJump s) := seqForcedCloseAll_seqFrame _ _ s

theorem openEntry_seqFrame (e : EditEntry) (fp : Option Afa) (st : PosState) (o : Nat) (s : State) :
    SeqFrame s (openEntry e fp st o s) := by
  unfold openEntry
  simp only
  refine SeqFrame.trans ?_ (setSeqState_seqFrame _ _)
  split <;> split <;>
    first
    | exact .refl s
    | exact fadeInRequest_seqFrame _ _ s
    | exact openRequest_seqFrame _ s
    | exact (openRequest_seqFrame _ s).trans (fadeInRequest_seqFrame _ _ _)

theorem inArrival_seqFrame (k : Fin 32) (e : EditEntry) (fp : Option Afa) (st : PosState) (o : Nat) (s : State) :
    SeqFrame s (inArrival k e fp st o s) := by
  unfold inArrival
  split
  · exact openEntry_seqFrame _ _ _ _ s
  · split
    · exact seqStop_seqFrame _ _ _ s
    · exact openEntry_seqFrame _ _ _ _ s

theorem armedPosition_seqFrame (fp : Option Afa) (st : PosState) (d : Bool) (s : State) :
    SeqFrame s (armedPosition fp st d s) := by
  unfold armedPosition
  repeat' split
  all_goals first
    | exact .refl s
    | exact inArrival_seqFrame _ _ _ _ _ s
    | exact seqStop_seqFrame _ _ _ s

theorem recordingPosition_seqFrame (fp : Option Afa) (s : State) : SeqFrame s (recordingPosition fp s) := by
  unfold recordingPosition
  repeat' split
  all_goals first
    | exact .refl s
    | exact (fadeOutRequest_seqFrame _ _ s).trans (setSeqState_seqFrame _ _)

theorem seqRefused_seqFrame (kind : ErrorKind) (d : ErrorDetail) (s : State) : SeqFrame s (seqRefused kind d s) := by
  unfold seqRefused
  repeat' split
  all_goals first
    | exact .refl s
    | exact (cutRequest_seqFrame s).trans (failEntry_seqFrame _ _ _ _)

theorem seqLaterStop_seqFrame (kind : ErrorKind) (d : ErrorDetail) (s : State) :
    SeqFrame s (seqLaterStop kind d s) := by
  unfold seqLaterStop
  repeat' split
  all_goals first
    | exact .refl s
    | exact ((cutRequest_seqFrame s).trans (recordError_seqFrame _ _ _ _ _)).trans (setSeqState_seqFrame _ _)

theorem fadeOutReport_seqFrame (g : FrameNo) (s : State) : SeqFrame s (fadeOutReport g s) := by
  unfold fadeOutReport
  repeat' split
  all_goals first
    | exact .refl s
    | exact complete_seqFrame s
    | exact closeRequest_seqFrame _ s

theorem markRunReport_seqFrame (g : FrameNo) (s : State) : SeqFrame s (markRunReport g s) := by
  unfold markRunReport
  repeat' split
  all_goals first
    | exact .refl s
    | exact (closeRequest_seqFrame _ s).trans (setSeqState_seqFrame _ _)

theorem gateClosedReport_seqFrame (s : State) : SeqFrame s (gateClosedReport s) := by
  unfold gateClosedReport
  split
  · exact complete_seqFrame s
  · exact .refl s

theorem noneReport_seqFrame (s : State) : SeqFrame s (noneReport s) := by
  unfold noneReport
  split
  · exact .refl s
  · split
    · split
      · simp only
        refine SeqFrame.trans ?_ (setSeqState_seqFrame _ _)
        refine SeqFrame.trans ?_ (recordError_seqFrame _ _ _ _ _)
        refine (silenceRequest_seqFrame s).trans ?_
        split
        · exact .refl _
        · exact fadeOutNowRequest_seqFrame _ _
      · split
        · exact seqForcedClose_seqFrame _ _ s
        · exact .refl s
    · exact .refl s

theorem applyAction_seqFrame (k : FaultKind) (s : State) : SeqFrame s (applyAction k s) := by
  unfold applyAction
  repeat' split
  all_goals first
    | exact .refl s
    | exact seqForcedClose_seqFrame _ _ s
    | exact seqStop_seqFrame _ _ _ s

/-- A condition evaluated, its action applied where the evaluation was a raise that applies one (R159). -/
theorem evaluate_seqFrame (k : FaultKind) (c : Option FaultDetail) (s : State) : SeqFrame s (evaluate k c s) := by
  unfold evaluate
  simp only
  split
  · exact (conditionTo_seqFrame _ _ s).trans (applyAction_seqFrame _ _)
  · exact conditionTo_seqFrame _ _ s

theorem evaluateInputAction_seqFrame (s : State) : SeqFrame s (evaluateInputAction s) := evaluate_seqFrame _ _ s

theorem evaluateServo_seqFrame (s : State) : SeqFrame s (evaluateServo s) := evaluate_seqFrame _ _ s

theorem deliverInput_seqFrame (s0 s : State) : SeqFrame s (deliverInput s0 s) := by
  unfold deliverInput
  split
  · exact applyAction_seqFrame _ s
  · exact .refl s

/-- The tag of a POSITION report apart. -/
theorem positionReport_seqFrame (d : FaultDetail) (s : State) :
    SeqFrame { s with faults := { s.faults with positionTag := (positionReport d s).faults.positionTag } }
      (positionReport d s) := by
  unfold positionReport
  split
  · exact .refl s
  · rw [(evaluate_seqFrame _ _ _).positionTag]
    exact evaluate_seqFrame _ _ _

/-- The tag of a POSITION report apart. -/
theorem positionTick_seqFrame (s : State) :
    SeqFrame { s with faults := { s.faults with positionTag := (positionTick s).faults.positionTag } } (positionTick s) := by
  unfold positionTick
  repeat' split
  all_goals first
    | exact .refl s
    | (rw [(conditionTo_seqFrame _ _ _).positionTag]; exact conditionTo_seqFrame _ _ _)

theorem uncorrTally_seqFrame (t : Tally) (s : State) : SeqFrame s (uncorrTally t s) := evaluate_seqFrame _ _ s

/-- The rate window apart. -/
theorem rateTally_seqFrame (t : Tally) (s : State) :
    SeqFrame { s with faults := { s.faults with window := (rateTally t s).faults.window } } (rateTally t s) := by
  unfold rateTally
  simp only
  split
  · exact .refl s
  · rw [(evaluate_seqFrame _ _ _).window]
    exact evaluate_seqFrame _ _ _

theorem editStartAt_seqFrame (p : Fin 32) (s : State) : SeqFrame s (editStartAt p s) := by
  unfold editStartAt
  refine SeqFrame.trans ?_ (fetch_seqFrame _)
  constructor <;> first | rfl | exact fun _ => .refl _

theorem abortWalk_seqFrame (s : State) : SeqFrame s (abortWalk s) := by
  unfold abortWalk
  split
  · exact .refl s
  · exact (endWalk_seqFrame _ _ s).trans (giveUp_seqFrame _)
  · exact (endWalk_seqFrame _ _ s).trans (giveUp_seqFrame _)
  · exact setSeqState_seqFrame _ s
  · constructor <;> first | rfl | exact fun _ => .refl _
  · split
    · exact .refl s
    · split
      · refine SeqFrame.trans ?_ (giveUp_seqFrame _)
        refine SeqFrame.trans ?_ (clearPending_seqFrame _)
        refine SeqFrame.trans ?_ (endWalk_seqFrame _ _ _)
        exact (forcedCloseRequest_seqFrame s).trans (cutRequest_seqFrame _)
      · constructor <;> first | rfl | exact fun _ => .refl _

theorem continueHeld_seqFrame (s : State) : SeqFrame s (continueHeld s) := by
  unfold continueHeld
  repeat' split
  all_goals first
    | exact fetch_seqFrame s
    | exact seqStop_seqFrame _ _ _ s
    | (constructor <;> first | rfl | exact fun _ => .refl _)

end Sys2Proof.Machine
end

