-- ==== Sys2Proof/Laws/WorkFrame.lean ====
section
/-! SUPPORT. What the steps that come due, and the formatter's work at a frame boundary, leave alone: `WorkFrame s t` keeps the
claims, the transport, the clock, the decoders, the settings, the edit list, the queue, the position (its candidate apart),
the rights of sources and tape, and the frames the repair units hold. One lemma per operation. -/

namespace Sys2Proof.Machine

open Sys2Proof

/-- What the due steps and the formatter's work leave alone. -/
structure WorkFrame (s t : State) : Prop where
  ports : ∀ q, PortGrow (s.ports.get q) (t.ports.get q)
  claims : t.claims = s.claims
  transport : t.transport = s.transport
  clock : t.clock = s.clock
  preDecoder : t.preDecoder = s.preDecoder
  confDecoder : t.confDecoder = s.confDecoder
  settings : t.settings = s.settings
  editList : t.editList = s.editList
  pending : t.pending = s.pending
  recordRate : t.formatter.recordRate = s.formatter.recordRate
  defaultSource : t.formatter.defaultSource = s.formatter.defaultSource
  analogRights : t.formatter.analogRights = s.formatter.analogRights
  writeEnable : t.formatter.writeEnable = s.formatter.writeEnable
  linkRate : t.formatter.linkRate = s.formatter.linkRate
  carried : t.formatter.carried = s.formatter.carried
  lastPosition : t.seq.lastPosition = s.seq.lastPosition
  digital : t.rights.digital = s.rights.digital
  lock : t.rights.lock = s.rights.lock
  history : t.rights.history = s.rights.history
  accepted : t.rights.accepted = s.rights.accepted
  tape : t.rights.tape = s.rights.tape
  kept : t.rights.kept = s.rights.kept
  candidate : t.rights.candidate = s.rights.candidate
  heads : t.faults.heads = s.faults.heads
  high : t.faults.high = s.faults.high
  low : t.faults.low = s.faults.low
  verify : t.faults.verify = s.faults.verify
  mode : t.monitor.mode = s.monitor.mode
  posState : t.tapeMap.pos.state = s.tapeMap.pos.state
  posAfa : t.tapeMap.pos.afa = s.tapeMap.pos.afa
  posRate : t.tapeMap.pos.rate = s.tapeMap.pos.rate
  posGeneration : t.tapeMap.pos.lastGeneration = s.tapeMap.pos.lastGeneration
  posSince : t.tapeMap.pos.framesSince = s.tapeMap.pos.framesSince
  posBlank : t.tapeMap.pos.blankRun = s.tapeMap.pos.blankRun
  preOutput : t.preRepair.output = s.preRepair.output
  preAhead : t.preRepair.ahead = s.preRepair.ahead
  confOutput : t.confRepair.output = s.confRepair.output
  confAhead : t.confRepair.ahead = s.confRepair.ahead

theorem WorkFrame.refl (s : State) : WorkFrame s s := by
  constructor <;> first | rfl | exact fun _ => .refl _

theorem WorkFrame.trans {s t u : State} (h : WorkFrame s t) (k : WorkFrame t u) : WorkFrame s u :=
  ⟨fun q => (h.ports q).trans (k.ports q),
    k.claims.trans h.claims,
    k.transport.trans h.transport,
    k.clock.trans h.clock,
    k.preDecoder.trans h.preDecoder,
    k.confDecoder.trans h.confDecoder,
    k.settings.trans h.settings,
    k.editList.trans h.editList,
    k.pending.trans h.pending,
    k.recordRate.trans h.recordRate,
    k.defaultSource.trans h.defaultSource,
    k.analogRights.trans h.analogRights,
    k.writeEnable.trans h.writeEnable,
    k.linkRate.trans h.linkRate,
    k.carried.trans h.carried,
    k.lastPosition.trans h.lastPosition,
    k.digital.trans h.digital,
    k.lock.trans h.lock,
    k.history.trans h.history,
    k.accepted.trans h.accepted,
    k.tape.trans h.tape,
    k.kept.trans h.kept,
    k.candidate.trans h.candidate,
    k.heads.trans h.heads,
    k.high.trans h.high,
    k.low.trans h.low,
    k.verify.trans h.verify,
    k.mode.trans h.mode,
    k.posState.trans h.posState,
    k.posAfa.trans h.posAfa,
    k.posRate.trans h.posRate,
    k.posGeneration.trans h.posGeneration,
    k.posSince.trans h.posSince,
    k.posBlank.trans h.posBlank,
    k.preOutput.trans h.preOutput,
    k.preAhead.trans h.preAhead,
    k.confOutput.trans h.confOutput,
    k.confAhead.trans h.confAhead⟩

theorem SeqFrame.work {s t : State} (h : SeqFrame s t) : WorkFrame s t :=
  ⟨h.ports, h.claims, h.transport, h.clock, h.preDecoder, h.confDecoder, h.settings, h.editList, h.pending, h.recordRate,
    h.defaultSource, h.analogRights, h.writeEnable, h.linkRate, h.carried, h.lastPosition, h.digital, h.lock, h.history,
    h.accepted, h.tape, h.kept, h.candidate, h.heads, h.high, h.low, h.verify, h.mode, by rw [h.tapeMap],
    by rw [h.tapeMap], by rw [h.tapeMap], by rw [h.tapeMap], by rw [h.tapeMap], by rw [h.tapeMap], by rw [h.preRepair],
    by rw [h.preRepair], by rw [h.confRepair], by rw [h.confRepair]⟩

/-! ### The program index under writing -/

theorem insertEntry_workFrame (e : IndexEntry) (s : State) : WorkFrame s (insertEntry e s) := by
  unfold insertEntry
  split <;> (constructor <;> first | rfl | exact fun _ => .refl _ | exact (raiseEvent_seqFrame _ _).ports)

theorem applyWrittenRun_workFrame (a : Afa) (k : MarkerKind) (n : Nat) (s : State) :
    WorkFrame s (applyWrittenRun a k n s) := by
  unfold applyWrittenRun
  simp only
  split
  · exact insertEntry_workFrame _ s
  · split
    · exact .refl s
    · constructor <;> first | rfl | exact fun _ => .refl _ | exact (raiseEvent_seqFrame _ _).ports

theorem removeWritten_workFrame (a : Afa) (s : State) : WorkFrame s (removeWritten a s) := by
  unfold removeWritten
  split
  · constructor <;> first | rfl | exact fun _ => .refl _ | exact (raiseEvent_seqFrame _ _).ports
  · exact .refl s

theorem handWritten_workFrame (a : Afa) (p : ProgramPack) (s : State) : WorkFrame s (handWritten a p s) := by
  unfold handWritten
  repeat' split
  all_goals first
    | exact applyWrittenRun_workFrame _ _ _ s
    | exact removeWritten_workFrame _ s

/-! ### Tracks sent, closes and the gate -/

theorem trackASent_workFrame (s : State) : WorkFrame s (trackASent s) := by
  unfold trackASent
  split
  · refine WorkFrame.trans ?_ (handWritten_workFrame _ _ _)
    constructor <;> first | rfl | exact fun _ => .refl _
  · exact .refl s

theorem writeComplete_workFrame (s : State) : WorkFrame s (writeComplete s) := by
  unfold writeComplete
  split
  · constructor <;> first | rfl | exact fun _ => .refl _
  · exact .refl s

theorem closeGate_workFrame (s : State) : WorkFrame s (closeGate s) := by
  unfold closeGate
  refine WorkFrame.trans ?_ (gateClosedReport_seqFrame _).work
  refine WorkFrame.trans ?_ (reselect_seqFrame _).work
  constructor <;> first | rfl | exact fun _ => .refl _ | exact (raiseEvent_seqFrame _ _).ports

theorem normalClose_workFrame (s : State) : WorkFrame s (normalClose s) := by
  unfold normalClose
  split
  · exact closeGate_workFrame s
  · exact .refl s

theorem forcedClose_workFrame (s : State) : WorkFrame s (forcedClose s) := by
  unfold forcedClose
  split
  · exact closeGate_workFrame s
  · exact .refl s

theorem finishSending_workFrame (s : State) : WorkFrame s (finishSending s) :=
  (((trackASent_workFrame s).trans (forcedClose_workFrame _)).trans (writeComplete_workFrame _)).trans
    (forcedClose_workFrame _)

theorem openGate_workFrame (sp : Span) (s : State) : WorkFrame s (openGate sp s) := by
  unfold openGate
  refine WorkFrame.trans ?_ (reselect_seqFrame _).work
  constructor <;> first | rfl | exact fun _ => .refl _ | exact (raiseEvent_seqFrame _ _).ports

theorem refuseOpen_workFrame (s : State) : WorkFrame s (refuseOpen s) := by
  unfold refuseOpen
  refine WorkFrame.trans ?_ (seqRefused_seqFrame _ _ _).work
  constructor <;> first | rfl | exact fun _ => .refl _

theorem gateTest_workFrame (s : State) : WorkFrame s (gateTest s) := by
  unfold gateTest
  repeat' split
  all_goals first
    | exact .refl s
    | exact openGate_workFrame _ s
    | exact refuseOpen_workFrame s

theorem startSending_workFrame (s : State) : WorkFrame s (startSending s) := by
  unfold startSending
  simp only
  split
  · constructor <;> first | rfl | exact fun _ => .refl _
  · exact .refl s

/-! ### Building -/

theorem noteBuilt_settings (f : FrameNo) (sp : Span) (m : Formatter) :
    ∃ p o, noteBuilt f sp m = { m with pendingOpen := p, openSpan := o } := by
  unfold noteBuilt
  split
  · split
    · exact ⟨_, _, rfl⟩
    · exact ⟨_, _, rfl⟩
  · exact ⟨_, _, rfl⟩

theorem beginBuild_workFrame (f : FrameNo) (sp : Span) (o : OldFrame) (s : State) :
    WorkFrame s (beginBuild f sp o s) := by
  unfold beginBuild
  simp only
  obtain ⟨p, o', h⟩ := noteBuilt_settings f
    { sp with prev := some (spanAfa sp,
      (programFor s sp o ((runFor s sp (spanAfa sp)).filter fun r => r.next < 100)).number) } s.formatter
  rw [h]
  constructor <;> first | rfl | exact fun _ => .refl _

theorem buildStop_workFrame (sp : Span) (k : ErrorKind) (d : ErrorDetail) (s : State) :
    WorkFrame s (buildStop sp k d s) := by
  unfold buildStop
  split
  · refine WorkFrame.trans ?_ (seqRefused_seqFrame _ _ _).work
    constructor <;> first | rfl | exact fun _ => .refl _
  · exact ((closeRequest_seqFrame _ s).trans (seqLaterStop_seqFrame _ _ _)).work

theorem buildStart_workFrame (s : State) : WorkFrame s (buildStart s) := by
  unfold buildStart
  simp only
  repeat' split
  all_goals first
    | exact .refl s
    | exact buildStop_workFrame _ _ _ s
    | exact beginBuild_workFrame _ _ _ s

theorem buildComplete_workFrame (s : State) : WorkFrame s (buildComplete s) := by
  unfold buildComplete
  repeat' split
  all_goals first
    | exact .refl s
    | (constructor <;> first | rfl | exact fun _ => .refl _)

theorem buildAtTick_workFrame (s : State) : WorkFrame s (buildAtTick s) := by
  unfold buildAtTick
  split <;> first | exact .refl s | (constructor <;> first | rfl | exact fun _ => .refl _)

/-! ### Written list and CONFIRM -/

theorem confirmFailed_seqFrame (c : ConfirmCause) (a : Afa) (s : State) : SeqFrame s (confirmFailed c a s) :=
  evaluate_seqFrame _ _ s

theorem timeoutEntry_workFrame (w : WrittenFrame) (s : State) : WorkFrame s (timeoutEntry w s) := by
  unfold timeoutEntry
  simp only
  split
  · constructor <;> first | rfl | exact fun _ => .refl _
  · split
    · refine WorkFrame.trans ?_ (confirmFailed_seqFrame _ _ _).work
      constructor <;> first | rfl | exact fun _ => .refl _
    · constructor <;> first | rfl | exact fun _ => .refl _

theorem timeoutFold_workFrame (l : List WrittenFrame) :
    ∀ s : State, WorkFrame s (l.foldl (fun s w => timeoutEntry w s) s) := by
  induction l with
  | nil => exact fun s => .refl s
  | cons w l ih => exact fun s => (timeoutEntry_workFrame w s).trans (ih _)

theorem writtenTimeout_workFrame (s : State) : WorkFrame s (writtenTimeout s) := timeoutFold_workFrame _ s

theorem dropUnchecked_workFrame (s : State) : WorkFrame s (dropUnchecked s) := by
  constructor <;> first | rfl | exact fun _ => .refl _

/-! ### Fades, runs, records, switches -/

theorem mapBlend_workFrame (ch : Channel) (f : BlendChannel → BlendChannel) (s : State) :
    WorkFrame s (mapBlend ch f s) := by
  constructor <;> first | rfl | exact fun _ => .refl _

theorem settleFades_workFrame (s : State) : WorkFrame s (settleFades s) := by
  constructor <;> first | rfl | exact fun _ => .refl _

theorem fadeOutEnd_workFrame (s : State) : WorkFrame s (fadeOutEnd s) := by
  unfold fadeOutEnd
  split
  · refine WorkFrame.trans ?_ (fadeOutReport_seqFrame _ _).work
    constructor <;> first | rfl | exact fun _ => .refl _
  · exact .refl s

theorem runEnd_workFrame (s : State) : WorkFrame s (runEnd s) := by
  unfold runEnd
  split
  · refine WorkFrame.trans ?_ (markRunReport_seqFrame _ _).work
    constructor <;> first | rfl | exact fun _ => .refl _
  · exact .refl s

theorem txRecord_workFrame (s : State) : WorkFrame s (txRecord s) := by
  unfold txRecord
  split
  · constructor <;> first | rfl | exact fun _ => .refl _
  · exact .refl s

theorem endSwitch_workFrame (s : State) : WorkFrame s (endSwitch s) := by
  unfold endSwitch
  repeat' split
  all_goals first
    | exact .refl s
    | (constructor <;> first | rfl | exact fun _ => .refl _)

theorem expireCandidate_workFrame (s : State) : WorkFrame s (expireCandidate s) := by
  unfold expireCandidate
  split
  · constructor <;> first | rfl | exact fun _ => .refl _
  · exact .refl s

theorem settleRepair_workFrame (s : State) : WorkFrame s (settleRepair s) := by
  constructor <;> first | rfl | exact fun _ => .refl _

/-- Every step that is due, together. -/
theorem settleDue_workFrame (s : State) : WorkFrame s (settleDue s) := by
  unfold settleDue
  exact (dropUnchecked_workFrame s).trans <| (writtenTimeout_workFrame _).trans <|
    (expireCandidate_workFrame _).trans <| (runEnd_workFrame _).trans <| (buildComplete_workFrame _).trans <|
    (settleFades_workFrame _).trans <| (fadeOutEnd_workFrame _).trans <| (normalClose_workFrame _).trans <|
    (forcedClose_workFrame _).trans <| (gateTest_workFrame _).trans <| (txRecord_workFrame _).trans <|
    (endSwitch_workFrame _).trans (settleRepair_workFrame _)

/-- The end of a frame period before its tick. -/
theorem beforeTick_workFrame (s : State) : WorkFrame s (beforeTick s) :=
  (settleDue_workFrame s).trans (finishSending_workFrame _)

end Sys2Proof.Machine
end

