-- ==== Sys2Proof/Laws/TickFrame.lean ====
section
/-! SUPPORT. What the work of a tick's completions leaves alone: which fault records an evaluation and the sequencer's work can
change (`RecFrame`), and for the tape map, the rights unit, the clog counts and the verify scan an equation that names every
field they may change. One lemma per operation. -/

namespace Sys2Proof.Machine

open Sys2Proof

/-! ### Fault records: an evaluation changes its own kind's, and with it at most INPUT's -/

/-- No record but those of `k` and of INPUT, which follows the selected source (R164), differs. -/
structure RecFrame (k : FaultKind) (s t : State) : Prop where
  get : ∀ j, j ≠ k → j ≠ .input → t.faults.records.get j = s.faults.records.get j

theorem RecFrame.refl (k : FaultKind) (s : State) : RecFrame k s s := ⟨fun _ _ _ => rfl⟩

theorem RecFrame.trans {k : FaultKind} {s t u : State} (h : RecFrame k s t) (g : RecFrame k t u) : RecFrame k s u :=
  ⟨fun j hj hi => (g.get j hj hi).trans (h.get j hj hi)⟩

/-- A frame begun at a state with the same records. -/
theorem RecFrame.start {k : FaultKind} {s u t : State} (g : RecFrame k u t)
    (h : u.faults.records = s.faults.records) : RecFrame k s t := ⟨fun j hj hi => by rw [g.get j hj hi, h]⟩

/-- A frame that ends at a state with the same records. -/
theorem RecFrame.stop {k : FaultKind} {s u t : State} (g : RecFrame k s u)
    (h : t.faults.records = u.faults.records) : RecFrame k s t := ⟨fun j hj hi => by rw [h, g.get j hj hi]⟩

/-- A change of INPUT's record at most is within any kind's frame. -/
theorem RecFrame.widen {s t : State} (h : RecFrame .input s t) (k : FaultKind) : RecFrame k s t :=
  ⟨fun j _ hi => h.get j hi hi⟩

theorem setRecord_recFrame (k : FaultKind) (r : FaultRecord) (s : State) : RecFrame k s (setRecord k r s) :=
  ⟨fun _ hj _ => FaultRecords.get_set_of_ne _ _ _ _ hj⟩

theorem raiseEvent_recFrame (k : FaultKind) (e : Event) (s : State) : RecFrame k s (raiseEvent e s) :=
  (RecFrame.refl k s).stop rfl

theorem faultRaise_recFrame (k : FaultKind) (d : FaultDetail) (s : State) : RecFrame k s (faultRaise k d s) := by
  unfold faultRaise
  simp only
  split
  · exact .refl _ s
  · exact (setRecord_recFrame _ _ s).trans (raiseEvent_recFrame _ _ _)

theorem endAction_recFrame (k : FaultKind) (s : State) : RecFrame k s (endAction k s) := by
  unfold endAction
  simp only
  split
  · exact (setRecord_recFrame _ _ s).trans (raiseEvent_recFrame _ _ _)
  · exact .refl _ s

theorem conditionTo_recFrame (k : FaultKind) (c : Option FaultDetail) (s : State) : RecFrame k s (conditionTo k c s) := by
  unfold conditionTo
  cases c with
  | some d =>
    simp only
    split
    · exact .refl _ s
    · exact (setRecord_recFrame _ _ s).trans (faultRaise_recFrame _ _ _)
  | none =>
    simp only
    split
    · split
      · exact (setRecord_recFrame _ _ s).trans (endAction_recFrame _ _)
      · exact setRecord_recFrame _ _ s
    · exact .refl _ s

theorem reselect_faults (s : State) : (reselect s).faults = s.faults := by
  unfold reselect
  simp only
  repeat' split
  all_goals rfl

theorem reselect_recFrame (k : FaultKind) (s : State) : RecFrame k s (reselect s) :=
  (RecFrame.refl k s).stop (by rw [reselect_faults])

theorem afterSourceChange_recFrame (s0 s : State) : RecFrame .input s (afterSourceChange s0 s) := by
  unfold afterSourceChange
  split
  · exact .refl _ s
  · exact (conditionTo_recFrame _ _ _).start rfl

theorem recordError_faults (kind : ErrorKind) (ph : Phase) (k : Fin 32) (d : ErrorDetail) (s : State) :
    (recordError kind ph k d s).faults = s.faults := by
  unfold recordError
  split <;> rfl

theorem giveUp_recFrame (s : State) : RecFrame .input s (giveUp s) := by
  unfold giveUp
  split
  · refine RecFrame.trans ?_ (reselect_recFrame _ _)
    exact (afterSourceChange_recFrame _ _).start rfl
  · exact (RecFrame.refl _ s).stop rfl

theorem takeEntry_recFrame (k : Fin 32) (s : State) : RecFrame .input s (takeEntry k s) := by
  unfold takeEntry
  refine RecFrame.trans ?_ (reselect_recFrame _ _)
  exact (afterSourceChange_recFrame _ _).start rfl

theorem seqStop_recFrame (kind : ErrorKind) (d : ErrorDetail) (k : Fin 32) (s : State) :
    RecFrame .input s (seqStop kind d k s) := by
  unfold seqStop
  refine RecFrame.trans ?_ (raiseEvent_recFrame _ _ _)
  exact (giveUp_recFrame _).start (by rw [recordError_faults])

theorem endWalk_recFrame (c : CloseKind) (k : Fin 32) (s : State) : RecFrame .input s (endWalk c k s) :=
  (raiseEvent_recFrame _ _ _).start rfl

theorem fetchFound_recFrame (p : Fin 32) (s : State) : RecFrame .input s (fetchFound p s) := by
  unfold fetchFound
  simp only
  split
  · exact (seqStop_recFrame _ _ _ _).start rfl
  · exact (takeEntry_recFrame _ _).start rfl

theorem fetchPass_recFrame (p q : Fin 32) (more : State → State) (hm : ∀ u, RecFrame .input u (more u)) (s : State) :
    RecFrame .input s (fetchPass p q more s) := by
  unfold fetchPass
  simp only
  split
  · exact (seqStop_recFrame _ _ _ _).start rfl
  · split
    · exact (endWalk_recFrame _ _ _).start rfl
    · exact (hm _).start rfl

theorem fetchFrom_recFrame (n : Nat) : ∀ s : State, RecFrame .input s (fetchFrom n s) := by
  induction n with
  | zero => exact fun s => .refl _ s
  | succ n ih =>
    intro s
    unfold fetchFrom
    simp only
    split <;> first | exact fetchPass_recFrame _ _ _ ih s | exact fetchFound_recFrame _ s

theorem complete_recFrame (s : State) : RecFrame .input s (complete s) := by
  unfold complete
  split
  · exact .refl _ s
  · rename_i k e _
    have h : RecFrame .input s (clearPending (giveUp { s with seq := { s.seq with state := .idle, pointer := k } })) :=
      ((giveUp_recFrame _).stop (t := clearPending _) rfl).start rfl
    simp only
    split
    · exact h.trans ((raiseEvent_recFrame _ _ _).start rfl)
    · split
      · exact h.trans (endWalk_recFrame _ _ _)
      · split
        · exact h.trans (endWalk_recFrame _ _ _)
        · split
          · exact h.stop rfl
          · exact h.trans ((fetchFrom_recFrame 34 _).start rfl)

theorem failEntry_recFrame (kind : ErrorKind) (d : ErrorDetail) (k : Fin 32) (s : State) :
    RecFrame .input s (failEntry kind d k s) := by
  unfold failEntry
  refine RecFrame.trans ?_ (raiseEvent_recFrame _ _ _)
  refine (giveUp_recFrame _).start ?_
  show (recordError _ _ _ _ _).faults.records = _
  rw [recordError_faults]

theorem forcedCloseRequest_faults (s : State) : (forcedCloseRequest s).faults = s.faults := by
  unfold forcedCloseRequest
  simp only
  repeat' split
  all_goals rfl

theorem cutClosed_records (s : State) : (cutRequest (forcedCloseRequest s)).faults.records = s.faults.records := by
  show (forcedCloseRequest s).faults.records = _
  rw [forcedCloseRequest_faults]

theorem seqForcedClose_recFrame (kind : ErrorKind) (d : ErrorDetail) (s : State) :
    RecFrame .input s (seqForcedClose kind d s) := by
  unfold seqForcedClose
  split
  · exact .refl _ s
  · split
    · exact (failEntry_recFrame _ _ _ _).start (cutClosed_records s)
    · exact .refl _ s

theorem seqForcedCloseAll_recFrame (kind : ErrorKind) (d : ErrorDetail) (s : State) :
    RecFrame .input s (seqForcedCloseAll kind d s) := by
  unfold seqForcedCloseAll
  split
  · exact .refl _ s
  · split
    · refine (failEntry_recFrame _ _ _ _).start ?_
      split
      · rfl
      · exact cutClosed_records s
    · exact .refl _ s

theorem applyAction_recFrame (k : FaultKind) (s : State) : RecFrame .input s (applyAction k s) := by
  unfold applyAction
  repeat' split
  all_goals first
    | exact .refl _ s
    | exact seqForcedClose_recFrame _ _ s
    | exact seqStop_recFrame _ _ _ s

/-- An evaluation, its action applied, changes the record of its own kind, and INPUT's at most. -/
theorem evaluate_recFrame (k : FaultKind) (c : Option FaultDetail) (s : State) : RecFrame k s (evaluate k c s) := by
  unfold evaluate
  simp only
  split
  · exact (conditionTo_recFrame _ _ s).trans ((applyAction_recFrame _ _).widen k)
  · exact conditionTo_recFrame _ _ s

theorem leftRecord_recFrame (s : State) : RecFrame .input s (leftRecord s) := by
  unfold leftRecord
  split
  · split
    · exact (complete_recFrame _).start (cutClosed_records s)
    · exact seqForcedClose_recFrame _ _ s
  · exact .refl _ s

theorem windowLoss_recFrame (t : Transport) (s : State) : RecFrame .input s (windowLoss t s) := by
  unfold windowLoss
  split
  · split
    · exact leftRecord_recFrame s
    · split
      · exact seqForcedClose_recFrame _ _ s
      · split <;> exact seqForcedClose_recFrame _ _ s
  · exact .refl _ s

/-! ### Tape map and rights unit at a completion -/

/-- The index and its marks are all that a run applied to it changes. -/
theorem applyReadRun_only (a : Afa) (k : MarkerKind) (n : Nat) (s : State) :
    let t := applyReadRun a k n s
    t = { s with ports := t.ports, tapeMap := { s.tapeMap with
      index := t.tapeMap.index, indexFull := t.tapeMap.indexFull, changeCount := t.tapeMap.changeCount } } := by
  unfold applyReadRun insertEntry
  repeat' split
  all_goals rfl

/-- The debounce, and the index through it, are all that a PROGRAM pack changes (R107 to R109). -/
theorem updateDebounce_only (k : Option ProgramPack) (a : Option Afa) (dir : Direction) (s : State) :
    let t := updateDebounce k a dir s
    t = { s with ports := t.ports, tapeMap := { s.tapeMap with
      index := t.tapeMap.index, indexFull := t.tapeMap.indexFull, changeCount := t.tapeMap.changeCount
      debounce := t.tapeMap.debounce } } := by
  unfold updateDebounce
  simp only
  split
  · rename_i r _
    split
    · have h := applyReadRun_only r.start r.kind r.number
        { s with tapeMap := { s.tapeMap with debounce := some { r with applied := true } } }
      simp only at h
      generalize applyReadRun r.start r.kind r.number
        { s with tapeMap := { s.tapeMap with debounce := some { r with applied := true } } } = u at h ⊢
      split
      · rw [h]; rfl
      · rw [h]
    · rfl
  · rfl

/-- The tape map alone is changed by what follows the POSITION pack (R97). -/
theorem tapeMapRest_only (packs : FramePacks) (b : Bool) (fp : Option Afa) (s : State) :
    let t := tapeMapRest packs b fp s
    t = { s with ports := t.ports, tapeMap := { s.tapeMap with
      pos := (s.tapeMap.pos.edit packs.edit).blank b, index := t.tapeMap.index, indexFull := t.tapeMap.indexFull
      changeCount := t.tapeMap.changeCount, debounce := t.tapeMap.debounce } } :=
  updateDebounce_only _ _ _ _

/-- The tape rights, their candidate and the word are all that a RIGHTS pack changes (R154, R155). -/
theorem takeRightsPack_only (k : Option RightsPack) (s : State) :
    let t := takeRightsPack k s
    t = { s with
      ports := t.ports
      rights := { s.rights with tape := t.rights.tape, candidate := t.rights.candidate, word := t.rights.word }
      outputs := { s.outputs with txWorst := t.outputs.txWorst } } := by
  unfold takeRightsPack setTapeRights
  repeat' split
  all_goals rfl

/-! ### Clog counts -/

/-- What the clog counts change: the heads and the CLOG record. -/
def ClogOnly (s t : State) : Prop :=
  t = { s with ports := t.ports, faults := { s.faults with
    heads := t.faults.heads, records := { s.faults.records with clog := t.faults.records.clog } } }

theorem ClogOnly.trans {s t u : State} (h : ClogOnly s t) (k : ClogOnly t u) : ClogOnly s u := by
  unfold ClogOnly at *
  rw [k, h]

theorem clogTallyHead_only (path : ReadPath) (t : Track) (h : HeadTally) (s : State) :
    ClogOnly s (clogTallyHead path t h s) := by
  unfold clogTallyHead raiseHead faultRaise
  simp only
  repeat' split
  all_goals first
    | rfl
    | (unfold endHeadAction; simp only; split <;> rfl)

/-- A tally's clog counts change the heads and the CLOG record alone (R165). -/
theorem clogTally_only (path : ReadPath) (t : Tally) (s : State) : ClogOnly s (clogTally path t s) :=
  (clogTallyHead_only _ _ _ _).trans (clogTallyHead_only _ _ _ _)

/-! ### Verify scan -/

/-- The verify record alone is changed by a scan's step (R175, R176). -/
theorem verifyStep_only (path : ReadPath) (scan : Option Afa) (j : Bool) (t : Tally) (s : State) :
    let u := verifyStep path scan j t s
    u = { s with ports := u.ports, faults := { s.faults with verify := u.faults.verify } } := by
  unfold verifyStep verifyCheck
  simp only
  repeat' split
  all_goals rfl

/-- The verify record alone is changed by a range change (R177). -/
theorem verifyRange_only (t : Transport) (s : State) :
    let u := verifyRange t s
    u = { s with ports := u.ports, faults := { s.faults with verify := u.faults.verify } } := by
  unfold verifyRange
  simp only
  split <;> rfl

end Sys2Proof.Machine
end

