-- ==== Sys2Proof/Laws/WalkFrame.lean ====
section
/-! SUPPORT. What the walk of the edit list leaves alone at the record formatter: takes, give-ups, fetches, completions and errors
change nothing there but the input FIFO, the held pair and the new-path concealers (R35). And what each of them leaves in the
sequencer. -/

namespace Sys2Proof.Machine

open Sys2Proof

/-- Nothing at the formatter differs but the FIFO, the held pair and the concealers. -/
structure WalkFrame (s t : State) : Prop where
  formatter : t.formatter = { s.formatter with
    fifo := t.formatter.fifo, fifoState := t.formatter.fifoState, heldPair := t.formatter.heldPair
    concealL := t.formatter.concealL, concealR := t.formatter.concealR }

theorem WalkFrame.refl (s : State) : WalkFrame s s := ⟨rfl⟩

theorem WalkFrame.of_eq {s t : State} (h : t.formatter = s.formatter) : WalkFrame s t := ⟨by rw [h]⟩

theorem WalkFrame.trans {s t u : State} (h : WalkFrame s t) (k : WalkFrame t u) : WalkFrame s u :=
  ⟨by rw [k.formatter, h.formatter]⟩

theorem raiseEvent_walkFrame (e : Event) (s : State) : WalkFrame s (raiseEvent e s) := .of_eq rfl

theorem clearPending_walkFrame (s : State) : WalkFrame s (clearPending s) := .of_eq rfl

theorem reselect_formatter (s : State) : (reselect s).formatter = s.formatter := by
  unfold reselect
  simp only
  split
  · split <;> rfl
  · rfl

theorem faultRaise_formatter (k : FaultKind) (d : FaultDetail) (s : State) :
    (faultRaise k d s).formatter = s.formatter := by
  unfold faultRaise
  simp only
  split <;> rfl

theorem endAction_formatter (k : FaultKind) (s : State) : (endAction k s).formatter = s.formatter := by
  unfold endAction
  simp only
  split <;> rfl

theorem conditionTo_formatter (k : FaultKind) (c : Option FaultDetail) (s : State) :
    (conditionTo k c s).formatter = s.formatter := by
  unfold conditionTo
  simp only
  split
  · split
    · rfl
    · rw [faultRaise_formatter]; rfl
  · split
    · split
      · rw [endAction_formatter]; rfl
      · rfl
    · rfl

theorem afterSourceChange_walkFrame (s0 s : State) : WalkFrame s (afterSourceChange s0 s) := by
  unfold afterSourceChange
  simp only
  split
  · exact .refl s
  · constructor
    unfold evaluateInput
    rw [conditionTo_formatter]
    rfl

theorem giveUp_walkFrame (s : State) : WalkFrame s (giveUp s) := by
  unfold giveUp
  split
  · refine WalkFrame.trans ?_ (.of_eq (reselect_formatter _))
    refine WalkFrame.trans ?_ (afterSourceChange_walkFrame s _)
    exact .of_eq rfl
  · exact .of_eq rfl

theorem takeEntry_walkFrame (k : Fin 32) (s : State) : WalkFrame s (takeEntry k s) := by
  unfold takeEntry
  refine WalkFrame.trans ?_ (.of_eq (reselect_formatter _))
  refine WalkFrame.trans ?_ (afterSourceChange_walkFrame s _)
  exact .of_eq rfl

theorem recordError_formatter (kind : ErrorKind) (ph : Phase) (k : Fin 32) (d : ErrorDetail) (s : State) :
    (recordError kind ph k d s).formatter = s.formatter := by
  unfold recordError
  split <;> rfl

theorem seqStop_walkFrame (kind : ErrorKind) (d : ErrorDetail) (k : Fin 32) (s : State) :
    WalkFrame s (seqStop kind d k s) := by
  unfold seqStop
  refine WalkFrame.trans ?_ (raiseEvent_walkFrame _ _)
  refine WalkFrame.trans ?_ (giveUp_walkFrame _)
  exact .of_eq (recordError_formatter _ _ _ _ _)

theorem failEntry_walkFrame (kind : ErrorKind) (d : ErrorDetail) (k : Fin 32) (s : State) :
    WalkFrame s (failEntry kind d k s) := by
  unfold failEntry
  refine WalkFrame.trans ?_ (raiseEvent_walkFrame _ _)
  refine WalkFrame.trans ?_ (giveUp_walkFrame _)
  exact .of_eq (recordError_formatter _ _ _ _ _)

theorem fetchFound_walkFrame (p : Fin 32) (s : State) : WalkFrame s (fetchFound p s) := by
  unfold fetchFound
  simp only
  split
  · refine WalkFrame.trans ?_ (seqStop_walkFrame _ _ _ _)
    exact .of_eq rfl
  · refine WalkFrame.trans ?_ (takeEntry_walkFrame _ _)
    exact .of_eq rfl

theorem fetchFrom_walkFrame (n : Nat) : ∀ s : State, WalkFrame s (fetchFrom n s) := by
  induction n with
  | zero => exact .refl
  | succ n ih =>
    have pass : ∀ (p q : Fin 32) (s : State), WalkFrame s (fetchPass p q (fetchFrom n) s) := by
      intro p q s
      unfold fetchPass
      simp only
      split
      · refine WalkFrame.trans ?_ (seqStop_walkFrame _ _ _ _)
        exact .of_eq rfl
      · split
        · exact .of_eq rfl
        · refine WalkFrame.trans ?_ (ih _)
          exact .of_eq rfl
    intro s
    unfold fetchFrom
    simp only
    split <;> first | exact pass _ _ s | exact fetchFound_walkFrame _ s

theorem fetch_walkFrame (s : State) : WalkFrame s (fetch s) := fetchFrom_walkFrame 34 s

theorem complete_walkFrame (s : State) : WalkFrame s (complete s) := by
  unfold complete
  split
  · exact .refl s
  · rename_i k e _
    simp only
    have h : WalkFrame s (clearPending (giveUp { s with seq := { s.seq with state := .idle, pointer := k } })) := by
      refine WalkFrame.trans ?_ (clearPending_walkFrame _)
      refine WalkFrame.trans ?_ (giveUp_walkFrame _)
      exact .of_eq rfl
    refine h.trans ?_
    repeat' split
    all_goals first
      | exact .of_eq rfl
      | (refine WalkFrame.trans ?_ (fetch_walkFrame _); exact .of_eq rfl)

/-! ### Fetches -/

/-- One entry of a fetch (R123). -/
theorem fetchFrom_succ (n : Nat) (s : State) : fetchFrom (n + 1) s =
    match entryAction s.editList[s.seq.pointer] with
    | .nop => fetchPass s.seq.pointer (nextEntry s.seq.pointer) (fetchFrom n) s
    | .link => fetchPass s.seq.pointer (entryTarget s.editList[s.seq.pointer]) (fetchFrom n) s
    | .punch => fetchFound s.seq.pointer s
    | .assemble => fetchFound s.seq.pointer s
    | .mark => fetchFound s.seq.pointer s := rfl

/-- The guard stops a fetch before its fuel does. -/
theorem fetchFrom_fuel : ∀ (n m : Nat) (s : State), 34 ≤ n + 1 + s.seq.guard → 34 ≤ m + 1 + s.seq.guard →
    fetchFrom (n + 1) s = fetchFrom (m + 1) s := by
  intro n
  induction n with
  | zero =>
    intro m s hn _
    have pass : ∀ p q, fetchPass p q (fetchFrom 0) s = fetchPass p q (fetchFrom m) s := by
      intro p q
      unfold fetchPass
      simp only
      rw [if_pos (by omega), if_pos (by omega)]
    rw [fetchFrom_succ, fetchFrom_succ]
    split <;> first | exact pass _ _ | rfl
  | succ n ih =>
    intro m s hn hm
    have pass : ∀ p q, fetchPass p q (fetchFrom (n + 1)) s = fetchPass p q (fetchFrom m) s := by
      intro p q
      unfold fetchPass
      simp only
      split
      · rfl
      · split
        · rfl
        · obtain ⟨m, rfl⟩ : ∃ k, m = k + 1 := ⟨m - 1, by omega⟩
          exact ih m _ (by simp only; omega) (by simp only; omega)
    rw [fetchFrom_succ, fetchFrom_succ]
    split <;> first | exact pass _ _ | rfl

/-- A fetch passes a NOP or LINK without an end flag and goes on as a fetch. -/
theorem fetch_eq (s : State) : fetch s =
    match entryAction s.editList[s.seq.pointer] with
    | .nop => fetchPass s.seq.pointer (nextEntry s.seq.pointer) fetch s
    | .link => fetchPass s.seq.pointer (entryTarget s.editList[s.seq.pointer]) fetch s
    | .punch => fetchFound s.seq.pointer s
    | .assemble => fetchFound s.seq.pointer s
    | .mark => fetchFound s.seq.pointer s := by
  have pass : ∀ p q, fetchPass p q (fetchFrom 33) s = fetchPass p q fetch s := by
    intro p q
    unfold fetchPass
    simp only
    split
    · rfl
    · split
      · rfl
      · exact fetchFrom_fuel 32 33 _ (by simp only; omega) (by simp only; omega)
  show fetchFrom 34 s = _
  rw [fetchFrom_succ]
  split <;> first | exact pass _ _ | rfl

/-! ### The sequencer after a take, a give-up or an error -/

theorem reselect_seq (s : State) : (reselect s).seq = s.seq := by
  unfold reselect
  simp only
  split
  · split <;> rfl
  · rfl

theorem faultRaise_seq (k : FaultKind) (d : FaultDetail) (s : State) : (faultRaise k d s).seq = s.seq := by
  unfold faultRaise
  simp only
  split <;> rfl

theorem endAction_seq (k : FaultKind) (s : State) : (endAction k s).seq = s.seq := by
  unfold endAction
  simp only
  split <;> rfl

theorem conditionTo_seq (k : FaultKind) (c : Option FaultDetail) (s : State) : (conditionTo k c s).seq = s.seq := by
  unfold conditionTo
  simp only
  split
  · split
    · rfl
    · rw [faultRaise_seq]; rfl
  · split
    · split
      · rw [endAction_seq]; rfl
      · rfl
    · rfl

theorem afterSourceChange_seq (s0 s : State) : (afterSourceChange s0 s).seq = s.seq := by
  unfold afterSourceChange
  simp only
  split
  · rfl
  · unfold evaluateInput
    rw [conditionTo_seq]
    rfl

/-- A give-up leaves no held entry and no kept entry, and the rest of the sequencer as it was (R121). -/
theorem giveUp_seq (s : State) : (giveUp s).seq = { s.seq with held := none, kept := false } := by
  unfold giveUp
  split
  · rw [reselect_seq, afterSourceChange_seq]
    rfl
  · rename_i h
    have : s.seq.held = none := by simpa using h
    rw [← this]

theorem takeEntry_seq (k : Fin 32) (s : State) : (takeEntry k s).seq =
    { s.seq with state := .armed, pointer := k, held := some k, kept := false, baked := 0 } := by
  unfold takeEntry
  rw [reselect_seq, afterSourceChange_seq]

/-- The error record after an error: the first stands, except that UNLOADED replaces it (R142, R137). -/
theorem recordError_seq (kind : ErrorKind) (ph : Phase) (k : Fin 32) (d : ErrorDetail) (s : State) :
    (recordError kind ph k d s).seq = { s.seq with
      error := if s.seq.error.isSome ∧ kind ≠ .unloaded then s.seq.error else some ⟨kind, ph, k, d, knownAfa s⟩ } := by
  unfold recordError
  split <;> rfl

/-- A stop of phase FETCH (R142). -/
theorem seqStop_seq (kind : ErrorKind) (d : ErrorDetail) (k : Fin 32) (s : State) :
    (seqStop kind d k s).seq = { s.seq with
      state := .fault, pointer := k, held := none, kept := false
      error := if s.seq.error.isSome ∧ kind ≠ .unloaded then s.seq.error else some ⟨kind, .fetch, k, d, knownAfa s⟩ } := by
  unfold seqStop
  show (giveUp _).seq = _
  rw [giveUp_seq, recordError_seq]
  rfl

/-- The end of an entry with an error of phase RUN (R129, R137). -/
theorem failEntry_seq (kind : ErrorKind) (d : ErrorDetail) (k : Fin 32) (s : State) :
    (failEntry kind d k s).seq = { s.seq with
      state := .fault, pointer := k, held := none, kept := false, holdPending := false, abortPending := false
      error := if s.seq.error.isSome ∧ kind ≠ .unloaded then s.seq.error
        else some ⟨kind, .run, nextEntry k, d, knownAfa s⟩ } := by
  unfold failEntry
  show (giveUp (clearPending _)).seq = _
  rw [giveUp_seq]
  show { (recordError _ _ _ _ _).seq with held := none, kept := false, holdPending := false, abortPending := false } = _
  rw [recordError_seq]
  rfl

/-! ### The blend unit after a give-up -/

theorem reselect_blend (s : State) : (reselect s).blend = s.blend := by
  unfold reselect
  simp only
  split
  · split <;> rfl
  · rfl

theorem faultRaise_blend (k : FaultKind) (d : FaultDetail) (s : State) : (faultRaise k d s).blend = s.blend := by
  unfold faultRaise
  simp only
  split <;> rfl

theorem endAction_blend (k : FaultKind) (s : State) : (endAction k s).blend = s.blend := by
  unfold endAction
  simp only
  split <;> rfl

theorem conditionTo_blend (k : FaultKind) (c : Option FaultDetail) (s : State) : (conditionTo k c s).blend = s.blend := by
  unfold conditionTo
  simp only
  split
  · split
    · rfl
    · rw [faultRaise_blend]; rfl
  · split
    · split
      · rw [endAction_blend]; rfl
      · rfl
    · rfl

theorem afterSourceChange_blend (s0 s : State) : (afterSourceChange s0 s).blend = s.blend := by
  unfold afterSourceChange
  simp only
  split
  · rfl
  · unfold evaluateInput
    rw [conditionTo_blend]
    rfl

/-- A give-up of a held entry releases the blend unit (R89). -/
theorem giveUp_blend (s : State) : (giveUp s).blend = if s.seq.held.isSome then (releaseBlend s).blend else s.blend := by
  unfold giveUp
  split
  · rw [reselect_blend, afterSourceChange_blend]
    rfl
  · rfl

end Sys2Proof.Machine
end

