-- ==== Sys2Proof/Tests/Slice0.lean ====
section
/-! SUPPORT. Tests: the smoke test of `Instr.wellFormed`, the manual's worked values, one step of commands on small states,
and for every statement with hypotheses a state and operands that meet them, `test_hyp_<Name>`, clause by clause at
boundary values. Each expected value stands in the rule or worked example named. -/

namespace Sys2Proof.Tests

open Sys2Proof Sys2Proof.Machine

/-! ## Small states -/

/-- Port 1 holds both claims. -/
def claimed : State := { State.reset with claims := ⟨some .p1, some .p1⟩ }

/-- Port 1 waits for the rise after a reset. -/
def waiting : State :=
  { State.reset with ports := State.reset.ports.set .p1 { PortContext.reset with select := .waitRise } }

/-- A transport inside the write window (R28), ten ticks after reset. -/
def recording : Transport :=
  { mode := .record, lock := true, prot := false, history := ⟨20000, 20000, 20000, 20000⟩, stalled := false
    ratio := 1000, dir := .forward, tick := 10 }

/-- A PUNCH RECORD of both channels from 100 to 105, fade codes 0, end flag clear. -/
def punch : EditEntry :=
  { emptyEntry with action := 1, endFlag := false, inPresent := true, inAfa := 100, outPresent := true, outAfa := 105 }

/-- Port 1 holds the claims, entry 0 is `e` and held in state `st`, inside the write window with writing enabled. -/
def holding (e : EditEntry) (st : SeqState) : State :=
  { claimed with
    transport := recording, editList := State.reset.editList.set 0 e
    seq := { Sequencer.reset with state := st, held := some 0 }
    formatter := { Formatter.reset with writeEnable := true } }

/-- `holding` with the gate OPEN. -/
def writing (e : EditEntry) (st : SeqState) : State :=
  { holding e st with formatter := { Formatter.reset with writeEnable := true, gate := .opened } }

/-- A state with one port context at Port 1 that reports every event. -/
def reporting (s : State) : State := { s with ports := s.ports.set .p1 { s.ports.p1 with report := 0x1FFF } }

/-- A Boolean finding about the next state of a command; false when it gives none. -/
def after (c : Instr) (s : State) (f : State → Bool) : Bool :=
  match exec c s with
  | .next t => f t
  | .fault .. => false
  | .refused .. => false

/-! ## Well-formed terms and command frames -/

/-- A block header written out from R200: block 2, track A, AFA low bits 0. -/
def header2 : BlockHeader := ⟨32, 0, 991⟩

theorem test_wellFormed_refuses :
    (Instr.blockArrival ⟨.pre, .a, .first, header2, .clean, List.replicate 39 0⟩).wellFormed = false ∧
    (Instr.blockArrival ⟨.pre, .a, .first, header2, .clean, List.replicate 41 0⟩).wellFormed = false ∧
    (Instr.unknownOpcode .p1 0x00).wellFormed = false ∧ (Instr.unknownOpcode .p2 0x80).wellFormed = false := by decide

theorem test_wellFormed_accepts :
    (Instr.blockArrival ⟨.pre, .a, .first, header2, .clean, List.replicate 40 0⟩).wellFormed = true ∧
    (Instr.unknownOpcode .p1 0x07).wellFormed = true ∧ (Instr.unknownOpcode .p1 0x17).wellFormed = true := by decide

/-- The fields of R199 written one after another: entry 3, PUNCH, end flag, RECORD, LEFT, DIGITAL, fade codes 2 and 3, START
7, in 30 000 + 480, out 30 100 + 959, start absent; the six bits not read are ones. -/
theorem test_decode_editWrite : decodeExchange .p3 128 0x40199a680f075307820eb29df800003f#128 =
    .editWrite .p3 3
      { action := 1, endFlag := true, mode := 0, channels := 1, source := 1, fadeIn := 2, fadeOut := 3, markerKind := 1
        markerNumber := 7, inPresent := true, inAfa := 30000, inOffset := 480, outPresent := true, outAfa := 30100
        outOffset := 959, startPresent := false, startAfa := 0 } := by decide

/-- EDIT READ of entry 5, part 1, the bits not read ones (R199). -/
theorem test_decode_editRead :
    decodeExchange .p1 128 0x122FFFFFFFFFFFFFFFFFFFFFFFFFFFFF#128 = .editRead .p1 5 true := by decide

/-- VERIFY START: source CONF, start 20 000 present, stop 30 211 with the four bits above it ignored, threshold 4, loop (R174,
R194, R197). -/
theorem test_decode_verifyStart : decodeExchange .p2 128 0x180180004E20F0760304010000000000#128 =
    .verifyStart .p2 1 (some 20000) 30211 4 true := by decide

/-- SET REPAIR with P and U given, H and M left out (R85, R197). -/
theorem test_decode_setRepair : decodeExchange .p1 128 0x51800500FF00FFFF8003000000000000#128 =
    .setRepair .p1 (some 5) none none (some 0x300) := by decide

/-- REPORT SET with the report-enable set alone, then the attention-enable set alone (R191, R197). -/
theorem test_decode_reportSet :
    decodeExchange .p1 128 0x04801FFF000000000000000000000000#128 = .reportSet .p1 (some 0x1FFF) none ∧
    decodeExchange .p1 128 0x04000000800001000000000000000000#128 = .reportSet .p1 none (some 1) := by decide

theorem test_decodeTableWord_spells_nothing : decodeTableWord 128 0 = none ∧ decodeTableWord 8 255 = none := by decide

/-! ## Worked values of the manual -/

/-- R4. -/
theorem test_symbols :
    [(0 : Int), 1000, 524287, -1, -524288, -2000].map (fun v => ((highSymbol v).toNat, (lowSymbol v).toNat)) =
      [(0, 0), (0, 1000), (511, 1023), (1023, 1023), (512, 0), (1022, 48)] := by decide

/-- R5. -/
theorem test_matrix_places :
    [0, 1, 10, 49].map (fun n => (colPair n, rowOf n)) = [(0, 0), (0, 5), (0, 2), (1, 5)] ∧
    (List.range 12).map residue = [0, 29, 10, 39, 20, 1, 30, 11, 40, 21, 2, 31] := by decide

/-- R25 and the worked sequence of chapter 2. -/
theorem test_speed_ratios :
    speedRatio false ⟨20000, 65535, 65535, 40000⟩ = 419 ∧ speedRatio false ⟨65535, 65535, 40000, 22000⟩ = 414 ∧
    speedRatio false ⟨65535, 40000, 22000, 20500⟩ = 540 ∧ speedRatio false ⟨40000, 22000, 20500, 20000⟩ = 780 ∧
    speedRatio false ⟨22000, 20500, 20000, 20000⟩ = 970 ∧ speedRatio false ⟨20500, 20000, 20000, 20000⟩ = 994 := by
  decide

/-- R36. -/
theorem test_conversion :
    ([8388607, 8388600, 8388599, 24, 23, -8, -9, -8388608].map fun v : Int => convert24 (BitVec.ofInt 24 v)) =
      [524287, 524287, 524287, 2, 1, 0, -1, -524288] := by decide

/-- Chapter 5, short gap; the last value is the one of b = −2001. -/
theorem test_interpolation :
    [1, 2, 3].map (interpolate 1000 (-2000) 3) = [250, -500, -1250] ∧ interpolate 1000 (-2001) 3 1 = 250 := by decide

/-- Chapter 5, long gap: ramp steps 1, 2, 63, 64 and recovery steps 1, 2, 128, 256. -/
theorem test_ramps :
    [1, 2, 63, 64].map (fun j => rampValue 8192 (muteGain 4096 64 j)) = [8064, 7936, 128, 0] ∧
    [1, 2, 128, 256].map (fun j => rampValue 8000 (recoveryGain 0 256 j)) = [31, 63, 4000, 8000] := by decide

/-- Chapter 5, a fade-in of 64 samples and the abort during a fade-in. -/
theorem test_crossfades :
    [0, 16, 32, 48, 63].map (fun k => blendValue 100000 (-40000) (fadeWeight ⟨.fadeIn, 64, k⟩)) =
      [100000, 65000, 30000, -5000, -37812] ∧
    blendValue 100000 (-40000) 4096 = -40000 ∧ blendValue 524287 524287 1234 = 524287 ∧
    startFade .fadeOut 512 1600 = ⟨.fadeOut, 512, 312⟩ ∧
    [312, 313, 511].map (fun k => fadeWeight ⟨.fadeOut, 512, k⟩) = [1600, 1592, 8] := by decide

/-- Chapter 1, two damaged tracks: rows FLAGGED or LOST as listed there, every other block CLEAN. -/
def damaged : List Nat → List TrackRow :=
  fun bad => (List.range 56).map fun r => ⟨List.replicate 40 0, bad.contains r⟩

/-- Chapter 1: track A has no uncorrectable column, track B 36 at 44K1 and 40 at 48K. -/
theorem test_damaged_tracks :
    uncorrectableColumns .r44k1 (damaged [18, 19, 20, 21, 22, 49, 50]) = 0 ∧
    uncorrectableColumns .r44k1 (damaged [2, 3, 4, 5, 6, 7, 8, 9, 10, 11]) = 36 ∧
    uncorrectableColumns .r48k (damaged [2, 3, 4, 5, 6, 7, 8, 9, 10, 11]) = 40 := by decide +kernel

/-- Chapter 6: the index of the worked example, and AUTO at 25 000. -/
theorem test_auto_number :
    autoNumber [⟨10000, .start, 1, .read⟩, ⟨20000, .start, 2, .read⟩, ⟨30100, .start, 4, .read⟩, ⟨45000, .start, 3, .read⟩]
      25000 = 3 := by decide

/-- Chapter 11, one response on the wire. -/
theorem test_response_frame :
    let c : PortContext := { PortContext.reset with response := ⟨.ok, 0x42, .seqState .recording⟩, resetFlag := false }
    let r : FaultRecord := { FaultRecord.reset .latched with action := true, present := true, seen := true }
    let s : State := { writing punch .recording with
      ports := State.reset.ports.set .p2 c, claims := ⟨some .p2, none⟩
      faults := { FaultMonitor.reset with records := { FaultRecords.reset with confirm := r } } }
    responseFrame (summaryOf s .p2) c.response = 0x12C80042020000000000000000000000#128 := by decide

/-! ## One step on a small state -/

/-- Chapter 2, worked sequence: a timeout at 65 535 µs sets STALLED with ratio 0; the tick after it reads 419. -/
theorem test_stall_and_restart :
    after .stallTimeout { State.reset with transport := recording }
      (fun t => t.transport.stalled && t.transport.ratio == 0 && t.transport.history == ⟨20000, 20000, 20000, 65535⟩) ∧
    after (.frameTick .forward 40000)
      { State.reset with transport := { recording with history := ⟨20000, 20000, 65535, 65535⟩, stalled := true } }
      (fun t => !t.transport.stalled && t.transport.ratio == 419) := by decide +kernel

/-- Chapter 6, a jump in the recorded addresses: the third, fifth and last completions of the table. -/
theorem test_jump_accepted :
    let p : PositionRecord := { PositionRecord.reset with state := .read, afa := 12001, rate := some .r48k, framesSince := 0 }
    let q := (p.handle (some ⟨40000, .r48k⟩)).1
    let r := (q.tick .forward).1
    q.state = .reckoned ∧ q.afa = 12001 ∧ q.candidate = some ⟨40000, 0⟩ ∧ q.framesSince = 1 ∧
    r.afa = 12002 ∧ r.candidate = some ⟨40001, 1⟩ ∧
    ((r.handle (some ⟨40001, .r48k⟩)).1.afa, (r.handle (some ⟨40001, .r48k⟩)).1.state) = (40001, .read) ∧
    ((q.tick .forward).1.handle (some ⟨12002, .r48k⟩)).1.candidate = none := by decide

/-- A frame whose run index 0 carries START 3 at AFA 25 000, its track A being sent; the index of chapter 6. -/
def sendingMarker (afa : Afa) (k : ProgramPack) : State :=
  { State.reset with
    formatter := { Formatter.reset with
      gate := .opened
      sending := some (⟨9, afa, ⟨afa, .r48k⟩, ⟨.copyOpen, .analog⟩, k, ⟨0, false, .spliceIn⟩, [], [], 3, 4⟩, .a) }
    tapeMap := { State.reset.tapeMap with
      index := [⟨10000, .start, 1, .read⟩, ⟨20000, .start, 2, .read⟩, ⟨30100, .start, 4, .read⟩,
        ⟨45000, .start, 3, .read⟩], changeCount := 18 } }

/-- Chapter 6, writing a marker: {25 000, START, 3, WRITTEN} becomes entry 2 and the change count 19. -/
theorem test_written_marker :
    after .trackASent (sendingMarker 25000 ⟨3, some .start, 0⟩)
      (fun t => t.tapeMap.index[2]? == some ⟨25000, .start, 3, .written⟩ && t.tapeMap.index.length == 5 &&
        t.tapeMap.changeCount == 19 && t.faults.counters.baked == 3 && t.seq.baked == 3) := by decide +kernel

/-- Chapter 6, punching over a start: the entry at 30 100 is removed. -/
theorem test_punched_over_start :
    after .trackASent (sendingMarker 30100 ⟨2, none, 0⟩)
      (fun t => t.tapeMap.index.map (·.start) == [10000, 20000, 45000] && t.tapeMap.changeCount == 19) := by
  decide +kernel

/-- R178 to R181: the response of a request is shifted out in the next exchange, behind the summary. -/
theorem test_response_one_exchange_late :
    after (.status .p2 2) State.reset (fun t => shiftedOut t .p2 == none &&
      after (.exchangeStart .p2) t (fun u => (shiftedOut u .p2).any fun f => f.extractLsb' 96 8 == 0x01#8)) := by
  decide +kernel

/-- R187, R188: a takeover of EDIT while IDLE with the gate CLOSED, and its refusal while RECORDING. -/
theorem test_takeover :
    after (.claim .p2 0 true) (reporting claimed) (fun t => t.claims.edit == some .p2 &&
      EventSet.has t.ports.p1.events .claimLost && !EventSet.has t.ports.p2.events .claimLost) ∧
    after (.claim .p2 0 true) (writing punch .recording) (fun t => t.claims.edit == some .p1 &&
      t.ports.p2.response == ⟨.held, 0x02, .claimHolder (some .p1)⟩) := by decide +kernel

/-- R38, R39: the sixteenth pair of the converter makes the FIFO run; a pair at 2048 is a slip. -/
theorem test_fifo_levels :
    after (.converterPairArrival 16 32) { State.reset with formatter := { Formatter.reset with
        fifo := List.replicate 15 ⟨0, 0⟩ } }
      (fun t => t.formatter.fifoState == .running && t.formatter.fifo.getLast? == some ⟨1, 2⟩) ∧
    after (.converterPairArrival 16 32) { State.reset with formatter := { Formatter.reset with
        fifo := List.replicate 2048 ⟨0, 0⟩, fifoState := .running } }
      (fun t => t.formatter.fifo.length == 2048 && t.faults.counters.slip == 1) := by decide +kernel

/-- R37: with DIGITAL selected and no lock, a receiver pair is dropped. -/
theorem test_receiver_dropped :
    after (.receiverPairArrival 16 32) { State.reset with formatter := { Formatter.reset with defaultSource := .digital } }
      (fun t => t.formatter.fifo == []) := by decide +kernel

/-- R147: two agreeing CONSUMER records, permit clear, generation COPY, give NONE. -/
theorem test_rights_none :
    let r : StatusRecord := ⟨.consumer, false, .copy, .known .r48k, 0x21⟩
    after (.statusRecord r) { State.reset with rights := { RightsUnit.reset with lock := true, history := [r] } }
      (fun t => t.rights.digital == .rightsNone) := by decide +kernel

/-- R137, chapter 11: WRITE DISABLE with the gate OPEN sends the sequencer to FAULT with WRITE_OFF, the gate OPEN still. -/
theorem test_writeDisable_forces :
    after (.writeDisable .p1) (writing punch .recording)
      (fun t => t.seq.state == .fault && t.seq.error.map (·.kind) == some .writeOff &&
        t.formatter.closePoint == some .forced && t.formatter.gate == .opened) := by decide +kernel

/-- R128, R130: the in-address arrives at the PRE heads, the open is pending and the fade-in waits two ticks. -/
theorem test_in_address :
    let s := inArrival 0 punch (some 100) .read 0 (holding punch .armed)
    s.seq.state = .recording ∧ s.formatter.pendingOpen.map (·.first) = some 10 ∧
    s.blend.left.pending = some ⟨.fadeIn, 64, 0, 2⟩ := by decide +kernel

/-- R165: the fourth tally in a row with no usable block raises CLOG on that head. -/
theorem test_clog_raised :
    let t : Tally := ⟨.absent, ⟨0, 0, 0, 56, false⟩, ⟨56, 0, 0, 0, false⟩, 0, 0⟩
    let s := clogTally .pre t { State.reset with faults := { FaultMonitor.reset with
      heads := ⟨⟨3, false, false⟩, .reset, .reset, .reset⟩ } }
    s.faults.heads.preA = ⟨4, true, true⟩ ∧ s.faults.heads.preB = ⟨0, false, false⟩ ∧
    s.faults.records.clog.detail = .clogHead .pre .a := by decide +kernel

/-- A step takes the front of the queue (R186: STATUS clears the port's RESET flag). -/
theorem test_step_takes_the_front :
    (match step { State.reset with pending := [.status .p1 0, .noop .p2] } with
      | .next t => t.pending == [.noop .p2] && !t.ports.p1.resetFlag && t.ports.p2.resetFlag
      | .fault .. => false
      | .refused .. => false) = true := by decide +kernel

/-! ## The hypotheses of the statements are met -/

theorem test_hyp_StepRunsFront :
    ({ State.reset with pending := [.hold .p1, .noop .p2] } : State).pending = .hold .p1 :: [.noop .p2] ∧
    State.reset.pending = [] := by decide

theorem test_hyp_ExchangeShiftsPreviousResponse :
    waitsForRise State.reset .p1 = false ∧ waitsForRise waiting .p1 = true ∧ waitsForRise waiting .p2 = false := by decide

theorem test_hyp_BadExchangesAnswered :
    waitsForRise State.reset .p3 = false ∧ (Instr.noop .p1).port? = some .p1 ∧ waitsForRise waiting .p1 = true ∧
    Instr.noop .p1 ≠ .exchangeStart .p1 := by decide

theorem test_hyp_ClassCheckRefuses :
    waitsForRise State.reset .p1 = false ∧ State.reset.claims.edit ≠ some .p1 ∧ claimed.claims.edit ≠ some .p2 ∧
    State.reset.claims.transport ≠ some .p1 ∧ claimed.claims.transport ≠ some .p2 := by decide

theorem test_hyp_NoopAndStatus :
    waitsForRise State.reset .p1 = false ∧ 1 < (2#8).toNat ∧ 1 < (255#8).toNat ∧ Port.p2 ≠ .p1 := by decide

/-- A code past the two; a free claim; one's own; another port's without take, with take and quiet, and not quiet. -/
theorem test_hyp_ClaimTable :
    waitsForRise claimed .p1 = false ∧ waitsForRise claimed .p2 = false ∧ 1 < (2#8).toNat ∧
    (∀ k, k = ClaimKind.edit ∨ k = .transport → State.reset.claims.holder k = none ∧
      claimed.claims.holder k = some .p1) ∧
    Port.p1 ≠ .p2 ∧ (claimed.seq.state = .idle ∧ claimed.formatter.gate = .closed) ∧
    claimed.transport.mode = .unloaded ∧ (writing punch .recording).claims.holder .edit = some .p1 ∧
    ¬ (((writing punch .recording).seq.state = .idle ∨ (writing punch .recording).seq.state = .fault) ∧
      (writing punch .recording).formatter.gate = .closed) ∧
    (writing punch .fault).seq.state = .fault ∧ (writing punch .fault).formatter.gate ≠ .closed ∧
    ¬ ((writing punch .recording).transport.mode = .stop ∨ (writing punch .recording).transport.mode = .unloaded) := by
  refine ⟨by decide, by decide, by decide, ?_, by decide⟩
  rintro k (rfl | rfl) <;> decide

theorem test_hyp_ReleaseFreesClaim :
    waitsForRise claimed .p1 = false ∧ 1 < (2#8).toNat ∧ claimed.claims.holder .edit = some .p1 ∧
    claimed.claims.holder .transport = some .p1 ∧ claimed.claims.holder .edit ≠ some .p2 ∧
    State.reset.claims.holder .transport ≠ some .p1 := by decide

/-- 8192 is the first mask outside the 13 kinds, 8191 the last inside. -/
theorem test_hyp_ReportSets :
    waitsForRise State.reset .p1 = false ∧ 8191 < (8192#16).toNat ∧
    ∀ m, (some 8191#16 : Option (BitVec 16)) = some m ∨ (none : Option (BitVec 16)) = some m → m.toNat ≤ 8191 := by
  refine ⟨by decide, by decide, ?_⟩
  rintro m (h | h)
  · cases h; decide
  · cases h

theorem test_hyp_EventsRaisedReadAndAcknowledged :
    waitsForRise State.reset .p1 = false ∧ 8191 < (8192#16).toNat ∧ (8191#16).toNat ≤ 8191 := by decide

theorem test_hyp_CommandRoundTrip :
    (Instr.editStart .p1 31).wellFormed = true ∧ (Instr.editStart .p1 31).port? = some .p1 ∧
    encodeCommand (.editStart .p1 31) = some 0x411F0000000000000000000000000000#128 ∧
    (Instr.unknownOpcode .p2 0x07).wellFormed = true ∧ (Instr.unknownOpcode .p2 0x07).port? = some .p2 ∧
    encodeCommand (.unknownOpcode .p2 0x07) = some 0x07000000000000000000000000000000#128 := by decide

theorem test_hyp_FramesDecode :
    127 ≠ 128 ∧ 129 ≠ 128 ∧
    (0x07000000000000000000000000000000#128).extractLsb' 120 8 ∉ requestOpcodes ∧
    (0xFF000000000000000000000000000000#128).extractLsb' 120 8 ∉ requestOpcodes := by decide

theorem test_hyp_SpeedRatioRounded :
    4 ≤ History.sum ⟨1, 1, 1, 1⟩ ∧ speedRatio false ⟨1, 1, 1, 1⟩ = 20000 ∧
    4 ≤ History.sum ⟨65535, 65535, 65535, 65535⟩ ∧ speedRatio false ⟨65535, 65535, 65535, 65535⟩ < 20000 := by decide

/-- The clock's two cases: PLAY or RECORD with a known rate; another mode, or no known rate. -/
theorem test_hyp_TicksAndStalls :
    (holding punch .idle).transport.mode = .record ∧ State.reset.transport.mode ≠ .play ∧
    State.reset.transport.mode ≠ .record ∧
    after (.frameTick .forward 20000) (holding punch .idle) (fun t => t.tapeMap.pos.rate == none) ∧
    after (.frameTick .forward 20000)
      { holding punch .idle with tapeMap := { State.reset.tapeMap with
        pos := { PositionRecord.reset with state := .reckoned, rate := some .r44k1 } } }
      (fun t => t.tapeMap.pos.rate == some .r44k1) := by decide +kernel

theorem test_hyp_TickReckons :
    { State.reset with transport := { recording with mode := .stop } }.transport.mode = Mode.stop ∧
    { State.reset with transport := { recording with mode := .wind } }.transport.mode = Mode.wind := by decide

/-- The first code outside each set and the last inside; a report of the mode held and of another. -/
theorem test_hyp_ModeReportTaken :
    waitsForRise claimed .p1 = false ∧ claimed.claims.transport = some .p1 ∧ 5 < (6#8).toNat ∧ 1 < (2#8).toNat ∧
    [Mode.unloaded, .stop, .play, .record, .cue, .wind][(5#8).toNat]? = some .wind ∧
    [Mode.unloaded, .stop, .play, .record, .cue, .wind][(0#8).toNat]? = some .unloaded ∧ (1#8).toNat ≤ 1 ∧
    Mode.wind ≠ claimed.transport.mode ∧ claimed.transport.mode = .unloaded := by decide

/-- A loaded tape, with the sequencer in each state the unload treats apart, and a verify scan. -/
theorem test_hyp_TapeUnload :
    (∀ st, waitsForRise (writing punch st) .p1 = false ∧ (writing punch st).claims.transport = some .p1 ∧
      (writing punch st).transport.mode ≠ .unloaded ∧ (writing punch st).seq.state = st ∧
      (writing punch st).seq.held = some 0 ∧ (writing punch st).formatter.gate = .opened ∧
      isRehearsal (writing punch st).editList[(0 : Fin 32)] = false) ∧
    (let e : ErrorRecord := ⟨.late, .fetch, 0, .absent, none⟩;
      let s := writing punch .fault;
      ({ s with seq := { s.seq with error := some e } } : State).seq.error = some e) ∧
    ({ claimed.faults with verify := { VerifyRecord.reset with state := .scanning } } : FaultMonitor).verify.state =
      .scanning := by
  refine ⟨fun st => ?_, by decide⟩
  cases st <;> decide

theorem test_hyp_SymbolsCarrySamples :
    (-524288 : Sample) ≤ -524288 ∧ (-524288 : Sample) ≤ 524287 ∧ (-524288 : Sample) ≤ 524287 ∧
    (524287 : Sample) ≤ 524287 := by decide

theorem test_hyp_PacksReadBack :
    (⟨1048575, .r44k1⟩ : PositionPack).afa ≤ 1048575 ∧
    ((⟨999, some .skip, 99⟩ : ProgramPack).number ≤ 999 ∧ (⟨999, some .skip, 99⟩ : ProgramPack).runIndex ≤ 99 ∧
      (⟨999, some .skip, 99⟩ : ProgramPack).number ≠ 0) ∧
    (⟨255, true, .spliceOut⟩ : EditPack).generation ≤ 255 ∧
    (let p : List Symbol := [1000, 4, 2];
      1 < (p.getD 2 0).toNat ∧ 2 < (p.getD 0 0).toNat ∧ 3 < (p.getD 1 0).toNat ∧ 999 < (p.getD 0 0).toNat ∧
      255 < (p.getD 0 0).toNat ∧ 1 < (p.getD 1 0).toNat) ∧
    (let p : List Symbol := [0, 1, 100];
      99 < (p.getD 2 0).toNat ∧ (p.getD 1 0).toNat ≠ 0 ∧ (p.getD 0 0).toNat = 0) := by decide

/-- The last block number; a failed check, number 60 and the other track; a good header. -/
theorem test_hyp_HeadersReadBack :
    59 ≤ 59 ∧ 1048575 ≤ 1048575 ∧ (0#10 + 0#10 + 0#10 : Symbol) ≠ 1023#10 ∧
    (960#10 + 0#10 + 63#10 : Symbol) = 1023#10 ∧ 59 < headerNumber ⟨960, 0, 63⟩ ∧
    headerTrack header2 ≠ .b ∧ header2.s0 + header2.s1 + header2.s2 = 1023#10 ∧ headerNumber header2 ≤ 59 ∧
    headerTrack header2 = .a := by decide

theorem test_hyp_MatrixHoldsEverySlot : 959 < 960 ∧ 47 < 48 ∧ 39 < 40 ∧ 48 ≤ 48 := by decide

/-- A frame with its fields at the ends of their ranges. -/
def fullFrame : BuiltFrame :=
  { frame := 1, afa := 1048575, position := ⟨1048575, .r44k1⟩, rights := ⟨.copyNone, .unstated⟩
    program := ⟨999, some .skip, 99⟩, edit := ⟨255, true, .spliceOut⟩, left := [524287, -524288], right := [-524288]
    bakedA := 0, bakedB := 0 }

theorem test_hyp_WrittenFrameReadsBack :
    (fullFrame.position.afa ≤ 1048575 ∧ fullFrame.program.number ≤ 999 ∧ fullFrame.program.runIndex ≤ 99 ∧
      fullFrame.program.number ≠ 0 ∧ fullFrame.edit.generation ≤ 255) ∧
    (∀ n, -524288 ≤ fullFrame.left.getD n 0 ∧ fullFrame.left.getD n 0 ≤ 524287) ∧
    ∀ n, -524288 ≤ fullFrame.right.getD n 0 ∧ fullFrame.right.getD n 0 ≤ 524287 := by
  refine ⟨by decide, fun n => ?_, fun n => ?_⟩
  · match n with
    | 0 => decide
    | 1 => decide
    | k + 2 => simp [fullFrame]
  · match n with
    | 0 => decide
    | k + 1 => simp [fullFrame]

/-- A block of audio in track A with tag 7, found FIXED. -/
def block7 : BlockArrival := ⟨.pre, .a, .first, ⟨32, 7, 984⟩, .fixed, List.replicate 40 0⟩

/-- A PRE decoder in state `st` with the transport `t`, whose CURRENT assembly has tag 7 and the given places. -/
def decoding (st : DecoderState) (t : Transport) (places : List Place) : State :=
  { State.reset with transport := t, preDecoder := ⟨st, some ⟨7, places⟩, none, false⟩ }

/-- A LOST block; IDLE; an audio block in SUBCODE; a vacant place; a place of lower rank, of equal and of higher rank. -/
theorem test_hyp_BlocksPlaced :
    (let s := decoding .decoding recording [];
      (s.decoder .pre).state = stateCalledFor .pre s.transport ∧ arrivalResult { block7 with inner := .lost } = .lost ∧
      arrivalResult block7 ≠ .lost ∧ (s.decoder .pre).current = some ⟨7, []⟩ ∧ (7 : Byte) = headerTag block7.header ∧
      (⟨7, []⟩ : Assembly).place? .a (headerNumber block7.header) = none) ∧
    (State.reset.decoder .pre).state = stateCalledFor .pre State.reset.transport ∧
    (State.reset.decoder .pre).state = .idle ∧
    (let s := decoding .subcode { recording with mode := .cue } [];
      (s.decoder .pre).state = stateCalledFor .pre s.transport ∧ (s.decoder .pre).state = .subcode ∧
      headerNumber block7.header = 2) ∧
    (let old : Place := ⟨.a, 2, .flagged, []⟩;
      (⟨7, [old]⟩ : Assembly).place? .a 2 = some old ∧ resultRank old.result < resultRank block7.inner) ∧
    (let old : Place := ⟨.a, 2, .fixed, []⟩;
      (⟨7, [old]⟩ : Assembly).place? .a 2 = some old ∧ resultRank block7.inner ≤ resultRank old.result) ∧
    resultRank block7.inner ≤ resultRank .clean := by decide

theorem test_hyp_ArithmeticStaysInRange :
    3 ≤ 3 ∧ (-524288 ≤ (524287 : Sample) ∧ (524287 : Sample) ≤ 524287) ∧
    (-524288 ≤ (-524288 : Sample) ∧ (-524288 : Sample) ≤ 524287) ∧ 4096 ≤ 4096 := by decide

theorem test_hyp_FadesMoveOneWay : 4 ≤ 4 ∧ 4096 ≤ 4096 ∧ 1024 ≤ fadeLength 4 := by decide

/-- A repairer in CLEAN with the last output value 1000 and the plan given. -/
def clean (p : Option Plan) : Repairer := { Repairer.reset with state := .clean, last := 1000, plan := p }

/-- A GOOD sample; a plan; a gap of 1 and of P = 4 samples; five BAD samples with H above 0 and with H = 0. -/
theorem test_hyp_GapsConcealed :
    (clean none).state = .clean ∧ (clean none).plan = none ∧
    (clean (some ⟨1000, -2000, 3, 2⟩)).plan = some ⟨1000, -2000, 3, 2⟩ ∧
    (⟨0, true⟩ : DecodedSample).good = true ∧ (⟨0, false⟩ : DecodedSample).good = false ∧
    (let ahead : List DecodedSample := [⟨5, true⟩];
      ∃ b, 1 ≤ 1 ∧ 1 ≤ RepairSettings.reset.p ∧ ahead[1 - 1]? = some b ∧ b.good = true) ∧
    (let ahead : List DecodedSample := [⟨0, false⟩, ⟨0, false⟩, ⟨0, false⟩, ⟨5, true⟩];
      (∀ i, i + 1 < 4 → ∃ y, ahead[i]? = some y ∧ y.good = false) ∧ 4 ≤ RepairSettings.reset.p ∧
        ∃ b, ahead[4 - 1]? = some b ∧ b.good = true) ∧
    (let ahead : List DecodedSample := List.replicate 5 ⟨0, false⟩;
      ∀ i y, i < RepairSettings.reset.p → ahead[i]? = some y → y.good = false) ∧
    0 < RepairSettings.reset.h ∧ ({ RepairSettings.reset with h := 0 } : RepairSettings).h = 0 := by
  refine ⟨rfl, rfl, rfl, rfl, rfl, ⟨_, by decide, by decide, rfl, rfl⟩, ⟨?_, by decide, _, rfl, rfl⟩, ?_, by decide, rfl⟩
  · rintro i hi
    match i, hi with
    | 0, _ => exact ⟨_, rfl, rfl⟩
    | 1, _ => exact ⟨_, rfl, rfl⟩
    | 2, _ => exact ⟨_, rfl, rfl⟩
  · intro ahead i y _ h
    simp only [ahead, List.getElem?_replicate] at h
    split at h
    · cases h; rfl
    · cases h

/-- The hold's last sample, the ramp's step to gain 0, the recovery's step U, each at its boundary. -/
theorem test_hyp_ExpiriesAndEnds :
    (let c : Concealer := { Concealer.reset with state := .holding, steps := 32 };
      c.holdExpired = false ∧ c.captured.h ≤ c.steps ∧ ¬ c.captured.h + 1 ≤ c.steps) ∧
    (let c : Concealer := { Concealer.reset with state := .muting, steps := 1, gain := 0 }; 0 < c.steps ∧ c.gain = 0) ∧
    (let c : Concealer := { Concealer.reset with state := .recovering, steps := 256 }; c.captured.u ≤ c.steps) ∧
    (let r : Repairer := { Repairer.reset with state := .holding, steps := 32 };
      r.holdExpired = false ∧ r.captured.h ≤ r.steps) ∧
    (let r : Repairer := { Repairer.reset with state := .muting, steps := 1, gain := 0 }; 0 < r.steps ∧ r.gain = 0) ∧
    (let r : Repairer := { Repairer.reset with state := .recovering, steps := 256 }; r.captured.u ≤ r.steps) := by decide

/-- A pending fade whose count has run out at its offset; a fade-in at its length; a fade-out asked for and over, with the
frame blended and without a build, and with one at that frame. -/
theorem test_hyp_FadesStartAndEnd :
    (let q : PendingFade := ⟨.fadeIn, 64, 0, 0⟩; q.ticks = 0 ∧ q.offset ≤ State.reset.clock.next) ∧
    (let f : Fade := ⟨.fadeIn, 64, 64⟩; f.dir = .fadeIn ∧ f.length ≤ f.pos) ∧
    (let s : State := { writing punch .closing with
      blend := ⟨⟨8, 8, some ⟨.fadeOut, 64, 64⟩, none, true⟩, ⟨0, 0, none, none, true⟩, false, true, some 9⟩ };
      s.blend.outAsked = true ∧ (s.blend.get .left).fadingOut = false ∧ (s.blend.get .right).fadingOut = false ∧
        writingEntry s = true ∧ s.formatter.gate = .opened ∧ s.formatter.closePoint = none ∧
        s.formatter.build = none) := by decide

theorem test_hyp_MonitorSwitches :
    waitsForRise State.reset .p1 = false ∧ 2 < (3#8).toNat ∧
    [MonitorMode.auto, .input, .tape][(2#8).toNat]? = some .tape ∧
    (let m : Monitor := ⟨.auto, .pre, some ⟨.pre, .blend, 64⟩, some .pre⟩;
      m.switch = some ⟨.pre, .blend, 64⟩ ∧ 64 ≤ 64) := by decide

/-- A state with nothing due, and the given clock, FIFO, monitor and build. -/
def quiet (c : SampleClock) (st : FifoState) (fifo : List Pair) (src : OutputSource) (b : Option Build) : State :=
  { State.reset with
    clock := c, monitor := ⟨.auto, src, none, none⟩
    formatter := { Formatter.reset with
      fifo := fifo, fifoState := st, build := b, concealL := { Concealer.reset with state := .live }
      concealR := { Concealer.reset with state := .live } } }

/-- Frame 9 under construction with no pair placed. -/
def build9 : Build :=
  { frame := 9, afa := 100, rate := .r48k, kind := .punch, program := ⟨0, none, 0⟩
    old := ⟨9, some 100, .read, .afa 100, .r48k, none, none, none, true⟩, placed := [], built := none }

/-- Nothing due: after reset (PRIMING); with the last pair given; at the last pair; free of ticks; RUNNING with a pair and
without; with a build. -/
theorem test_hyp_PairPeriodWorks :
    settleDue State.reset = State.reset ∧ State.reset.formatter.fifoState = .priming ∧
    State.reset.monitor.switch = none ∧ State.reset.monitor.source = .pre ∧
    settleDue (quiet ⟨.r48k, true, 960⟩ .priming [] .pre none) = quiet ⟨.r48k, true, 960⟩ .priming [] .pre none ∧
    pairsPerFrame .r48k ≤ 960 ∧
    settleDue (quiet ⟨.r48k, false, 960⟩ .priming [] .pre none) = quiet ⟨.r48k, false, 960⟩ .priming [] .pre none ∧
    settleDue (quiet ⟨.r48k, true, 959⟩ .running [⟨1, 2⟩] .newPath none) =
      quiet ⟨.r48k, true, 959⟩ .running [⟨1, 2⟩] .newPath none ∧
    959 < pairsPerFrame .r48k ∧
    settleDue (quiet ⟨.r44k1, false, 0⟩ .running [] .pre (some build9)) =
      quiet ⟨.r44k1, false, 0⟩ .running [] .pre (some build9) ∧
    0 = build9.placed.length ∧ 0 < pairsPerFrame build9.rate := by
  refine ⟨rfl, rfl, rfl, rfl, rfl, by decide, rfl, rfl, by decide, rfl, rfl, by decide⟩

/-- The two cases of R36 where they meet; each source selected, usable and not. -/
theorem test_hyp_PairsArriveConverted :
    (8388599#24).toInt < 8388600 ∧ 8388600 ≤ (8388600#24).toInt ∧ selectedSource State.reset = .analog ∧
    (let s : State := { State.reset with
      rights := { RightsUnit.reset with lock := true }
      formatter := { Formatter.reset with defaultSource := .digital, linkRate := some (.known .r48k) } };
      selectedSource s = .digital ∧ s.rights.lock = true ∧
        s.formatter.linkRate = some (.known s.formatter.recordRate)) ∧
    ¬ (State.reset.rights.lock = true ∧
      State.reset.formatter.linkRate = some (.known State.reset.formatter.recordRate)) := by decide

/-- A record with lock: none before it; one with its tag that agrees and one that differs; a change of state and none. -/
theorem test_hyp_StatusRecordsAccepted :
    State.reset.rights.lock = false ∧
    (let r : StatusRecord := ⟨.consumer, false, .copy, .known .r48k, 0x21⟩;
      let s : State := { State.reset with
        rights := { RightsUnit.reset with lock := true, history := [r] }
        formatter := { Formatter.reset with linkRate := some (.known .r48k) } };
      s.rights.lock = true ∧ s.rights.history.getLast? = some r ∧ s.formatter.linkRate = some r.rate ∧
      after (.statusRecord r) s (fun t => t.rights.digital != s.rights.digital) ∧
      after (.statusRecord { r with permit := true }) s (fun t => t.rights.digital == s.rights.digital) ∧
      ({ r with tag := 0x22 } : StatusRecord).tag ≠ r.tag) := by decide +kernel

/-- Lock with a usable DIGITAL source and a digital state other than UNSTATED; without; regained. -/
theorem test_hyp_LockLostAndRegained :
    (let s : State := { State.reset with
      rights := { RightsUnit.reset with lock := true, digital := .rightsOpen }
      formatter := { Formatter.reset with linkRate := some (.known .r48k) } };
      s.rights.lock = true ∧ s.formatter.linkRate = some (.known s.formatter.recordRate) ∧
        s.rights.digital ≠ .rightsUnstated) ∧
    State.reset.rights.digital = .rightsUnstated ∧ State.reset.rights.lock = false ∧
    State.reset.formatter.linkRate ≠ some (.known State.reset.formatter.recordRate) ∧
    State.reset.faults.records.input.present = false ∧
    (let s : State := { State.reset with formatter := { Formatter.reset with linkRate := some (.known .r48k) } };
      s.faults.records.input.mode = .auto ∧ s.formatter.linkRate = some (.known s.formatter.recordRate) ∧
        s.rights.lock = false) := by decide

/-- A placed sample of weight `g`. -/
def placedOf (g : Nat) : PlacedPair := ⟨⟨1, 2, g, .held, some .fadeOut⟩, ⟨3, 4, g, .unmarked, none⟩⟩

/-- Frames of old audio alone, of new audio alone, of both, over a frame and over blank tape. -/
theorem test_hyp_RightsNeverRelax :
    (restriction .rightsNone = 2 ∧ restriction .rightsUnstated = 2) ∧
    (let b := { build9 with placed := [placedOf 0] };
      ¬ ∃ q, q ∈ b.placed ∧ (0 < q.l.weight ∨ 0 < q.r.weight)) ∧
    (let b := { build9 with placed := [placedOf 4096] };
      (∃ q, q ∈ b.placed ∧ (0 < q.l.weight ∨ 0 < q.r.weight)) ∧ b.kind ≠ .mark ∧
        ¬ ∃ q, q ∈ b.placed ∧ (q.l.weight < 4096 ∨ q.r.weight < 4096)) ∧
    (let b := { build9 with placed := [placedOf 4095] };
      (∃ q, q ∈ b.placed ∧ (0 < q.l.weight ∨ 0 < q.r.weight)) ∧
        (∃ q, q ∈ b.placed ∧ (q.l.weight < 4096 ∨ q.r.weight < 4096)) ∧
        ¬ (b.old.completed = true ∧ b.old.identity = .absent)) ∧
    (let o : OldFrame := { build9.old with identity := .absent }; o.completed = true ∧ o.identity = .absent) := by
  decide

theorem test_hyp_OutputRights :
    (⟨.auto, .pre, some ⟨.pre, .blend, 3⟩, none⟩ : Monitor).switch = some ⟨.pre, .blend, 3⟩ ∧
    256 ≤ ({ State.reset.outputs with txPairs := 256 } : Outputs).txPairs ∧
    ({ State.reset.outputs with txPairs := 255 } : Outputs).txPairs < 256 := by decide

theorem test_hyp_ReadRightsReturnsAll : waitsForRise State.reset .p1 = false := by decide

/-- A build with all its pairs placed; new weight and none; each source; an EDIT pack read and none; a pair placed below the
rate's pairs and the padding above it. -/
theorem test_hyp_FramesCompleted :
    (let b := { build9 with placed := List.replicate 960 (placedOf 64) };
      b.built = none ∧ pairsPerFrame b.rate ≤ b.placed.length ∧ b.kind ≠ .mark ∧ b.old.edit = none ∧
        959 < pairsPerFrame b.rate ∧ b.placed[959]? = some (placedOf 64)) ∧
    (0 < (placedOf 64).l.weight ∧ (placedOf 0).l.weight = 0 ∧ (placedOf 0).r.weight = 0) ∧
    ({ build9.old with edit := some ⟨255, false, .spliceIn⟩ } : OldFrame).edit = some ⟨255, false, .spliceIn⟩ ∧
    selectedSource State.reset = .analog ∧
    selectedSource { State.reset with formatter := { Formatter.reset with defaultSource := .digital } } = .digital ∧
    pairsPerFrame .r44k1 ≤ 882 ∧ State.reset.formatter.build = none ∧
    ({ build9 with placed := List.replicate 959 (placedOf 0) } : Build).placed.length < pairsPerFrame .r48k := by
  decide +kernel

/-- An open request for the frame completed at tick 8. -/
def span8 : Span := ⟨8, some 100, .punch, none, none, .read, none⟩

/-- `holding` in RECORDING with that open pending. -/
def opening : State :=
  { holding punch .recording with
    formatter := { Formatter.reset with writeEnable := true, pendingOpen := some span8 } }

/-- The boundary has just come; the gate may open; it may not, with writing off, a protected tape, another mode, no lock
and a ratio just past each limit. -/
theorem test_hyp_GateOpensOrRefuses :
    opening.formatter.gate = .closed ∧ opening.formatter.pendingOpen = some span8 ∧
    span8.first + 2 ≤ opening.transport.tick ∧ ¬ span8.first + 3 ≤ opening.transport.tick ∧
    (opening.formatter.writeEnable = true ∧ opening.transport.prot = false ∧ opening.transport.mode = .record ∧
      opening.transport.lock = true ∧ opening.transport.stalled = false ∧ opening.transport.dir = .forward ∧
      990 ≤ opening.transport.ratio ∧ opening.transport.ratio ≤ 1010) ∧
    opening.seq.held = some 0 ∧ opening.seq.state = .recording ∧
    Formatter.reset.writeEnable = false ∧ ({ recording with prot := true } : Transport).prot ≠ false ∧
    ({ recording with mode := .play } : Transport).mode ≠ .record ∧
    ({ recording with lock := false } : Transport).lock ≠ true ∧ ¬ 990 ≤ 989 ∧ ¬ 1011 ≤ 1010 := by decide

/-- Each close at its boundary, with the sequencer in RECORDING, and in CLOSING with each way to end. -/
theorem test_hyp_GateClosesAtItsPoint :
    (∀ st, (writing punch st).formatter.gate = .opened ∧ (writing punch st).formatter.sending = none ∧
      (writing punch st).formatter.pendingOpen = none ∧ (writing punch st).seq.state = st ∧
      (writing punch st).seq.held = some 0 ∧ (writing punch st).seq.error = none ∧
      (writing punch st).seq.abortPending = false ∧ (writing punch st).seq.holdPending = false) ∧
    (ClosePoint.normal 7 = .normal 7 ∧ 7 + 3 ≤ recording.tick ∧ ¬ 8 + 3 ≤ recording.tick) ∧
    isRehearsal punch = false ∧ punch.endFlag = false ∧ ({ punch with endFlag := true } : EditEntry).endFlag = true ∧
    ({ Sequencer.reset with error := some ⟨.write, .run, 1, .absent, none⟩ } : Sequencer).error.isSome = true ∧
    ({ Sequencer.reset with abortPending := true } : Sequencer).abortPending = true ∧
    ({ Sequencer.reset with holdPending := true } : Sequencer).holdPending = true := by
  refine ⟨fun st => ?_, by decide⟩
  cases st <;> decide

/-- An index of 64 entries, one each thousand frames. -/
def fullIndex : List IndexEntry := (List.range 64).map fun i => ⟨1000 * i, .start, 1, .read⟩

/-- A frame with no marker, one inside a run, one that begins a run: with room, with 64 entries, with an entry two frames
away and one three frames away; track B being sent. -/
theorem test_hyp_TracksSent :
    ((∃ f, (sendingMarker 25000 ⟨3, some .start, 0⟩).formatter.sending = some (f, .a) ∧
        f.program.marker = some .start ∧ f.program.runIndex = 0) ∧
      indexHeld (sendingMarker 25000 ⟨3, some .start, 0⟩)) ∧
    (⟨2, none, 0⟩ : ProgramPack).marker = none ∧ (⟨2, some .start, 1⟩ : ProgramPack).runIndex ≠ 0 ∧
    ((∀ e ∈ fullIndex, ¬ (e.start ≤ 503 + 2 ∧ 503 ≤ e.start + 2)) ∧ fullIndex.length = 64 ∧
      indexHeld { State.reset with tapeMap := { State.reset.tapeMap with index := fullIndex } }) ∧
    ((∀ e ∈ fullIndex.take 63, ¬ (e.start ≤ 1003 + 2 ∧ 1003 ≤ e.start + 2)) ∧ (fullIndex.take 63).length < 64) ∧
    (∃ e ∈ fullIndex, e.start ≤ 1002 + 2 ∧ 1002 ≤ e.start + 2) := by
  refine ⟨⟨⟨_, rfl, rfl, rfl⟩, ?_⟩, rfl, by decide, ⟨by decide, by decide, ?_⟩, ⟨by decide, by decide⟩, by decide⟩
  · unfold indexHeld
    decide
  · unfold indexHeld
    decide +kernel

/-- An entry due at tick 10 and one not yet; CONFIRM in OFF and not; a CONF tally of that tick and none. -/
theorem test_hyp_WrittenFramesTimeOut :
    ([⟨100, 6⟩, ⟨101, 7⟩] : List WrittenFrame).filter (fun w => decide (w.frame + 4 ≤ recording.tick)) = [⟨100, 6⟩] ∧
    ([⟨101, 7⟩] : List WrittenFrame).filter (fun w => decide (w.frame + 4 ≤ recording.tick)) = [] ∧
    State.reset.faults.records.confirm.mode ≠ .off ∧ (FaultRecord.reset .off).mode = .off ∧
    (some 9 : Option FrameNo) ≠ some (6 + 4) ∧ (some 10 : Option FrameNo) = some (6 + 4) ∧
    writingEntry (writing punch .closing) = true ∧ (writing punch .closing).formatter.gate = .opened := by decide

/-- A MARK entry at 100. -/
def markEntry : EditEntry := { emptyEntry with action := 3, inPresent := true, inAfa := 100, markerKind := 1 }

theorem test_hyp_MarkRunEnds :
    100 ≤ (⟨.start, 3, 100⟩ : MarkerRun).next ∧ (⟨.start, 3, 99⟩ : MarkerRun).next < 100 ∧
    (let s := writing markEntry .recording;
      s.seq.held = some 0 ∧ entryAction s.editList[(0 : Fin 32)] = .mark ∧ s.seq.state = .recording ∧
        s.formatter.gate = .opened ∧ s.formatter.closePoint = none ∧ s.formatter.build = none) ∧
    entryAction (writing punch .recording).editList[(0 : Fin 32)] ≠ .mark ∧ build9.frame ≤ recording.tick - 1 := by
  decide

/-- Each field at the first value refused, an accepted entry with each at the last value accepted, the held entry and
another; each half. -/
theorem test_hyp_EditListHoldsEntries :
    waitsForRise (holding punch .armed) .p1 = false ∧ (holding punch .armed).claims.edit = some .p1 ∧
    (4 < (5#3).toNat ∧ 999 < (1000#10).toNat ∧ 959 < (960#10).toNat ∧ 31 < (32#20).toNat) ∧
    (let e : EditEntry := { punch with channels := 2, fadeIn := 4, fadeOut := 4, markerKind := 2, markerNumber := 999
                                       inOffset := 959, outOffset := 959 };
      ¬ ((e.action = 1 ∧ e.channels = 3) ∨ ((e.action = 1 ∨ e.action = 2) ∧ (4 < e.fadeIn.toNat ∨ 4 < e.fadeOut.toNat)) ∨
        e.markerKind = 3 ∨ (e.markerKind ≠ 0 ∧ 999 < e.markerNumber.toNat) ∨
        (e.inPresent = true ∧ 959 < e.inOffset.toNat) ∨ (e.outPresent = true ∧ 959 < e.outOffset.toNat) ∨
        (e.action = 4 ∧ 31 < e.inAfa.toNat)) ∧ e.inPresent = true) ∧
    (holding punch .armed).seq.held = some (0#5).toFin ∧ (holding punch .armed).seq.held ≠ some (31#5).toFin ∧
    (emptyEntry.inPresent = false ∧ emptyEntry.action ≠ 4) := by decide

/-- At pointer 0: a NOP at the last guard that passes and the first that stops, with an end flag and without; a LINK; an
entry without an error, and one with each. -/
theorem test_hyp_FetchFindsEntries :
    State.reset.seq.pointer = 0 ∧ entryAction State.reset.editList[(0 : Fin 32)] = .nop ∧
    (32 ≤ 32 ∧ 31 < 32) ∧ State.reset.editList[(0 : Fin 32)].endFlag = true ∧
    ({ emptyEntry with endFlag := false } : EditEntry).endFlag = false ∧
    entryAction { emptyEntry with action := 4 } = .link ∧ entryAction punch = .punch ∧
    entryAction { punch with action := 2 } = .assemble ∧ entryAction markEntry = .mark ∧
    (let s : State := { holding punch .idle with tapeMap := { State.reset.tapeMap with
        pos := { PositionRecord.reset with state := .read, afa := 50, rate := some .r48k } } };
      entryError s punch = none ∧ entryError s { punch with inPresent := false } = some .range ∧
      entryError s { punch with outAfa := 101 } = some .range ∧ entryError s { punch with outAfa := 102 } = none ∧
      entryError { s with seq := { s.seq with lastPosition := some 100 } } punch = some .late ∧
      entryError { s with seq := { s.seq with lastPosition := some 99 } } punch = none ∧
      entryError { s with formatter := { s.formatter with recordRate := .r44k1 } } punch = some .rate) ∧
    entryError (holding punch .idle) punch = some .position := by decide

/-- The first code past the list and the last in it; every sequencer state; a kept entry, late and not. -/
theorem test_hyp_WalkRequests :
    (∀ st, waitsForRise (holding punch st) .p1 = false ∧ (holding punch st).claims.edit = some .p1 ∧
      (holding punch st).seq.state = st ∧ (holding punch st).seq.held = some 0 ∧ (holding punch st).seq.kept = false ∧
      (holding punch st).seq.error = none) ∧
    31 < (32#8).toNat ∧ (31#8).toNat ≤ 31 ∧
    ({ (holding punch .held).seq with kept := true } : Sequencer).kept = true ∧
    entryIn (holding punch .held).editList[(0 : Fin 32)] = some (100, 0) ∧ 100 ≤ 100 ∧ ¬ 100 ≤ 99 := by
  refine ⟨fun st => ?_, by decide⟩
  cases st <;> decide

/-- Every sequencer state, RECORDING with the gate OPEN and with the open pending. -/
theorem test_hyp_AbortByState :
    (∀ st, waitsForRise (writing punch st) .p1 = false ∧ (writing punch st).claims.edit = some .p1 ∧
      (writing punch st).seq.state = st ∧ (writing punch st).seq.held = some 0 ∧
      (writing punch st).formatter.pendingOpen = none) ∧
    opening.seq.state = .recording ∧ opening.formatter.gate = .closed ∧ opening.formatter.pendingOpen.isSome = true ∧
    opening.seq.held.isSome = true := by
  refine ⟨fun st => ?_, by decide⟩
  cases st <;> decide

theorem test_hyp_WriteEnableAndDisable :
    waitsForRise claimed .p1 = false ∧ claimed.claims.edit = some .p1 ∧ claimed.formatter.gate = .closed ∧
    (writing punch .recording).formatter.gate = .opened ∧ writingEntry (writing punch .recording) = true ∧
    (writing punch .recording).seq.held = some 0 ∧ writingEntry (writing punch .armed) = false ∧
    waitsForRise (writing punch .recording) .p1 = false ∧ (writing punch .recording).claims.edit = some .p1 := by decide

/-- A code past its set; a new rate while armed (BUSY) and with nothing in play; a change of source; a loss of usability;
another analog right; no change of those. -/
theorem test_hyp_RecordSettings :
    waitsForRise claimed .p1 = false ∧ claimed.claims.edit = some .p1 ∧ 1 < (2#8).toNat ∧
    (some CopyState.copyOne ≠ some .copyNone ∧ (none : Option CopyState) ≠ some .copyNone) ∧
    (Rate.r44k1 ≠ (holding punch .armed).formatter.recordRate ∧ (holding punch .armed).seq.state = .armed) ∧
    (claimed.formatter.gate = .closed ∧ claimed.formatter.pendingOpen.isSome = false ∧ claimed.seq.state = .idle) ∧
    selectedSource { claimed with formatter := { claimed.formatter with defaultSource := .digital } } ≠
      selectedSource claimed ∧
    (let s : State := { claimed with
      rights := { RightsUnit.reset with lock := true }
      formatter := { Formatter.reset with linkRate := some (.known .r48k) } };
      usable s = true ∧ usable { s with formatter := { s.formatter with recordRate := .r44k1 } } = false) ∧
    CopyState.copyOne ≠ claimed.formatter.analogRights := by decide

theorem test_hyp_SettingsBrought :
    (1 ≤ 8 ∧ 8 ≤ 8 ∧ 8 < 9 ∧ 64 ≤ 64 ∧ 64 < 65 ∧ 256 < 257 ∧ 256 ≤ 256 ∧ 1024 < 1025 ∧ 1024 ≤ 1024) ∧
    (waitsForRise claimed .p1 = false ∧ claimed.claims.edit = some .p1) ∧
    (bringP (9#8).toNat ≠ (9#8).toNat ∧ bringP (0#8).toNat ≠ (0#8).toNat ∧ bringP (8#8).toNat = (8#8).toNat) ∧
    (896 < (897#16).toNat ∧ ¬ 896 < (896#16).toNat ∧ 40 < (41#16).toNat) := by decide

theorem test_faultsHeld_claimed : faultsHeld claimed := by
  refine ⟨fun k => ?_, by decide, rfl, rfl⟩
  unfold FaultRecord.modeHeld
  cases k <;> decide

/-- Codes past their sets and OFF for SERVO; a kind in each mode; INPUT present at once. -/
theorem test_hyp_FaultModes :
    waitsForRise claimed .p1 = false ∧ claimed.claims.edit = some .p1 ∧ 7 < (8#8).toNat ∧ 3 < (4#8).toNat ∧
    faultsHeld claimed ∧ ¬ (FaultKind.clog = .servo ∧ FaultMode.off = .off) ∧
    (claimed.faults.records.get .confirm).mode = .latched ∧ (claimed.faults.records.get .clog).mode = .auto ∧
    (claimed.faults.records.get .rate).mode = .warn ∧ (FaultRecord.reset .off).mode = .off ∧
    (FaultRecord.reset .off).modeHeld ∧ FaultMode.off ≠ .latched ∧ writingEntry claimed = false := by
  refine ⟨by decide, by decide, by decide, by decide, test_faultsHeld_claimed, by decide, by decide, by decide, by decide, rfl,
    ?_, by decide, by decide⟩
  unfold FaultRecord.modeHeld
  decide

/-- A LATCHED CONFIRM action whose condition is gone, and a CLOG condition that is present. -/
def faulty : State :=
  { claimed with faults := { FaultMonitor.reset with
      records := { FaultRecords.reset with
        confirm := ⟨.latched, false, true, true, 2, some 7, .absent⟩
        clog := ⟨.latched, true, true, true, 1, none, .clogHead .pre .a⟩ }
      heads := ⟨⟨4, true, true⟩, ⟨0, false, true⟩, .reset, .reset⟩ } }

theorem test_hyp_FaultsCleared :
    waitsForRise faulty .p1 = false ∧ faultsHeld faulty ∧ (faulty.faults.records.get .confirm).present = false ∧
    (faulty.faults.records.get .confirm).mode = .latched ∧ (faulty.faults.records.get .confirm).action = true ∧
    faulty.faults.records.clog.present = true ∧ (faulty.faults.heads.get .pre .b).present = false := by
  refine ⟨by decide, ⟨fun k => ?_, by decide, rfl, rfl⟩, by decide⟩
  unfold FaultRecord.modeHeld
  cases k <;> decide

/-- Codes at the ends of their sets; scans running and not; the threshold's ends; an order of start and stop. -/
theorem test_hyp_MonitorRequests :
    waitsForRise State.reset .p1 = false ∧ 7 < (8#8).toNat ∧ 22 < (23#8).toNat ∧ (22#8).toNat ≤ 22 ∧
    (State.reset.faults.verify.state ≠ .waiting ∧ State.reset.faults.verify.state ≠ .scanning) ∧
    ({ VerifyRecord.reset with state := .waiting } : VerifyRecord).state = .waiting ∧
    1 < (2#8).toNat ∧ (99#20).toNat < (100#20).toNat ∧ ¬ (100#20).toNat < (100#20).toNat ∧
    State.reset.transport.mode ≠ .record ∧ recording.mode = .record ∧ 112 < (113#8).toNat ∧ ¬ 112 < (112#8).toNat := by
  decide

/-- No candidate, one of age 8, one of age 9; index numbers at the ends of the list and past it. -/
theorem test_hyp_TapeMapRequests :
    waitsForRise claimed .p1 = false ∧ claimed.claims.edit = some .p1 ∧ 1 < (2#8).toNat ∧ 63 < (64#8).toNat ∧
    (63#8).toNat ≤ 63 ∧ (fullIndex[(63#8).toNat]?).isSome = true ∧ fullIndex ≠ [] ∧
    State.reset.tapeMap.index.length ≤ (0#8).toNat ∧ State.reset.tapeMap.index = [] ∧
    State.reset.tapeMap.pos.candidate = none ∧ 9 ≤ (⟨-1, 9⟩ : JumpCandidate).age ∧ (⟨-1, 8⟩ : JumpCandidate).age < 9 := by
  decide

/-- A gate that is OPEN as it may be, before WRITE DISABLE. -/
theorem test_hyp_GateKept :
    let s : State := { writing punch .recording with pending := [.writeDisable .p1] }
    gateHeld s ∧ s.formatter.gate = .opened ∧ ∃ t, step s = .next t := by
  refine ⟨⟨fun _ _ => ?_, fun h => ?_⟩, rfl, _, rfl⟩
  · decide
  · cases h

theorem test_hyp_FaultsKept :
    let s : State := { faulty with pending := [.clearFaults .p1] }
    faultsHeld s ∧ ∃ t, step s = .next t := by
  refine ⟨⟨fun k => ?_, by decide, rfl, rfl⟩, _, rfl⟩
  unfold FaultRecord.modeHeld
  cases k <;> decide

theorem test_hyp_SetsAndListsKept :
    let s : State := { sendingMarker 25000 ⟨3, some .start, 0⟩ with pending := [.trackASent] }
    eventsReported s ∧ indexHeld s ∧ listsHeld s ∧ positionHeld s ∧ ∃ t, step s = .next t := by
  refine ⟨⟨rfl, rfl, rfl⟩, ?_, ?_, ?_, _, rfl⟩
  · unfold indexHeld
    decide
  · unfold listsHeld
    decide
  · unfold positionHeld
    decide

/-! ## Clauses at ticks, completions and arrivals: their hypotheses met, with the outcome that the rules give -/

/-- R179: after a reset the frame begins with RESET, clock 127 is its last bit, and clock 128 gives zero. -/
theorem test_hyp_ExchangeShiftsPreviousResponse_bits :
    after (.exchangeStart .p1) State.reset (fun t => (shiftedOut t .p1).isSome && shiftedBit t .p1 0 == some true &&
      shiftedBit t .p1 127 == some false && shiftedBit t .p1 128 == some false) ∧
    shiftedOut State.reset .p1 = none := by decide +kernel

/-- R197, R198: a flag, a claim's holder, three counters. -/
theorem test_payload_bytes :
    payloadBits (.writeEnable true) = 0x010000000000000000000000#96 ∧
    payloadBits (.claimHolder (some .p2)) = 0x020000000000000000000000#96 ∧
    payloadBits (.counters 1 2 0xFFFFFFFF) = 0x0000000100000002FFFFFFFF#96 ∧
    payloadBits (.thresholds 896 40) = 0x038000280000000000000000#96 := by decide

/-- Bits of a good length and of the two next to it. -/
theorem test_hyp_FramesDecode_bits :
    (List.replicate 128 false).length = 128 ∧ (List.replicate 127 false).length ≠ 128 ∧
    (List.replicate 129 false).length ≠ 128 ∧
    ∀ k, k < 128 → (0#128).getLsbD (127 - k) = (List.replicate 128 false).getD k false := by
  refine ⟨List.length_replicate, by rw [List.length_replicate]; decide, by rw [List.length_replicate]; decide, fun k h => ?_⟩
  rw [List.getD_eq_getElem?_getD, List.getElem?_replicate_of_lt h]
  exact BitVec.getLsbD_zero

/-- R28, R138: a tick whose ratio is the first below the window, 989, and one whose ratio is 990; a stall with the gate OPEN
and with the open pending. -/
theorem test_hyp_TicksAndStalls_window :
    (let s := writing punch .recording;
      beforeTick s = s ∧ s.formatter.gate = .opened ∧ writingEntry s = true ∧ s.seq.held = some 0 ∧
      after (.frameTick .forward 20889) s (fun t => t.transport.ratio == 989 && t.seq.state == .fault &&
        t.seq.error.map (·.detail) == some .speed && t.formatter.gate == .opened) ∧
      after (.frameTick .forward 20800) s (fun t => t.transport.ratio == 990 && t.seq.state == .recording) ∧
      after .stallTimeout s (fun t => t.seq.error.map (·.detail) == some .speed && t.faults.records.servo.present)) ∧
    (opening.formatter.gate = .closed ∧ opening.formatter.pendingOpen.isSome = true ∧ writingEntry opening = true ∧
      opening.faults.records.servo.mode = .latched ∧ opening.faults.records.servo.present = false ∧
      after .stallTimeout opening (fun t => t.seq.error.map (·.detail) == some .absent && t.formatter.pendingOpen == none)) := by
  refine ⟨⟨rfl, ?_⟩, ?_⟩ <;> decide +kernel

/-- CUE, with a POSITION pack of `afa` in the PRE decoder's CURRENT and the position record `p`. -/
def reading (afa : Afa) (p : PositionRecord) : State :=
  { State.reset with
    transport := { recording with mode := .cue }
    preDecoder := ⟨.subcode, some ⟨7, [⟨.a, 0, .clean, positionPayload ⟨afa, .r48k⟩⟩]⟩, none, false⟩
    tapeMap := { State.reset.tapeMap with pos := p } }

/-- A position record in READ at 100 with the candidate and blank run given. -/
def at100 (c : Option JumpCandidate) (n : Nat) : PositionRecord :=
  { PositionRecord.reset with state := .read, afa := 100, rate := some .r48k, candidate := c, blankRun := n }

/-- PLAY with a decoder that completes an EMPTY assembly. -/
def blankPlay (n : Nat) : State :=
  { State.reset with
    transport := { recording with mode := .play }, preDecoder := ⟨.decoding, none, none, true⟩
    tapeMap := { State.reset.tapeMap with pos := at100 none n } }

/-- R100, R101, R104: the first pack; the last within 2 and the first beyond; the candidate's; none; the eighth blank
completion and the seventh. -/
theorem test_hyp_TickReckons_packs :
    after (.frameTick .forward 20000) (reading 900 .reset) (fun t => t.tapeMap.pos.afa == 901) ∧
    after (.frameTick .forward 20000) (reading 102 (at100 none 0)) (fun t => t.tapeMap.pos.afa == 103) ∧
    after (.frameTick .forward 20000) (reading 103 (at100 none 0))
      (fun t => t.tapeMap.pos.afa == 101 && t.tapeMap.pos.candidate == some ⟨104, 1⟩) ∧
    after (.frameTick .forward 20000) (reading 103 (at100 (some ⟨103, 8⟩) 0))
      (fun t => t.tapeMap.pos.afa == 104 && t.faults.counters.jumps == 1) ∧
    after (.frameTick .forward 20000) (reading 103 (at100 (some ⟨103, 9⟩) 0)) (fun t => t.faults.counters.jumps == 0) ∧
    after (.frameTick .forward 20000) (blankPlay 7) (fun t => t.tapeMap.pos.state == .blank) ∧
    after (.frameTick .forward 20000) (blankPlay 6)
      (fun t => t.tapeMap.pos.state == .reckoned && t.tapeMap.pos.blankRun == 7) := by decide +kernel

/-- R28, R133, R138: the mode leaves RECORD, the lock goes, the protection comes, each with the gate OPEN; an ASSEMBLE ends;
a SERVO action with the open pending. -/
theorem test_hyp_ModeReportTaken_window :
    (let s := writing punch .recording;
      waitsForRise s .p1 = false ∧ s.claims.transport = some .p1 ∧ writingEntry s = true ∧ s.seq.held = some 0 ∧
      s.seq.error = none ∧ s.seq.abortPending = false ∧ entryAction s.editList[(0 : Fin 32)] ≠ .assemble ∧
      after (.modeReport .p1 2 0 1) s (fun t => t.seq.error.map (·.detail) == some .notRecord) ∧
      after (.modeReport .p1 3 1 1) s (fun t => t.seq.error.map (·.detail) == some .noLock) ∧
      after (.modeReport .p1 3 0 0) s (fun t => t.seq.error.map (·.kind) == some .tapeProtected)) ∧
    after (.modeReport .p1 2 0 1) (writing { punch with action := 2, endFlag := true } .recording)
      (fun t => t.seq.state == .idle && t.seq.error == none && t.formatter.closePoint == some .forced) ∧
    after (.modeReport .p1 3 1 1) opening (fun t => t.seq.error.map (·.detail) == some .absent) := by decide +kernel

/-- A condition and an action of POSITION in AUTO, and a head's action. -/
theorem test_hyp_TapeUnload_faults :
    (let s : State := { writing punch .recording with faults := { FaultMonitor.reset with
        records := { FaultRecords.reset with position := ⟨.auto, true, true, true, 1, none, .absent⟩ }
        heads := ⟨⟨4, true, true⟩, .reset, .reset, .reset⟩ } };
      (s.faults.records.get .position).present = true ∧ (s.faults.records.get .position).mode = .auto ∧
      (s.faults.records.get .position).action = true ∧ (s.faults.heads.get .pre .a).action = true ∧
      after (.modeReport .p1 0 0 1) s (fun t => !t.faults.records.position.action && !t.faults.heads.preA.action)) := by
  decide +kernel

/-- One, eight and nine lost symbols of a column. -/
theorem test_hyp_WrittenFrameReadsBack_erasures :
    ∀ n, n = 1 ∨ n = 8 ∨ n = 9 → (List.range 56).countP (fun r => decide (r < n)) = n := by
  rintro n (rfl | rfl | rfl) <;> decide

/-- A PRE decoder in DECODING with the assemblies given. -/
def assembling (cur nxt : Option Assembly) : State :=
  { State.reset with transport := recording, preDecoder := ⟨.decoding, cur, nxt, true⟩ }

/-- R57 to R62: into NEXT; opening NEXT by the leading track in the second half; opening CURRENT; a stray; a decoder found in
another state. R58, R69: the tick's move, its counters, its discard. -/
theorem test_hyp_BlocksPlaced_cases :
    after (.blockArrival block7) (assembling (some ⟨8, []⟩) (some ⟨7, []⟩))
      (fun t => t.preDecoder.next.map (·.places.length) == some 1) ∧
    after (.blockArrival { block7 with half := .second }) (assembling (some ⟨8, []⟩) none)
      (fun t => t.preDecoder.next.map (·.tag) == some 7) ∧
    after (.blockArrival block7) (assembling none none) (fun t => t.preDecoder.current.map (·.tag) == some 7) ∧
    after (.blockArrival block7) (assembling (some ⟨8, []⟩) none) (fun t => t == assembling (some ⟨8, []⟩) none) ∧
    after (.blockArrival block7) { State.reset with transport := recording }
      (fun t => t.preDecoder.state == .decoding && t.preDecoder.current.map (·.places.length) == some 1) ∧
    after (.frameTick .forward 20000) (assembling none (some ⟨9, []⟩)) (fun t => t.preDecoder.current == some ⟨9, []⟩ &&
      t.preDecoder.whole && t.faults.counters.pre.frames == 1 && t.faults.counters.pre.lost == 112 &&
      t.faults.counters.pre.uncorr == 80 && t.confDecoder == ⟨.decoding, none, none, true⟩) := by decide +kernel

/-- R79 to R83, R40: each state but CLEAN, with the run of four at its boundary, the hold expired and not, and H = 0. -/
theorem test_hyp_GapsConcealed_states :
    (let r : RepairState → Repairer := fun st => { Repairer.reset with state := st, steps := 1, last := 50, rampBase := 50 };
      let set := RepairSettings.reset;
      let step := fun st x rest => ((r st).step set true x rest []).rep.state;
      let good : DecodedSample := ⟨7, true⟩;
      let bad : DecodedSample := ⟨0, false⟩;
      step .holding good [] = .clean ∧ step .holding bad [] = .holding ∧
      (({ r .holding with holdExpired := true }).step set true bad [] []).rep.state = .muting ∧
      step .muting good [good, good] = .muting ∧ step .muting good [good, good, good] = .recovering ∧
      step .muted good [good, good] = .muted ∧ step .muted good [good, good, good] = .recovering ∧
      step .recovering good [] = .recovering ∧ step .recovering bad [] = .holding ∧
      ((r .recovering).step { set with h := 0 } true bad [] []).rep.state = .muting ∧
      ((r .clean).step set false good [] []).rep.state = .muting ∧ ((r .muted).step set false good [] []).value = 0) ∧
    (let c : ConcealerState → Concealer := fun st => { Concealer.reset with state := st, last := 50 };
      let set := RepairSettings.reset;
      ((c .muted).step set (some 7)).1.state = .recovering ∧ ((c .live).step set none).1.state = .holding ∧
      ((c .live).step { set with h := 0 } none).1.state = .muting ∧ ((c .holding).step set (some 7)).2 = 7 ∧
      ((c .muted).step set none).2 = 0) := by decide +kernel

/-- R88: an ABORT after FADE_IN_END and before another pair fades out from the weight of the last blended sample. -/
theorem test_fade_out_from_last_blended :
    after (.abort .p1) { writing punch .recording with
        blend := ⟨⟨4096, 4032, none, none, true⟩, .reset, false, false, none⟩ }
      (fun t => t.blend.left.running == some ⟨.fadeOut, 64, 1⟩) := by decide +kernel

/-- R90, R141, R151: a fall to NONE with DIGITAL selected, the gate OPEN and the open pending. -/
theorem test_hyp_StatusRecordsAccepted_denied :
    (let r : StatusRecord := ⟨.consumer, false, .copy, .known .r48k, 0x21⟩;
      let e : EditEntry := { punch with source := 1 };
      let f : State → State := fun s => { s with
        rights := { RightsUnit.reset with lock := true, history := [r], digital := .rightsOne }
        formatter := { s.formatter with linkRate := some (.known .r48k) } };
      let s := f (writing e .recording);
      let w := f { holding e .recording with formatter := opening.formatter };
      (writingEntry s = true ∧ recordsNew s.editList[(0 : Fin 32)] = true ∧ selectedSource s = .digital ∧
        s.formatter.linkRate = some r.rate) ∧
      after (.statusRecord r) s (fun t => t.seq.state == .closing && t.blend.silence && t.formatter.gate == .opened &&
        t.seq.error.map (·.kind) == some .denied) ∧
      (w.formatter.gate = .closed ∧ w.formatter.pendingOpen.isSome = true ∧ writingEntry w = true) ∧
      after (.statusRecord r) w (fun t => t.seq.state == .fault && t.formatter.pendingOpen == none)) := by decide +kernel

/-- A switch that starts, one that is kept as pending, and a source that does not change. -/
theorem test_hyp_MonitorSwitches_word :
    after (.setMonitor .p1 1) State.reset (fun t => t.monitor.switch == some ⟨.pre, .newPath, 0⟩ &&
      t.rights.word == ⟨.copyNone, false, .copy⟩) ∧
    after (.setMonitor .p1 0) { State.reset with monitor := ⟨.input, .newPath, some ⟨.newPath, .blend, 3⟩, none⟩ }
      (fun t => t.monitor.pending == some .pre) ∧
    after (.setMonitor .p1 2) State.reset (fun t => t.monitor.switch == none) := by decide +kernel

/-- A frame written at tick 6 whose CONF completion is the one of tick 10, not read. -/
def overdue6 (seen : Bool) : State :=
  { writing punch .closing with
    formatter := { Formatter.reset with writeEnable := true, gate := .opened, written := [⟨100, 6⟩] }
    faults := { FaultMonitor.reset with
      lastConf := some 10
      records := { FaultRecords.reset with confirm := { FaultRecord.reset .latched with present := seen, seen := seen } } } }

/-- RECORD with a CONF decoder that completes a frame of identity `tag`, and one written frame of AFA 263. -/
def checking (tag : Byte) (flags : Bool) : State :=
  { writing punch .recording with
    confDecoder := ⟨.decoding, some ⟨tag, []⟩, none, true⟩
    formatter := { Formatter.reset with writeEnable := true, gate := .opened, written := [⟨263, 9⟩] }
    faults := { FaultMonitor.reset with heads := ⟨.reset, .reset, ⟨0, flags, flags⟩, ⟨0, flags, flags⟩⟩ } }

/-- R162, R163: NOT READ with CONFIRM absent and present; a CONF tally that matches no entry, one that fails it, and one that
leaves both tracks out. -/
theorem test_hyp_WrittenFramesTimeOut_checks :
    after .writtenListTimeout (overdue6 false) (fun t => t.seq.state == .fault && t.formatter.written == [] &&
      t.faults.records.confirm.detail == .confirm .notRead 100) ∧
    after .writtenListTimeout (overdue6 true) (fun t => t.seq.state == .closing && t.faults.records.confirm.detail == .absent) ∧
    beforeTick (checking 7 false) = checking 7 false ∧
    after (.frameTick .forward 20000) (checking 8 false) (fun t => t.formatter.written == [⟨263, 9⟩]) ∧
    after (.frameTick .forward 20000) (checking 7 false) (fun t => t.formatter.written == [] && t.seq.state == .fault &&
      t.faults.records.confirm.detail == .confirm .columns 263 && t.faults.lastConf == some 11) ∧
    after (.frameTick .forward 20000) (checking 7 true) (fun t => t.formatter.written == [] && t.seq.state == .recording) := by
  refine ⟨?_, ?_, rfl, ?_, ?_, ?_⟩ <;> decide +kernel

/-- `holding` at AFA `a` of a tape that reads. -/
def heldAt (a : Afa) (e : EditEntry) (st : SeqState) : State :=
  { holding e st with tapeMap := { State.reset.tapeMap with
      pos := { PositionRecord.reset with state := .read, afa := a, rate := some .r48k } } }

/-- R126 to R130: a position before, at and past the in-address; each refusal; a rehearsal; a position before and at the
out-address; the tick that brings the arrival. -/
theorem test_hyp_FetchFindsEntries_positions :
    (let at' : Afa → State → State := fun a s => seqFramePosition (some a) .read true s;
      let s := holding punch .armed;
      at' 99 s = { s with seq := { s.seq with lastPosition := some 99 } } ∧ (at' 100 s).seq.state = .recording ∧
      (at' 101 s).seq.error.map (·.kind) = some .late ∧
      (at' 100 { s with formatter := Formatter.reset }).seq.error.map (·.kind) = some .writeOff ∧
      (at' 100 { s with transport := { recording with prot := true } }).seq.error.map (·.kind) = some .tapeProtected ∧
      (at' 100 { s with transport := { recording with mode := .play } }).seq.error.map (·.detail) = some .notRecord ∧
      (at' 100 { s with transport := { recording with lock := false } }).seq.error.map (·.detail) = some .noLock ∧
      (at' 100 { s with transport := { recording with ratio := 1011 } }).seq.error.map (·.detail) = some .speed ∧
      (at' 100 (holding { punch with source := 1 } .armed)).seq.error.map (·.kind) = some .denied ∧
      (at' 100 (holding { punch with mode := 1 } .armed)).formatter.pendingOpen = none ∧
      (at' 104 (holding punch .recording)).seq.state = .recording ∧
      (at' 105 (holding punch .recording)).seq.state = .closing) ∧
    beforeTick (heldAt 100 punch .armed) = heldAt 100 punch .armed ∧
    after (.frameTick .forward 20000) (heldAt 100 punch .armed) (fun t => t.seq.state == .recording &&
      t.seq.lastPosition == some 100 && t.formatter.pendingOpen.map (·.first) == some 11 &&
      t.blend.left.pending == some ⟨.fadeIn, 64, 0, 1⟩) ∧
    after (.frameTick .forward 20000) (heldAt 105 { punch with mode := 1 } .recording) (fun t => t.seq.state == .closing &&
      t.faults.counters.jumps == 0 && t.blend.outAsked) ∧
    FaultRecords.reset.position.mode = .warn := by
  refine ⟨?_, rfl, ?_, ?_, rfl⟩ <;> decide +kernel

/-- Completion of SET REPAIR and SET THRESHOLDS, brought and not (R85, R168). -/
theorem test_hyp_SettingsBrought_completes :
    after (.setRepair .p1 (some 0) none (some 17) none) claimed (fun t => t.settings.p == 1 && t.settings.m == 32 &&
      t.ports.p1.response.result == .clamped) ∧
    after (.setThresholds .p1 896 40) claimed (fun t => t.faults.high == 896 && t.faults.low == 40 &&
      t.ports.p1.response.result == .ok) ∧
    after (.setThresholds .p1 897 897) claimed (fun t => t.faults.high == 896 && t.faults.low == 896 &&
      t.ports.p1.response.result == .clamped) := by decide +kernel

/-- INPUT in OFF, with DIGITAL selected by the entry that writes and no lock. -/
def inputOff (st : SeqState) : State :=
  { writing { punch with source := 1 } st with faults := { FaultMonitor.reset with
      records := { FaultRecords.reset with input := .reset .off } } }

theorem test_hyp_FaultModes_input :
    (inputOff .recording).faults.records.input.mode = .off ∧ writingEntry (inputOff .recording) = true ∧
    gateInPlay (inputOff .recording) = true ∧ selectedSource (inputOff .recording) = .digital ∧
    usable (inputOff .recording) = false ∧ faultsHeld (inputOff .recording) ∧
    after (.faultMode .p1 3 1) (inputOff .recording)
      (fun t => t.seq.error.map (·.kind) == some .input && t.formatter.closePoint == some .forced) ∧
    after (.faultMode .p1 3 2) (inputOff .recording)
      (fun t => t.seq.state == .recording && t.faults.records.input.present) ∧
    after (.faultMode .p1 3 0) (inputOff .armed) (fun t => t.faults.records.input.action) := by
  refine ⟨by decide, by decide, by decide, by decide, by decide, ⟨fun k => ?_, by decide, rfl, rfl⟩, ?_, ?_, ?_⟩
  · unfold FaultRecord.modeHeld
    cases k <;> decide
  all_goals decide +kernel

/-- PLAY with an EMPTY completion, seven numbers of 14 in the window and three bad tallies at each PRE head. -/
def tallying : State :=
  { blankPlay 0 with faults := { FaultMonitor.reset with
      window := List.replicate 7 4, positionTag := some 10
      records := { FaultRecords.reset with position := ⟨.warn, true, false, true, 1, none, .positionRange 0⟩ }
      heads := ⟨⟨3, false, false⟩, ⟨2, false, false⟩, .reset, .reset⟩ } }

/-- R165 to R168 at a tick: UNCORR and RATE raised, CLOG's fourth and third tallies, POSITION gone; a jump and a range clamp. -/
theorem test_hyp_FaultsCleared_tick :
    (∀ x, tallying.faults.positionTag = some x → x ≤ tallying.transport.tick) ∧
    after (.frameTick .forward 20000) tallying (fun t => t.faults.records.uncorr.detail == .uncorr .absent 40 40 &&
      t.faults.records.rate.detail == .rateSum 140 && t.faults.heads.preA == ⟨4, true, true⟩ &&
      t.faults.heads.preB == ⟨3, false, false⟩ && !t.faults.records.position.present) ∧
    after (.frameTick .forward 20000) (reading 103 (at100 (some ⟨103, 8⟩) 0))
      (fun t => t.faults.records.position.detail == .positionJump 103) ∧
    after (.frameTick .forward 20000) (reading 0 { at100 none 0 with state := .reckoned, afa := 1048575 })
      (fun t => t.faults.records.position.detail == .positionRange 1048575) := by
  refine ⟨fun x h => ?_, ?_, ?_, ?_⟩
  · cases h; decide
  all_goals decide +kernel

/-- A verify scan of PRE in SCANNING to AFA 100, begun at 99. -/
def scanning (loop : Bool) : State :=
  { blankPlay 0 with faults := { FaultMonitor.reset with verify := { VerifyRecord.reset with
      state := .scanning, start := some 99, stop := 100, threshold := 4, loop := loop } } }

/-- R175 to R177: below the end AFA and at it, with loop and without; each cause; WAITING at the start AFA and elsewhere; a
tick, a stall and a report that leave decode range. -/
theorem test_hyp_MonitorRequests_scan :
    (let k : Nat → Nat → Tally := fun n u => ⟨.absent, ⟨0, 0, n, 0, false⟩, ⟨0, 0, 0, 0, false⟩, u, 0⟩;
      let v := fun scan jumped t s => (verifyStep .pre scan jumped t s).faults.verify;
      let w : State := { scanning true with faults := { (scanning true).faults with
        verify := { (scanning true).faults.verify with state := .waiting } } };
      (v (some 99) false (k 4 0) (scanning false)).state = .scanning ∧
      (v (some 100) false (k 4 0) (scanning false)).state = .pass ∧ (v (some 100) false (k 0 0) (scanning true)).passes = 1 ∧
      (v (some 99) false (k 5 0) (scanning false)).failure.map (·.cause) = some .blocks ∧
      (v (some 99) false (k 5 1) (scanning false)).failure.map (·.cause) = some .columns ∧
      (v none true (k 5 1) (scanning false)).failure.map (·.cause) = some .position ∧
      (v none false (k 0 0) (scanning false)).checked = 1 ∧
      (v (some 99) false (k 0 0) w).state = .scanning ∧ (v (some 98) false (k 0 0) w).state = .waiting) ∧
    beforeTick (scanning false) = scanning false ∧
    after (.frameTick .forward 20000) (scanning false) (fun t => t.faults.verify.failure.map (·.cause) == some .columns) ∧
    after (.frameTick .reverse 20000) (scanning false) (fun t => t.faults.verify.stopCause == some .range) ∧
    after .stallTimeout (scanning false) (fun t => t.faults.verify.state == .stopped) ∧
    after (.modeReport .p1 1 0 1) { scanning false with claims := ⟨none, some .p1⟩ }
      (fun t => t.faults.verify.state == .stopped) ∧
    decodeRange (scanning false).transport = true := by
  refine ⟨?_, rfl, ?_, ?_, ?_, ?_, ?_⟩ <;> decide +kernel

/-- A debounce record of START 3 at 100 that has counted `n` packs, in PLAY with the index given. -/
def debouncing (n : Nat) (index : List IndexEntry) : State :=
  { State.reset with
    transport := { recording with mode := .play }
    tapeMap := { State.reset.tapeMap with index := index, debounce := some ⟨.start, 3, 100, 1, n, false⟩ } }

/-- R107 to R109: a pack that goes on, the third of a run that inserts, that rewrites the nearest, and that finds 64 entries;
one that begins anew and one that empties; FRAME_TICK in STOP. -/
theorem test_hyp_TapeMapRequests_debounce :
    (let next := fun s => (updateDebounce (some ⟨3, some .start, 2⟩) (some 102) .forward s).tapeMap;
      ((next (debouncing 1 [])).debounce.map (·.count) = some 2 ∧ (next (debouncing 1 [])).index = []) ∧
      (next (debouncing 2 [])).index = [⟨100, .start, 3, .read⟩] ∧
      (next (debouncing 2 [⟨98, .skip, 1, .written⟩])).index = [⟨98, .start, 3, .read⟩] ∧
      (next (debouncing 2 [⟨97, .skip, 1, .written⟩])).index.length = 2 ∧
      (next (debouncing 2 [⟨99, .start, 3, .written⟩])).index = [⟨99, .start, 3, .written⟩] ∧
      (next (debouncing 2 (fullIndex.map fun e => { e with start := e.start + 500 }))).indexFull = true) ∧
    (updateDebounce (some ⟨4, some .start, 2⟩) (some 102) .forward (debouncing 2 [])).tapeMap.debounce =
      some ⟨.start, 4, 100, 2, 1, false⟩ ∧
    (updateDebounce (some ⟨3, some .start, 2⟩) (some 1) .forward (debouncing 2 [])).tapeMap.debounce = none ∧
    (updateDebounce none (some 102) .forward (debouncing 2 [])).tapeMap.debounce = none ∧
    indexHeld (debouncing 2 [⟨98, .skip, 1, .written⟩]) ∧
    beforeTick (debouncing 2 []) = debouncing 2 [] ∧
    after (.frameTick .forward 20000) (debouncing 2 []) (fun t => t.tapeMap.debounce == none) := by
  refine ⟨by decide +kernel, by decide +kernel, by decide +kernel, by decide +kernel, ?_, rfl, by decide +kernel⟩
  unfold indexHeld
  decide

/-- R114: READ POSITION page 1 in RECORD, lock, no protection, ratio 1000; R192: pending RESET, no report, no attention. The
views of two payloads within their bounds. -/
theorem test_payload_bytes_wide :
    payloadBits (.transport ⟨.record, true, false, .forward, 1000, false, true, true⟩) = 0x0300010003E8000101000000#96 ∧
    payloadBits (.eventSets 1 2 4) = 0x000400010002000000000000#96 ∧
    (let v : SeqView := ⟨.idle, 0, none, false, false, false, 63, none, 0, none⟩; v.guard < 64 ∧ v.error = none) ∧
    (let v : VerifyView := ⟨.idle, .pre, some 1048575, 1048575, 112, false, 65535, 255, none⟩;
      v.start = some 1048575 ∧ v.stop ≤ 1048575 ∧ v.threshold ≤ 112 ∧ v.checked ≤ 65535 ∧ v.passes ≤ 255) := by decide

/-- The end of a fade-out that was asked for, with the last fade sample in frame 9. -/
def fadedOut (s : State) : State :=
  { s with blend := ⟨⟨8, 8, some ⟨.fadeOut, 64, 64⟩, none, true⟩, ⟨0, 0, none, none, true⟩, false, true, some 9⟩ }

/-- A rehearsal held in entry 0, in CLOSING, at the end of its fade-out. -/
def rehearsed (e : EditEntry) (q : Sequencer → Sequencer) : State :=
  let s := fadedOut (holding { e with mode := 1 } .closing)
  { s with seq := q s.seq }

/-- R89, R50: the close request of an open pending, of an OPEN gate with a build beyond the close point. R131, R133, R121: a
rehearsal ends COMPLETE, in FAULT, ABORTED, in HELD, and with a fetch of the next entry. -/
theorem test_hyp_FadesStartAndEnd_ends :
    after .fadeOutEnd (fadedOut opening) (fun t => t.formatter.closePoint == some (.normal 9) &&
      t.formatter.pendingOpen == some span8) ∧
    after .fadeOutEnd (let s := fadedOut (writing punch .closing);
        { s with formatter := { s.formatter with build := some { build9 with frame := 10 } } })
      (fun t => t.formatter.closePoint == some (.normal 9) && t.formatter.build == none) ∧
    (let e : EditEntry := { punch with endFlag := true };
      (rehearsed e id).blend.outAsked = true ∧ ((rehearsed e id).blend.get .left).fadingOut = false ∧
      isRehearsal (rehearsed e id).editList[(0 : Fin 32)] = true ∧
      after .fadeOutEnd (rehearsed e id) (fun t => t.seq.state == .idle && t.seq.lastClose == some (.complete, 0))) ∧
    after .fadeOutEnd (rehearsed punch fun q => { q with error := some ⟨.write, .run, 1, .absent, none⟩ })
      (fun t => t.seq.state == .fault && t.seq.pointer == 0) ∧
    after .fadeOutEnd (rehearsed punch fun q => { q with abortPending := true })
      (fun t => t.seq.state == .idle && t.seq.lastClose == some (.aborted, 0)) ∧
    after .fadeOutEnd (rehearsed punch fun q => { q with holdPending := true })
      (fun t => t.seq.state == .held && t.seq.pointer == 1) ∧
    after .fadeOutEnd (rehearsed punch id) (fun t => t.seq.state != .closing && t.seq.held == none) := by decide +kernel

/-- PAIR_PERIOD with the pair 100, 200 taken, weights 2048 and 1024 (a fade-in of 4 at 1), the outputs of `m`. -/
def blending (m : Monitor) (silence : Bool) : State :=
  { quiet ⟨.r48k, true, 0⟩ .running [⟨100, 200⟩] .pre (some build9) with
    monitor := m
    transport := { recording with mode := .play }
    preRepair := { State.reset.preRepair with output := { State.reset.preRepair.output with completed := true } }
    blend := ⟨⟨2048, 0, none, none, true⟩, ⟨0, 0, some ⟨.fadeIn, 4, 1⟩, none, true⟩, silence, false, none⟩ }

/-- R86 to R88, R93, R94, R84: floor (100 * 2048 + 2048) / 4096 = 50 and floor (200 * 1024 + 2048) / 4096 = 50 over silence
from the tape; 0 under silence; a switch half way; two MUTED marks. -/
theorem test_hyp_PairPeriodWorks_blend :
    settleDue (blending ⟨.auto, .blend, none, none⟩ false) = blending ⟨.auto, .blend, none, none⟩ false ∧
    after .pairPeriod (blending ⟨.auto, .blend, none, none⟩ false) (fun t =>
      t.outputs.left == 800 && t.outputs.right == 800 && t.blend.left.last == 2048 &&
      t.blend.right.running == some ⟨.fadeIn, 4, 2⟩ && t.blend.right.weight == 1024 &&
      (t.formatter.build.map fun b => b.placed.map fun q => (q.l.value, q.r.value, q.r.fade)) ==
        some [(50, 50, some .fadeIn)] && t.faults.counters.pre.muted == 2) ∧
    after .pairPeriod (blending ⟨.auto, .blend, none, none⟩ true) (fun t => t.outputs.left == 0 && t.outputs.right == 0) ∧
    settleDue (blending ⟨.auto, .pre, some ⟨.pre, .newPath, 32⟩, none⟩ false) =
      blending ⟨.auto, .pre, some ⟨.pre, .newPath, 32⟩, none⟩ false ∧
    after .pairPeriod (blending ⟨.auto, .pre, some ⟨.pre, .newPath, 32⟩, none⟩ false) (fun t =>
      t.outputs.left == 800 && t.outputs.right == 1600 && t.monitor.switch == some ⟨.pre, .newPath, 33⟩) := by
  refine ⟨rfl, by decide +kernel, by decide +kernel, rfl, by decide +kernel⟩

/-- CUE with a RIGHTS pack in the PRE decoder's CURRENT, and the candidate given. -/
def statingRights (c : Option RightsPack) : State :=
  reporting { State.reset with
    transport := { recording with mode := .cue }
    preDecoder := ⟨.subcode, some ⟨7, [⟨.a, 1, .clean, rightsPayload ⟨.copyOne, .pro⟩⟩]⟩, none, false⟩
    rights := { State.reset.rights with candidate := c, period := .rightsNone } }

/-- R148: the tick keeps the period rights and sets them again. R154: a first pack, and its candidate. A record with the
selected state unchanged and changed. -/
theorem test_hyp_RightsNeverRelax_tick :
    beforeTick (statingRights none) = statingRights none ∧ (statingRights none).seq.held = none ∧
    after (.frameTick .forward 20000) (statingRights none) (fun t => t.rights.kept == .rightsNone &&
      t.rights.period == selectedState (statingRights none) && t.rights.candidate == some ⟨.copyOne, .pro⟩ &&
      t.rights.tape == State.reset.rights.tape) ∧
    after (.frameTick .forward 20000) (statingRights (some ⟨.copyOne, .pro⟩)) (fun t =>
      t.rights.tape == ⟨.rightsOne, .pro⟩ && EventSet.has t.ports.p1.events .rightsChanged) ∧
    (let r : StatusRecord := ⟨.consumer, false, .copy, .known .r48k, 0x21⟩;
      let s : State := { State.reset with
        rights := { RightsUnit.reset with lock := true, history := [r], digital := .rightsOpen, period := .rightsOpen }
        formatter := { Formatter.reset with linkRate := some (.known .r48k), defaultSource := .digital } };
      writingEntry s = false ∧ selectedSource s = .digital ∧
      after (.statusRecord r) s (fun t => t.rights.digital == .rightsNone && t.rights.period == .rightsNone)) := by
  decide +kernel

/-- A frame of one pair at a tick, in STOP. -/
def unfinished : State :=
  { State.reset with
    transport := { recording with mode := .stop }
    formatter := { Formatter.reset with build := some { build9 with placed := [placedOf 0] } } }

/-- R43: the tick completes it with 0 in the slots not placed, and begins to send it. -/
theorem test_hyp_FramesCompleted_tick :
    beforeTick unfinished = unfinished ∧
    after (.frameTick .forward 20000) unfinished (fun t => t.seq.state != .fault &&
      (t.formatter.sending.orElse fun _ => t.formatter.ready.map fun f => (f, .a)).any fun x =>
        x.1.afa == 100 && x.1.left.take 3 == [1, 0, 0] && x.1.right.length == 960 && x.1.program == build9.program) := by
  refine ⟨rfl, ?_⟩
  decide +kernel

/-- A span from frame 8 on, its first frame at AFA `a` and its gate CLOSED, or OPEN after the frame and number of `prev`. -/
def beginning (kind : WriteKind) (prev : Option (Afa × Nat)) (a : Afa) (k : Option Marker) : State :=
  let sp : Span := ⟨8, some a, kind, k, some 5000, .blank, prev⟩
  let s := writing punch .recording
  { s with
    formatter := { s.formatter with
      gate := if prev.isSome then .opened else .closed
      pendingOpen := if prev.isSome then none else some sp
      openSpan := if prev.isSome then some sp else none
      oldNow := some { build9.old with program := some ⟨7, none, 0⟩ } }
    tapeMap := { s.tapeMap with index := [⟨10000, .start, 1, .read⟩, ⟨20000, .start, 2, .read⟩] } }

/-- R44, R45, R47, R54, R113, R129: a punched first frame, a later one, an ASSEMBLE from BLANK, an AUTO marker after START 2;
the two stops of each kind. -/
theorem test_hyp_MarkRunEnds_build :
    (let made := fun s => (buildStart s).formatter.build.map fun b => (b.frame, b.afa, b.program);
      made (beginning .punch none 100 none) = some (9, 100, ⟨7, none, 0⟩) ∧
      made (beginning .punch (some (100, 7)) 0 none) = some (9, 101, ⟨7, none, 0⟩) ∧
      made (beginning .assemble none 100 none) = some (9, 5000, ⟨0, none, 0⟩) ∧
      made (beginning .assemble (some (100, 3)) 0 none) = some (9, 101, ⟨3, none, 0⟩) ∧
      made (beginning .punch none 25000 (some ⟨.start, 0⟩)) = some (9, 25000, ⟨3, some .start, 0⟩) ∧
      made (beginning .punch none 9000 (some ⟨.skip, 0⟩)) = some (9, 9000, ⟨1, some .skip, 0⟩) ∧
      made State.reset = none) ∧
    (let stop := fun s => ((buildStart s).seq.state, (buildStart s).seq.error.map fun e => (e.kind, e.detail));
      let slow : State → State := fun s => { s with clock := { s.clock with rate := .r44k1 } };
      stop (slow (beginning .punch none 100 none)) = (.fault, some (.rate, .absent)) ∧
      stop (slow (beginning .punch (some (100, 7)) 0 none)) = (.closing, some (.rate, .absent)) ∧
      stop (beginning .punch none 1048576 none) = (.fault, some (.range, .address)) ∧
      stop (beginning .punch (some (1048575, 7)) 0 none) = (.closing, some (.range, .address)) ∧
      (buildStart (beginning .punch (some (1048575, 7)) 0 none)).formatter.closePoint = some (.normal 8)) ∧
    indexHeld (beginning .punch none 25000 none) := by
  refine ⟨by decide +kernel, by decide +kernel, ?_⟩
  unfold indexHeld
  decide

/-- R54, R132, R50: a run that ends with the gate OPEN, with a close point and a build beyond it, and with the open pending;
the tick that begins a frame. -/
theorem test_hyp_MarkRunEnds_closes :
    (let s := writing markEntry .recording;
      let run := fun f : Formatter => { f with run := some ⟨.start, 3, 100⟩ };
      after .markerRunEnd { s with formatter := run { s.formatter with closePoint := some (.normal 7), build := some build9 } }
        (fun t => t.seq.state == .closing && t.formatter.closePoint == some (.normal 7) && t.formatter.build == none) ∧
      after .markerRunEnd { s with formatter := run { opening.formatter with pendingOpen := some { span8 with first := 12 } } }
        (fun t => t.seq.state == .closing && t.formatter.closePoint == some (.normal 12)) ∧
      after .markerRunEnd { s with formatter := run { s.formatter with closePoint := some .forced } }
        (fun t => t.formatter.closePoint == some .forced)) ∧
    (let s := beginning .punch (some (100, 7)) 0 none;
      beforeTick s = s ∧
      after (.frameTick .forward 20000) s (fun t => t.formatter.build.any (fun b => b.frame == 10 && b.afa == 101) &&
        t.formatter.oldNext.any (fun o => o.frame == 11 && !o.completed))) := by
  refine ⟨by decide +kernel, rfl, by decide +kernel⟩

/-- R148, R41: another selected source, and another analog right of the selected source, make the period rights more
restrictive. -/
theorem test_hyp_RecordSettings_period :
    after (.setRecord .p1 none (some 1) none) claimed (fun t => t.rights.period == .rightsUnstated) ∧
    after (.setRecord .p1 none none (some 1)) { claimed with rights := { claimed.rights with period := .rightsOpen } }
      (fun t => t.rights.period == .rightsOne) := by decide +kernel

/-- A verify scan of CONF in WAITING at AFA 263 whose frame, of the identity `tag` and without a POSITION pack, is completed. -/
def confScanning (tag : Byte) : State :=
  let s := checking tag true
  { s with faults := { s.faults with verify := { VerifyRecord.reset with
      state := .waiting, source := .conf, start := some 263, stop := 300, threshold := 112 } } }

/-- R175: low bits 7 match the written frame of AFA 263 (263 = 256 + 7), at which the scan begins; low bits 8 match none. -/
theorem test_hyp_MonitorRequests_matched :
    beforeTick (confScanning 7) = confScanning 7 ∧ (confScanning 7).transport.mode ≠ .unloaded ∧
    (confScanning 7).formatter.written = [] ++ ⟨263, 9⟩ :: [] ∧
    after (.frameTick .forward 20000) (confScanning 7) (fun t => t.faults.verify.state != .waiting &&
      t.faults.verify.checked == 1 && t.faults.verify.failure.map (·.afa) == some (some 263)) ∧
    after (.frameTick .forward 20000) (confScanning 8) (fun t => t.faults.verify.state == .waiting) := by
  refine ⟨rfl, by decide, rfl, by decide +kernel, by decide +kernel⟩

/-- R174, R184: a threshold of 113 is brought to 112 and the payload gives it after WAITING; 112 stands. -/
theorem test_verifyStart_clamped :
    after (.verifyStart .p1 0 (some 5) 9 113 false) State.reset (fun t =>
      t.ports.p1.response == ⟨.clamped, 0x18, .verifyClamped .waiting 112⟩ && t.faults.verify.threshold == 112) ∧
    after (.verifyStart .p1 0 (some 5) 9 112 false) State.reset (fun t =>
      t.ports.p1.response == ⟨.ok, 0x18, .verifyState .waiting⟩) ∧
    payloadBits (.verifyClamped .waiting 112) = 0x017000000000000000000000#96 := by decide +kernel

/-- A DIGITAL entry with a usable input at the record rate, the fault mode of INPUT and the gate given. -/
def digitalEntry (m : FaultMode) (st : SeqState) (f : Formatter) : State :=
  let s := writing { punch with source := 1 } st
  reporting { s with
    rights := { s.rights with lock := true, digital := .rightsOpen, period := .rightsOpen }
    formatter := { f with writeEnable := true, linkRate := some (.known .r48k), defaultSource := .digital }
    faults := { FaultMonitor.reset with records := { FaultRecords.reset with input := .reset m } } }

/-- R138, R148, R152, R164: the loss of lock while DIGITAL is selected and usable: LATCHED and AUTO close by force an entry
that writes, WARN reports it alone, OFF stays silent; an entry that is ARMED keeps the sequencer. -/
theorem test_hyp_LockLostAndRegained_input :
    (let s := digitalEntry .latched .recording { Formatter.reset with gate := .opened };
      s.rights.lock = true ∧ s.formatter.linkRate = some (.known s.formatter.recordRate) ∧ selectedSource s = .digital ∧
      s.seq.held = some 0 ∧ writingEntry s = true ∧ gateInPlay s = true ∧ s.faults.records.input.present = false ∧
      EventSet.has (s.ports.get .p1).report .faultRaised = true ∧
      after .lossOfLock s (fun t => t.seq.state == .fault && t.seq.error.map (·.kind) == some .input &&
        t.formatter.closePoint == some .forced && t.rights.period == .rightsUnstated && t.faults.records.input.present &&
        EventSet.has (t.ports.get .p1).events .faultRaised)) ∧
    after .lossOfLock (digitalEntry .auto .closing { Formatter.reset with gate := .opened }) (fun t =>
      t.seq.state == .fault && t.formatter.closePoint == some .forced) ∧
    after .lossOfLock (digitalEntry .warn .recording { Formatter.reset with gate := .opened }) (fun t =>
      t.seq.state == .recording && t.formatter.closePoint == none && t.faults.records.input.present) ∧
    after .lossOfLock (digitalEntry .off .recording { Formatter.reset with gate := .opened }) (fun t =>
      t.seq.state == .recording && !t.faults.records.input.present) ∧
    (writingEntry (digitalEntry .latched .armed Formatter.reset) = false ∧
      after .lossOfLock (digitalEntry .latched .armed Formatter.reset) (fun t =>
        t.seq.state == .armed && t.faults.records.input.action && t.rights.period == .rightsUnstated)) := by
  refine ⟨?_, ?_, ?_, ?_, ?_⟩ <;> decide +kernel

/-- R155: the output copy state of the source PRE alone, and of the switch from PRE to NEW. -/
theorem test_hyp_OutputRights_switch :
    (let s : State := { State.reset with
        rights := { RightsUnit.reset with tape := ⟨.rightsOne, .pro⟩ }
        formatter := { Formatter.reset with analogRights := .copyNone } };
      outputCopy { s with monitor := ⟨.auto, .pre, none, none⟩ } = .rightsOne ∧
      outputCopy { s with monitor := ⟨.auto, .newPath, none, none⟩ } = .rightsNone ∧
      outputCopy { s with monitor := ⟨.auto, .pre, some ⟨.pre, .newPath, 3⟩, none⟩ } = .rightsNone ∧
      (refreshWord { s with monitor := ⟨.auto, .pre, none, none⟩ }).rights.word.copy = .copyOne) := by decide

/-- R165: two heads raised at one tally count twice, at 254 once; the end of a head's AUTO action reports FAULT_ENDED. -/
theorem test_hyp_FaultsCleared_heads :
    (let s : Nat → State := fun n => reporting { tallying with faults := { tallying.faults with
        records := { tallying.faults.records with clog := { tallying.faults.records.clog with count := n } }
        heads := ⟨⟨3, false, false⟩, ⟨3, false, false⟩, .reset, .reset⟩ } };
      (s 0).transport.mode ≠ .unloaded ∧
      after (.frameTick .forward 20000) (s 0) (fun t => t.faults.records.clog.count == 2 && t.faults.heads.preB.present &&
        EventSet.has (t.ports.get .p1).events .faultRaised) ∧
      after (.frameTick .forward 20000) (s 254) (fun t => t.faults.records.clog.count == 255)) ∧
    (let full : Assembly := ⟨7, (List.range 28).map fun i => ⟨.a, i + 2, .clean, List.replicate 40 0⟩⟩;
      let s := reporting { tallying with
        preDecoder := ⟨.decoding, some full, none, true⟩
        faults := { tallying.faults with
          records := { tallying.faults.records with clog := ⟨.auto, true, true, true, 1, none, .clogHead .pre .a⟩ }
          heads := ⟨⟨4, true, true⟩, .reset, .reset, .reset⟩ } };
      (s.faults.heads.get .pre .a).action = true ∧ (s.faults.heads.get .pre .a).present = true ∧
      after (.frameTick .forward 20000) s (fun t => t.faults.heads.preA == ⟨0, false, false⟩ &&
        EventSet.has (t.ports.get .p1).events .faultEnded)) := by
  refine ⟨⟨by decide, ?_, ?_⟩, by decide, by decide, ?_⟩ <;> decide +kernel

/-- R106, R108: the third pack of a run, whose confirmation inserts an entry and reports INDEX_CHANGED, or finds it there and
does not; the same at a FRAME_TICK. -/
theorem test_hyp_TapeMapRequests_changed :
    (let next := fun s => updateDebounce (some ⟨3, some .start, 2⟩) (some 102) .forward (reporting s);
      let told := fun s : State => EventSet.has (s.ports.get .p1).events .indexChanged;
      told (next (debouncing 2 [])) = true ∧ told (next (debouncing 2 [⟨99, .start, 3, .written⟩])) = false) ∧
    (let s := reporting { debouncing 2 [] with
        preDecoder := ⟨.decoding, some ⟨7, [⟨.a, 0, .clean, positionPayload ⟨102, .r48k⟩⟩,
          ⟨.a, 58, .clean, programPayload ⟨3, some .start, 2⟩⟩]⟩, none, true⟩ };
      beforeTick s = s ∧ s.transport.mode ≠ .unloaded ∧
      after (.frameTick .forward 20000) s (fun t => t.tapeMap.index == [⟨100, .start, 3, .read⟩] &&
        EventSet.has (t.ports.get .p1).events .indexChanged)) := by
  refine ⟨by decide +kernel, rfl, by decide, by decide +kernel⟩

/-- R76: a GOOD sample of the output frame at its index, and a BAD one beyond the frame's two. -/
theorem test_hyp_GapsConcealed_given :
    let u : RepairUnit := { RepairUnit.reset with
      output := { RepairUnit.reset.output with left := [⟨5, true⟩, ⟨6, true⟩] }, left := clean none };
    u.output.left = [⟨5, true⟩] ++ ⟨6, true⟩ :: [] ∧ u.output.left.length ≤ 2 ∧
    (u.giveLeft RepairSettings.reset true 1).value = 6 ∧ (u.giveLeft RepairSettings.reset true 2).mark = .held := by
  decide

/-- R160, R172, R194: FAULT MODE answers with CLOG's record alone, changed or not; READ FAULTS adds the heads. -/
theorem test_faultMode_record_alone :
    after (.faultMode .p1 4 2) claimed (fun t =>
      t.ports.p1.response == ⟨.ok, 0x52, .kindRecord .clog { FaultRecords.reset.clog with mode := .warn }⟩) ∧
    after (.faultMode .p1 4 1) claimed (fun t =>
      t.ports.p1.response == ⟨.ok, 0x52, .kindRecord .clog FaultRecords.reset.clog⟩) ∧
    after (.readFaults .p1 4) claimed (fun t => t.ports.p1.response ==
      ⟨.ok, 0x14, .faultRecord .clog FaultRecords.reset.clog claimed.faults.heads.list none⟩) := by decide +kernel

end Sys2Proof.Tests
end

namespace Sys2Proof.Machine
open Sys2Proof

/-! ## Samples and symbols (R4) -/

/-- The pattern of a sample of 20 bits (R4). -/
theorem samplePattern_cast {v : Int} (h : -524288 ≤ v) :
    (samplePattern v : Int) = if 0 ≤ v then v else v + 1048576 :=
  Int.toNat_of_nonneg (by split <;> omega)

/-- The pattern of a sample of 20 bits has 20 bits. -/
theorem samplePattern_le {v : Int} (h : -524288 ≤ v) (h' : v ≤ 524287) : samplePattern v ≤ 1048575 := by
  have := samplePattern_cast h
  split at this <;> omega

theorem highSymbol_toNat {v : Int} (h : -524288 ≤ v) (h' : v ≤ 524287) :
    (highSymbol v).toNat = samplePattern v / 1024 := by
  have := samplePattern_le h h'
  simp only [highSymbol, BitVec.toNat_ofNat]
  omega

theorem lowSymbol_toNat (v : Int) : (lowSymbol v).toNat = samplePattern v % 1024 := by
  simp only [lowSymbol, BitVec.toNat_ofNat]
  omega

/-- Two symbols rebuild the sample whose pattern they are the quotient and remainder of. -/
theorem rebuildSample_eq {high low : Symbol} {u : Nat} (hu : high.toNat * 1024 + low.toNat = u) :
    rebuildSample high low = if u < 524288 then (u : Int) else (u : Int) - 1048576 := by
  subst hu
  rfl

/-- The two symbols of a sample rebuild it (R4). -/
theorem rebuildSample_symbols {v : Int} (h : -524288 ≤ v) (h' : v ≤ 524287) :
    rebuildSample (highSymbol v) (lowSymbol v) = v := by
  have hu := samplePattern_cast h
  have hle := samplePattern_le h h'
  have hsplit : samplePattern v / 1024 * 1024 + samplePattern v % 1024 = samplePattern v := by omega
  rw [← highSymbol_toNat h h', ← lowSymbol_toNat] at hsplit
  rw [rebuildSample_eq hsplit]
  show @Eq Int _ v
  split at hu <;> split <;> omega

/-- Settles O22: the two symbols are the quotient and the remainder of the sample's pattern. -/
theorem symbolsCarrySamples : Obligations.SymbolsCarrySamples := by
  refine ⟨fun v h h' => ?_, fun hi lo => ⟨_, rfl, rebuildSample_eq rfl⟩⟩
  have hle := samplePattern_le h h'
  show _ ≤ _ ∧ _
  rw [← samplePattern_cast h]
  refine ⟨Int.natCast_nonneg _, Int.ofNat_le.mpr hle, ?_, ?_, rebuildSample_symbols h h'⟩
  · rw [highSymbol_toNat h h', Int.natCast_ediv]
    rfl
  · rw [lowSymbol_toNat, Int.natCast_emod]
    rfl

/-! ## Packs (R13 to R17, R200) -/

/-- Field `i` of a payload of up to 40 fields of 10 bits (R200). -/
theorem field_packPayload {fields : List Nat} {i n : Nat} (hi : fields[i]? = some n) (hn : n < 1024) :
    field (packPayload fields) i = n := by
  have hlt : i < fields.length := (List.getElem?_eq_some_iff.mp hi).1
  have : (packPayload fields)[i]? = some (BitVec.ofNat 10 n) := by
    rw [packPayload, List.getElem?_append_left (by simpa using hlt), List.getElem?_map, hi]
    rfl
  rw [field, List.getD_eq_getElem?_getD, this]
  simp [Nat.mod_eq_of_lt hn]

@[simp] theorem rateOfCode_codeOfRate (r : Rate) : rateOfCode (codeOfRate r) = some r := by cases r <;> rfl
@[simp] theorem copyOfCode_codeOfCopy (c : CopyState) : copyOfCode (codeOfCopy c) = some c := by cases c <;> rfl
@[simp] theorem classOfCode_codeOfClass (c : SourceClass) : classOfCode (codeOfClass c) = some c := by cases c <;> rfl
@[simp] theorem markerOfCode_codeOfMarker (m : Option MarkerKind) : markerOfCode (codeOfMarker m) = some m := by
  rcases m with _ | _ | _ <;> rfl

theorem codeOfRate_lt (r : Rate) : codeOfRate r < 1024 := by cases r <;> decide
theorem codeOfCopy_lt (c : CopyState) : codeOfCopy c < 1024 := by cases c <;> decide
theorem codeOfClass_lt (c : SourceClass) : codeOfClass c < 1024 := by cases c <;> decide
theorem codeOfMarker_lt (m : Option MarkerKind) : codeOfMarker m < 1024 := by rcases m with _ | _ | _ <;> decide

/-- A number of 20 bits is the value of the two symbols it is split into (R195). -/
theorem symbolPairValue_split {high low : Symbol} {n : Nat} (hhigh : high.toNat = n / 1024)
    (hlow : low.toNat = n % 1024) : symbolPairValue high low = n := by
  unfold symbolPairValue
  omega

theorem parsePosition_payload (k : PositionPack) (h : k.afa ≤ 1048575) :
    parsePosition (positionPayload k) = some k := by
  have hrate : field (positionPayload k) 2 = codeOfRate k.rate := field_packPayload rfl (codeOfRate_lt _)
  have hhigh : field (positionPayload k) 0 = k.afa / 1024 :=
    field_packPayload rfl (Nat.div_lt_of_lt_mul (Nat.lt_succ_of_le h))
  have hlow : field (positionPayload k) 1 = k.afa % 1024 := field_packPayload rfl (Nat.mod_lt _ (by decide))
  unfold parsePosition
  rw [hrate, rateOfCode_codeOfRate, symbolPairValue_split hhigh hlow]
  rfl

theorem parseRights_payload (k : RightsPack) : parseRights (rightsPayload k) = some k := by
  have hcopy : field (rightsPayload k) 0 = codeOfCopy k.copy := field_packPayload rfl (codeOfCopy_lt _)
  have hcls : field (rightsPayload k) 1 = codeOfClass k.cls := field_packPayload rfl (codeOfClass_lt _)
  simp [parseRights, hcopy, hcls]

theorem parseProgram_payload (k : ProgramPack) (hn : k.number ≤ 999) (hr : k.runIndex ≤ 99)
    (hm : k.marker.isSome = true → k.number ≠ 0) : parseProgram (programPayload k) = some k := by
  have hnum : field (programPayload k) 0 = k.number := field_packPayload rfl (by omega)
  have hmark : field (programPayload k) 1 = codeOfMarker k.marker := field_packPayload rfl (codeOfMarker_lt _)
  have hrun : field (programPayload k) 2 = k.runIndex := field_packPayload rfl (by omega)
  simp only [parseProgram, hnum, hmark, hrun, markerOfCode_codeOfMarker]
  rw [if_pos ⟨hn, hr, hm⟩]

theorem parseEdit_payload (k : EditPack) (h : k.generation ≤ 255) : parseEdit (editPayload k) = some k := by
  have hgen : field (editPayload k) 0 = k.generation := field_packPayload rfl (by omega)
  have hsplice : field (editPayload k) 1 = if k.splice then 1 else 0 := field_packPayload rfl (by split <;> decide)
  have hkind : field (editPayload k) 2 = match k.kind with | .spliceIn => 0 | .spliceOut => 1 :=
    field_packPayload rfl (by split <;> decide)
  obtain ⟨generation, splice, kind⟩ := k
  simp only [parseEdit, hgen, hsplice, hkind]
  cases splice <;> cases kind <;> simp [h]

theorem rateOfCode_eq_none {n : Nat} (h : 1 < n) : rateOfCode n = none := by
  match n, h with
  | n + 2, _ => rfl

theorem copyOfCode_eq_none {n : Nat} (h : 2 < n) : copyOfCode n = none := by
  match n, h with
  | n + 3, _ => rfl

theorem classOfCode_eq_none {n : Nat} (h : 3 < n) : classOfCode n = none := by
  match n, h with
  | n + 4, _ => rfl

theorem markerOfCode_eq_none {n : Nat} (h : 2 < n) : markerOfCode n = none := by
  match n, h with
  | n + 3, _ => rfl

/-- Only code 0 is the code of marker kind NONE. -/
theorem markerOfCode_isSome {n : Nat} {m : Option MarkerKind} (h : markerOfCode n = some m) (hn : n ≠ 0) :
    m.isSome = true := by
  match n, hn with
  | 1, _ => cases h; rfl
  | 2, _ => cases h; rfl
  | n + 3, _ => cases h

theorem parseRights_eq_none {p : List Symbol} (h : 2 < field p 0 ∨ 3 < field p 1) : parseRights p = none := by
  unfold parseRights
  rcases h with h | h
  · rw [copyOfCode_eq_none h]
  · rw [classOfCode_eq_none h]
    split <;> simp_all

theorem parseProgram_eq_none {p : List Symbol}
    (h : 999 < field p 0 ∨ 2 < field p 1 ∨ 99 < field p 2 ∨ (field p 1 ≠ 0 ∧ field p 0 = 0)) :
    parseProgram p = none := by
  unfold parseProgram
  split
  · rfl
  · next mk hmk =>
    refine if_neg fun ⟨hnum, hrun, hmarker⟩ => ?_
    rcases h with h | h | h | ⟨hcode, hzero⟩
    · omega
    · rw [markerOfCode_eq_none h] at hmk
      cases hmk
    · omega
    · exact hmarker (markerOfCode_isSome hmk hcode) hzero

theorem parseEdit_eq_none {p : List Symbol} (h : 255 < field p 0 ∨ 1 < field p 1 ∨ 1 < field p 2) :
    parseEdit p = none := by
  unfold parseEdit
  exact if_neg fun ⟨hgen, hsplice, hkind⟩ => by omega

/-- Settles O23, pack by pack. -/
theorem packsReadBack : Obligations.PacksReadBack := by
  refine ⟨parsePosition_payload, parseRights_payload, parseProgram_payload, parseEdit_payload, fun p =>
    ⟨fun h => ?_, parseRights_eq_none, parseProgram_eq_none, parseEdit_eq_none⟩⟩
  have : rateOfCode (field p 2) = none := rateOfCode_eq_none h
  rw [parsePosition, this]
  rfl

/-! ## Block headers (R8, R200) -/

theorem headerGood_iff (h : BlockHeader) (t : Track) : headerGood h t = true ↔
    h.s0 + h.s1 + h.s2 = 1023#10 ∧ headerNumber h ≤ 59 ∧ headerTrack h = t := by
  simp [headerGood, headerCheck, and_assoc]

theorem makeHeader_check (n : Nat) (t : Track) (afa : Afa) :
    (makeHeader n t afa).s0 + (makeHeader n t afa).s1 + (makeHeader n t afa).s2 = 1023#10 :=
  add_sub_cancel _ _

/-- The first header symbol holds the block number and the track bit (R200). -/
theorem makeHeader_s0 (n : Nat) (t : Track) (afa : Afa) (hn : n ≤ 59) :
    (makeHeader n t afa).s0.toNat = n * 16 + match t with | .a => 0 | .b => 8 := by
  cases t <;> simp only [makeHeader, BitVec.toNat_ofNat] <;> omega

theorem headerNumber_makeHeader (n : Nat) (t : Track) (afa : Afa) (hn : n ≤ 59) :
    headerNumber (makeHeader n t afa) = n := by
  rw [headerNumber, makeHeader_s0 n t afa hn]
  cases t <;> simp only <;> omega

theorem headerTrack_makeHeader (n : Nat) (t : Track) (afa : Afa) (hn : n ≤ 59) :
    headerTrack (makeHeader n t afa) = t := by
  rw [headerTrack, makeHeader_s0 n t afa hn]
  cases t
  · exact if_pos (by simp only; omega)
  · exact if_neg (by simp only; omega)

theorem headerTag_makeHeader (n : Nat) (t : Track) (afa : Afa) :
    (headerTag (makeHeader n t afa)).toNat = afa % 256 := by
  simp only [headerTag, makeHeader, BitVec.toNat_ofNat]
  omega

theorem otherTrack_ne (t : Track) : t ≠ otherTrack t := by cases t <;> decide

theorem arrivalResult_of_good {blk : BlockArrival} (h : headerGood blk.header blk.track = true) :
    arrivalResult blk = blk.inner := if_pos h

theorem arrivalResult_of_bad {blk : BlockArrival} (h : headerGood blk.header blk.track ≠ true) :
    arrivalResult blk = .lost := if_neg h

/-- Settles O24. -/
theorem headersReadBack : Obligations.HeadersReadBack := by
  refine ⟨fun n t afa hn _ => ?_, fun blk => ⟨fun h => arrivalResult_of_bad fun hg => ?_, fun hc hn ht =>
    arrivalResult_of_good ((headerGood_iff _ _).mpr ⟨hc, hn, ht⟩)⟩⟩
  · have hnum := headerNumber_makeHeader n t afa hn
    have htrack := headerTrack_makeHeader n t afa hn
    refine ⟨(headerGood_iff _ _).mpr ⟨makeHeader_check n t afa, hnum.trans_le hn, htrack⟩, hnum, htrack,
      headerTag_makeHeader n t afa, ?_⟩
    rw [Bool.eq_false_iff]
    intro hg
    obtain ⟨-, -, hother⟩ := (headerGood_iff _ _).mp hg
    exact otherTrack_ne t (htrack.symm.trans hother)
  · obtain ⟨hcheck, hnum, htrack⟩ := (headerGood_iff _ _).mp hg
    rcases h with h | h | h
    · exact h hcheck
    · omega
    · exact h htrack

/-! ## The matrix (R2, R5, R11) -/

/-- 29 is the inverse of 5 modulo 48, so the residue of the row of a slot is the slot's (R5). -/
theorem slotAt_rowOf (n e : Nat) (he : e < 2) : slotAt (rowOf n) (2 * colPair n + e) = n := by
  unfold slotAt rowOf colPair residue
  omega

theorem rowOf_lt (n : Nat) : rowOf n < 48 := Nat.mod_lt _ (by decide)

theorem colPair_lt {n : Nat} (hn : n < 960) : colPair n < 20 := by
  unfold colPair
  omega

theorem slotAt_lt (r : Nat) {col : Nat} (hcol : col < 40) : slotAt r col < 960 := by
  unfold slotAt residue
  omega

theorem rowOf_slotAt {r : Nat} (col : Nat) (hr : r < 48) : rowOf (slotAt r col) = r := by
  unfold rowOf slotAt residue
  omega

theorem colPair_slotAt (r col : Nat) : colPair (slotAt r col) = col / 2 := by
  unfold colPair slotAt residue
  omega

theorem isPadding_iff (rate : Rate) (r col : Nat) :
    isPadding rate r col = true ↔ r < 48 ∧ pairsPerFrame rate ≤ slotAt r col := by simp [isPadding]

theorem not_isPadding_of_check {r : Nat} (rate : Rate) (col : Nat) (hr : 48 ≤ r) : isPadding rate r col = false :=
  Bool.eq_false_iff.mpr fun h => absurd ((isPadding_iff _ _ _).mp h).1 (by omega)

theorem not_isPadding_48k (r : Nat) {col : Nat} (hcol : col < 40) : isPadding .r48k r col = false :=
  Bool.eq_false_iff.mpr fun h => absurd ((isPadding_iff _ _ _).mp h).2 (Nat.not_le_of_gt (slotAt_lt r hcol))

/-- Settles O25. -/
theorem matrixHoldsEverySlot : Obligations.MatrixHoldsEverySlot := by
  refine ⟨fun n hn => ⟨rowOf_lt n, colPair_lt hn, slotAt_rowOf n 0 (by decide), slotAt_rowOf n 1 (by decide)⟩,
    fun r col hr hcol => ⟨slotAt_lt r hcol, rowOf_slotAt col hr, colPair_slotAt r col, ?_, not_isPadding_48k r hcol⟩,
    fun r col hr => not_isPadding_of_check _ col hr⟩
  rw [isPadding_iff]
  exact ⟨fun h => h.2, fun h => ⟨hr, h⟩⟩

end Sys2Proof.Machine

namespace Sys2Proof.Machine
open Sys2Proof

/-! ## The columns of a track (R5, R11), row by row -/

/-- The 56 rows of a column, row `r` as `F` gives it. -/
def columnOf (F : Nat → Symbol × Bool) : List (Symbol × Bool) := (List.range 56).map F

theorem columnOf_getElem? (F : Nat → Symbol × Bool) {r : Nat} (hr : r < 56) : (columnOf F)[r]? = some (F r) := by
  simp [columnOf, hr]

theorem columnOf_congr {F G : Nat → Symbol × Bool} (h : ∀ r, r < 56 → F r = G r) : columnOf F = columnOf G :=
  List.map_congr_left fun r hr => h r (List.mem_range.mp hr)

theorem erasures_columnOf (F : Nat → Symbol × Bool) :
    erasures (columnOf F) = (List.range 56).countP fun r => (F r).2 := by
  simp [erasures, columnOf, List.countP_map, Function.comp_def]

/-- The columns that go into the outer decode, of 56 rows (R2, R11). -/
theorem columnIn_rows (rate : Rate) (g : Nat → TrackRow) (col : Nat) :
    columnIn rate ((List.range 56).map g) col =
      columnOf fun r => if isPadding rate r col then (0, false) else ((g r).symbols.getD col 0, (g r).flagged) := by
  apply List.ext_getElem
  · simp [columnIn, columnOf]
  · intro r _ _
    simp [columnIn, columnOf]

theorem decodeTrack_getElem? (rate : Rate) (rows : List TrackRow) {col : Nat} (h : col < 40) :
    (decodeTrack rate rows)[col]? = some (decodeColumn (columnIn rate rows col)) := by simp [decodeTrack, h]

/-- A column with no row flagged, or with more than 8, is left as it is (R11). -/
theorem decodeColumn_eq_self {c : List (Symbol × Bool)} (h : erasures c = 0 ∨ 9 ≤ erasures c) : decodeColumn c = c :=
  if_neg (by omega)

/-! ## The outer decode of 1 to 8 flagged rows (R6, R11) -/

/-- What the outer decode knows of a column: the symbols of the rows not flagged. -/
def knownOf (F : Nat → Symbol × Bool) : List (Option Symbol) :=
  (List.range 56).map fun r => if (F r).2 then none else some (F r).1

theorem knownOf_getD (F : Nat → Symbol × Bool) {r : Nat} (hr : r < 56) :
    (knownOf F).getD r none = if (F r).2 then none else some (F r).1 := by
  simp [knownOf, hr]

theorem knownOf_eq_some {F : Nat → Symbol × Bool} {r : Nat} {v : Symbol} (hr : r < 56)
    (h : (knownOf F).getD r none = some v) : (F r).2 = false ∧ (F r).1 = v := by
  rw [knownOf_getD F hr] at h
  split at h <;> simp_all

/-- The rows not known are the rows flagged. -/
theorem unknownRows_knownOf (F : Nat → Symbol × Bool) :
    (unknownRows (knownOf F)).card = (List.range 56).countP fun r => (F r).2 := by
  have hflag : ∀ r : Fin 56, ((knownOf F).getD r.val none).isNone = (F r.val).2 := fun r => by
    rw [knownOf_getD F r.isLt]
    cases (F r.val).2 <;> rfl
  have hrows : List.range 56 = (List.finRange 56).map Fin.val := List.map_coe_finRange_eq_range.symm
  simp only [unknownRows, hflag]
  rw [hrows, List.countP_map, List.countP_eq_length_filter, Finset.card_def, Finset.filter_val, Fin.univ_def,
    Multiset.filter_coe, Multiset.coe_card]
  simp [Function.comp_def]

/-- The outer decode restores each flagged row from the known ones, when there are 1 to 8 of them. -/
theorem decodeColumn_restores {F : Nat → Symbol × Bool} (h1 : 1 ≤ erasures (columnOf F))
    (h8 : erasures (columnOf F) ≤ 8) :
    decodeColumn (columnOf F) = columnOf fun r => if (F r).2 then (outerRestore (knownOf F) r, false) else F r := by
  have hknown : ((columnOf F).map fun x => if x.2 then none else some x.1) = knownOf F := by
    simp [columnOf, knownOf]
  unfold decodeColumn
  rw [if_pos ⟨h1, h8⟩]
  simp only [hknown]
  apply List.ext_getElem
  · simp [columnOf]
  · intro r _ _
    simp [columnOf]

/-- A written column whose flagged rows are 1 to 8 is restored as written, whatever stood in those rows (R6, R11). -/
theorem decodeColumn_written {F : Nat → Symbol × Bool} {data : List Symbol}
    (hF : ∀ r, r < 56 → (F r).2 = false → (F r).1 = outerColumn data r)
    (h1 : 1 ≤ erasures (columnOf F)) (h8 : erasures (columnOf F) ≤ 8) :
    decodeColumn (columnOf F) = columnOf fun r => (outerColumn data r, false) := by
  rw [decodeColumn_restores h1 h8]
  refine columnOf_congr fun r hr => ?_
  split
  · rw [outerRestore_written data (knownOf F) ?_ ?_ r hr]
    · intro i v hv
      obtain ⟨hflag, hsym⟩ := knownOf_eq_some i.isLt hv
      rw [← hsym, hF i.val i.isLt hflag]
    · rw [unknownRows_knownOf, ← erasures_columnOf]
      exact h8
  · next hflag =>
    have hflag : (F r).2 = false := by simpa using hflag
    rw [← hF r hr hflag, ← hflag]

/-! ## The samples of a decoded track (R3, R4, R12) -/

theorem channelOf_trackOf (ch : Channel) (n : Nat) : channelOf (trackOf ch n) n = ch := by
  cases ch <;> by_cases h : n % 2 = 0 <;> simp [trackOf, channelOf, h]

/-- The samples of a channel, when slot `n` of each track decodes to what `x` gives for its channel. -/
theorem channelSamples_eq {rate : Rate} {cols : Track → List (List (Symbol × Bool))}
    {x : Channel → Nat → DecodedSample}
    (h : ∀ t n, n < pairsPerFrame rate → sampleOf (cols t) n = x (channelOf t n) n) (ch : Channel) :
    channelSamples rate (cols .a) (cols .b) ch = (List.range (pairsPerFrame rate)).map (x ch) := by
  refine List.map_congr_left fun n hn => ?_
  have hslot := h (trackOf ch n) n (List.mem_range.mp hn)
  rw [channelOf_trackOf] at hslot
  rw [← hslot]
  split <;> simp_all

/-- The sample in a slot, from the two columns of its column pair. -/
theorem sampleOf_decodeTrack {rate : Rate} {rows : List TrackRow} {n : Nat} {F G : Nat → Symbol × Bool} (hn : n < 960)
    (hhigh : decodeColumn (columnIn rate rows (2 * colPair n)) = columnOf F)
    (hlow : decodeColumn (columnIn rate rows (2 * colPair n + 1)) = columnOf G) :
    sampleOf (decodeTrack rate rows) n =
      ⟨rebuildSample (F (rowOf n)).1 (G (rowOf n)).1, !((F (rowOf n)).2 || (G (rowOf n)).2)⟩ := by
  have hcol := colPair_lt hn
  have hrow : rowOf n < 56 := (rowOf_lt n).trans (by decide)
  unfold sampleOf
  simp only [List.getD_eq_getElem?_getD]
  rw [decodeTrack_getElem? _ _ (by omega), decodeTrack_getElem? _ _ (by omega), hhigh, hlow]
  simp only [Option.getD_some, columnOf_getElem? _ hrow]

theorem pairsPerFrame_le (rate : Rate) : pairsPerFrame rate ≤ 960 := by cases rate <;> decide

/-- A slot below the pairs per frame is no padding (R2). -/
theorem not_isPadding_of_slot {rate : Rate} {n e : Nat} (hn : n < pairsPerFrame rate) (he : e < 2) :
    isPadding rate (rowOf n) (2 * colPair n + e) = false := by
  rw [Bool.eq_false_iff]
  intro h
  obtain ⟨-, hpad⟩ := (isPadding_iff _ _ _).mp h
  rw [slotAt_rowOf n e he] at hpad
  omega

/-! ## A built frame received CLEAN -/

/-- Block `b` of a track of a built frame as received CLEAN. -/
def BuiltFrame.cleanPlace (f : BuiltFrame) (t : Track) (b : Nat) : Place := ⟨t, b, .clean, f.payload t b⟩

/-- The assembly of a built frame whose blocks were all received CLEAN. -/
def BuiltFrame.cleanAssembly (f : BuiltFrame) (tag : Byte) : Assembly :=
  ⟨tag, ([Track.a, .b].map fun t => (List.range 60).map (f.cleanPlace t)).flatten⟩

theorem mem_cleanAssembly (f : BuiltFrame) (tag : Byte) (p : Place) :
    p ∈ (f.cleanAssembly tag).places ↔ ∃ t b, b < 60 ∧ p = f.cleanPlace t b := by
  constructor
  · intro h
    simp only [BuiltFrame.cleanAssembly, List.mem_flatten, List.mem_map] at h
    obtain ⟨_, ⟨t, -, rfl⟩, hp⟩ := h
    obtain ⟨b, hb, rfl⟩ := List.mem_map.mp hp
    exact ⟨t, b, List.mem_range.mp hb, rfl⟩
  · rintro ⟨t, b, hb, rfl⟩
    refine List.mem_flatten.mpr ⟨_, List.mem_map.mpr ⟨t, ?_, rfl⟩, List.mem_map.mpr ⟨b, List.mem_range.mpr hb, rfl⟩⟩
    cases t <;> simp

/-- Each place of the assembly holds its block. -/
theorem placeOf_cleanAssembly (f : BuiltFrame) (tag : Byte) (t : Track) {b : Nat} (hb : b < 60) :
    placeOf (some (f.cleanAssembly tag)) t b = some (f.cleanPlace t b) := by
  show (f.cleanAssembly tag).places.find? (fun p => p.track == t && p.number == b) = _
  cases h : (f.cleanAssembly tag).places.find? fun p => p.track == t && p.number == b with
  | none =>
    have := List.find?_eq_none.mp h _ ((mem_cleanAssembly f tag _).mpr ⟨t, b, hb, rfl⟩)
    simp [BuiltFrame.cleanPlace] at this
  | some p =>
    obtain ⟨t', b', -, rfl⟩ := (mem_cleanAssembly f tag p).mp (List.mem_of_find?_eq_some h)
    have hfound := List.find?_some h
    simp only [BuiltFrame.cleanPlace, Bool.and_eq_true, beq_iff_eq] at hfound
    rw [hfound.1, hfound.2]

/-- Blocks 2 to 57 carry the rows of the matrix (R7). -/
theorem payload_audio (f : BuiltFrame) (t : Track) {r : Nat} (hr : r < 56) : f.payload t (r + 2) = f.row t r := by
  unfold BuiltFrame.payload
  rw [if_neg (by omega), if_neg (by omega), if_neg (by omega), if_neg (by omega), Nat.add_sub_cancel]

theorem trackRows_cleanAssembly (f : BuiltFrame) (tag : Byte) (t : Track) :
    trackRows (some (f.cleanAssembly tag)) false t = (List.range 56).map fun r => ⟨f.row t r, false⟩ := by
  refine List.map_congr_left fun r hr => ?_
  have hr := List.mem_range.mp hr
  rw [placeOf_cleanAssembly f tag t (by omega)]
  simp [BuiltFrame.cleanPlace, payload_audio f t hr]

theorem row_getElem? (f : BuiltFrame) (t : Track) (r : Nat) {col : Nat} (hcol : col < 40) : (f.row t r)[col]? =
    some (if r < 48 then f.dataSymbol t r col else outerCheck (f.dataColumn t col) (r - 48)) := by
  simp [BuiltFrame.row, hcol]

/-- A column of the matrix is the column that the outer code gives for its data (R5, R6). -/
theorem row_column (f : BuiltFrame) (t : Track) (r : Nat) {col : Nat} (hcol : col < 40) :
    (f.row t r)[col]? = some (outerColumn (f.dataColumn t col) r) := by
  rw [row_getElem? f t r hcol, outerColumn]
  split
  · next hr => simp [BuiltFrame.dataColumn, hr]
  · rfl

/-- The columns of a clean track: none of their rows is flagged. -/
theorem columnIn_cleanAssembly (f : BuiltFrame) (tag : Byte) (t : Track) (rate : Rate) (col : Nat) :
    columnIn rate (trackRows (some (f.cleanAssembly tag)) false t) col =
      columnOf fun r => (if isPadding rate r col then 0 else (f.row t r).getD col 0, false) := by
  rw [trackRows_cleanAssembly, columnIn_rows]
  refine columnOf_congr fun r _ => ?_
  split <;> rfl

theorem erasures_cleanAssembly (f : BuiltFrame) (tag : Byte) (t : Track) (rate : Rate) (col : Nat) :
    erasures (columnIn rate (trackRows (some (f.cleanAssembly tag)) false t) col) = 0 := by
  rw [columnIn_cleanAssembly, erasures_columnOf]
  exact List.countP_eq_zero.mpr fun _ _ => Bool.false_ne_true

theorem uncorrectableColumns_cleanAssembly (f : BuiltFrame) (tag : Byte) (t : Track) (rate : Rate) :
    uncorrectableColumns rate (trackRows (some (f.cleanAssembly tag)) false t) = 0 := by
  refine List.countP_eq_zero.mpr fun col _ => ?_
  simp [columnUncorrectable, erasures_cleanAssembly]

/-- The symbol of a slot in the first or the second column of its pair (R4, R5). -/
theorem row_slot (f : BuiltFrame) (t : Track) {n e : Nat} (hn : n < 960) (he : e < 2) :
    (f.row t (rowOf n)).getD (2 * colPair n + e) 0 =
      if e = 0 then highSymbol (f.slot t n) else lowSymbol (f.slot t n) := by
  have hcol := colPair_lt hn
  have hparity : (2 * colPair n + e) % 2 = e := by omega
  rw [List.getD_eq_getElem?_getD, row_getElem? f t _ (by omega), if_pos (rowOf_lt n), Option.getD_some,
    BuiltFrame.dataSymbol, slotAt_rowOf n e he, hparity]

/-- The sample in a slot of a clean track is the one written, and GOOD. -/
theorem sampleOf_cleanAssembly (f : BuiltFrame) (tag : Byte) (t : Track) {rate : Rate} {n : Nat}
    (hn : n < pairsPerFrame rate) (hlow : -524288 ≤ f.slot t n) (hhigh : f.slot t n ≤ 524287) :
    sampleOf (decodeTrack rate (trackRows (some (f.cleanAssembly tag)) false t)) n = ⟨f.slot t n, true⟩ := by
  have hn' : n < 960 := Nat.lt_of_lt_of_le hn (pairsPerFrame_le rate)
  have hcolumn : ∀ col, decodeColumn (columnIn rate (trackRows (some (f.cleanAssembly tag)) false t) col) =
      columnOf fun r => (if isPadding rate r col then 0 else (f.row t r).getD col 0, false) := fun col => by
    rw [decodeColumn_eq_self (.inl (erasures_cleanAssembly f tag t rate col)), columnIn_cleanAssembly]
  rw [sampleOf_decodeTrack hn' (hcolumn _) (hcolumn _)]
  have hpad0 := not_isPadding_of_slot hn (e := 0) (by decide)
  have hpad1 := not_isPadding_of_slot hn (e := 1) (by decide)
  have hsym0 := row_slot f t hn' (e := 0) (by decide)
  have hsym1 := row_slot f t hn' (e := 1) (by decide)
  rw [Nat.add_zero] at hpad0 hsym0
  simp only [hpad0, hpad1, hsym0, hsym1, Bool.false_eq_true, if_false, if_true, Nat.one_ne_zero,
    rebuildSample_symbols hlow hhigh]
  rfl

/-- The slots of a channel of a built frame. -/
def BuiltFrame.channel (f : BuiltFrame) : Channel → List Sample
  | .left => f.left
  | .right => f.right

theorem slot_eq (f : BuiltFrame) (t : Track) (n : Nat) : f.slot t n = (f.channel (channelOf t n)).getD n 0 := by
  unfold BuiltFrame.slot
  split <;> simp_all [BuiltFrame.channel]

/-- Every sample of a clean frame is the one written, and GOOD. -/
theorem channelSamples_cleanAssembly (f : BuiltFrame) (tag : Byte) (rate : Rate)
    (h : ∀ ch n, -524288 ≤ (f.channel ch).getD n 0 ∧ (f.channel ch).getD n 0 ≤ 524287) (ch : Channel) :
    channelSamples rate (decodeTrack rate (trackRows (some (f.cleanAssembly tag)) false .a))
      (decodeTrack rate (trackRows (some (f.cleanAssembly tag)) false .b)) ch =
      (List.range (pairsPerFrame rate)).map fun n => ⟨(f.channel ch).getD n 0, true⟩ :=
  channelSamples_eq (x := fun ch n => ⟨(f.channel ch).getD n 0, true⟩)
    (cols := fun t => decodeTrack rate (trackRows (some (f.cleanAssembly tag)) false t)) (fun t n hn => by
      obtain ⟨hlow, hhigh⟩ := h (channelOf t n) n
      rw [← slot_eq] at hlow hhigh ⊢
      exact sampleOf_cleanAssembly f tag t hn hlow hhigh) ch

theorem countBlocks_cleanAssembly (f : BuiltFrame) (tag : Byte) (t : Track) (res : InnerResult) :
    countBlocks (some (f.cleanAssembly tag)) t res = if res = .clean then 56 else 0 := by
  have hplace : ∀ i ∈ List.range 56, (placeOf (some (f.cleanAssembly tag)) t (i + 2)).any (·.result == res) =
      (InnerResult.clean == res) := fun i hi => by
    have hi := List.mem_range.mp hi
    rw [placeOf_cleanAssembly f tag t (by omega)]
    rfl
  rw [countBlocks, List.countP_congr fun i hi => by rw [hplace i hi]]
  cases res <;> rfl

theorem headTally_cleanAssembly (f : BuiltFrame) (tag : Byte) (t : Track) :
    headTally (some (f.cleanAssembly tag)) false t = ⟨56, 0, 0, 0, false⟩ := by
  simp [headTally, countBlocks_cleanAssembly]

/-- A pack of a clean frame is the one its payload is read as (R13). -/
theorem framePack_cleanAssembly {α : Type} (f : BuiltFrame) (tag : Byte) {b : Nat} (hb : b < 60)
    {parse : List Symbol → Option α} {k : α} (h : parse (f.payload .a b) = some k) :
    framePack (some (f.cleanAssembly tag)) false false b parse = some k := by
  have : trackPack (some (f.cleanAssembly tag)) false .a b parse = some k := by
    rw [trackPack, placeOf_cleanAssembly f tag .a hb]
    exact h
  rw [framePack, this]

/-- The packs of a clean frame, its fields within their sets. -/
theorem assemblyPacks_cleanAssembly (f : BuiltFrame) (tag : Byte) (hafa : f.position.afa ≤ 1048575)
    (hnumber : f.program.number ≤ 999) (hrun : f.program.runIndex ≤ 99)
    (hmarker : f.program.marker.isSome = true → f.program.number ≠ 0) (hgen : f.edit.generation ≤ 255) :
    assemblyPacks (some (f.cleanAssembly tag)) false false =
      ⟨some f.position, some f.rights, some f.program, some f.edit⟩ := by
  unfold assemblyPacks
  rw [framePack_cleanAssembly f tag (by decide) (parsePosition_payload f.position hafa),
    framePack_cleanAssembly f tag (by decide) (parseRights_payload f.rights),
    framePack_cleanAssembly f tag (by decide) (parseProgram_payload f.program hnumber hrun hmarker),
    framePack_cleanAssembly f tag (by decide) (parseEdit_payload f.edit hgen)]

/-- Settles O26: none of a clean frame's columns has a flagged row, so that each slot decodes to its own two symbols;
and `decodeColumn_written` for the columns with flags. -/
theorem writtenFrameReadsBack : Obligations.WrittenFrameReadsBack := by
  intro f tag held hafa hnumber hrun hmarker hgen hleft hright places c
  have hpacks := assemblyPacks_cleanAssembly f tag hafa hnumber hrun hmarker hgen
  have hsamples := channelSamples_cleanAssembly f tag f.position.rate fun ch => by cases ch <;> assumption
  have hc : c = completeFrame (some (f.cleanAssembly tag)) false false held := rfl
  unfold completeFrame at hc
  simp only [hpacks, hsamples, headTally_cleanAssembly, uncorrectableColumns_cleanAssembly] at hc
  refine ⟨by rw [hc], by rw [hc]; rfl, by rw [hc]; rfl, fun t r col _ hcol => row_column f t r hcol, ?_⟩
  intro data lost junk column n
  have hcount : erasures column = n :=
    erasures_columnOf fun r => (if lost r then junk r else outerColumn data r, lost r)
  refine ⟨fun h1 h8 => ?_, fun h8 => ?_, fun h9 => ⟨decodeColumn_eq_self (.inr (hcount ▸ h9)), ?_⟩⟩
  · refine decodeColumn_written (fun r _ hkept => ?_) (hcount ▸ h1) (hcount ▸ h8)
    simp only at hkept
    simp [hkept]
  · rw [columnUncorrectable, hcount]
    exact decide_eq_false (by omega)
  · rw [columnUncorrectable, hcount]
    exact decide_eq_true h9

end Sys2Proof.Machine

namespace Sys2Proof.Machine
open Sys2Proof

/-! ## The completion of an EMPTY assembly (R11, R64, R65) -/

theorem trackRows_none (ovr : Bool) (t : Track) :
    trackRows none ovr t = (List.range 56).map fun _ => ⟨[], true⟩ := rfl

/-- Every row of a track never received is flagged, but the padding rows (R2, R11). -/
theorem columnIn_none (rate : Rate) (ovr : Bool) (t : Track) (col : Nat) :
    columnIn rate (trackRows none ovr t) col = columnOf fun r => (0, !isPadding rate r col) := by
  rw [trackRows_none, columnIn_rows]
  refine columnOf_congr fun r _ => ?_
  cases isPadding rate r col <;> rfl

theorem erasures_none (rate : Rate) (ovr : Bool) (t : Track) (col : Nat) :
    erasures (columnIn rate (trackRows none ovr t) col) = (List.range 56).countP fun r => !isPadding rate r col := by
  rw [columnIn_none, erasures_columnOf]

/-- The columns of which not every data row is padding. -/
def soundColumns : Rate → Nat
  | .r48k => 40
  | .r44k1 => 38

theorem nine_le_countP_not_padding (rate : Rate) : ∀ col, col < soundColumns rate →
    9 ≤ (List.range 56).countP fun r => !isPadding rate r col := by
  cases rate <;> decide +kernel

/-- The columns of padding alone: their eight check rows are not (R11). -/
theorem countP_not_padding_of_padding {col : Nat} (h : col = 38 ∨ col = 39) :
    (List.range 56).countP (fun r => !isPadding .r44k1 r col) = 8 := by
  rcases h with rfl | rfl <;> decide +kernel

theorem uncorrectableColumns_none (rate : Rate) (ovr : Bool) (t : Track) :
    uncorrectableColumns rate (trackRows none ovr t) = soundColumns rate := by
  simp only [uncorrectableColumns, columnUncorrectable, erasures_none]
  cases rate <;> decide +kernel

@[simp] theorem rebuildSample_zero : rebuildSample 0#10 0#10 = 0 := by decide

/-- The samples of a frame never received are BAD with value 0. -/
theorem sampleOf_none {rate : Rate} (ovr : Bool) (t : Track) {n : Nat} (hn : n < pairsPerFrame rate) :
    sampleOf (decodeTrack rate (trackRows none ovr t)) n = ⟨0, false⟩ := by
  have hn' : n < 960 := Nat.lt_of_lt_of_le hn (pairsPerFrame_le rate)
  have hcols : 2 * colPair n + 1 < soundColumns rate := by
    unfold colPair
    cases rate <;> simp only [pairsPerFrame, soundColumns] at * <;> omega
  have hcolumn : ∀ col, col < soundColumns rate → decodeColumn (columnIn rate (trackRows none ovr t) col) =
      columnOf fun r => (0, !isPadding rate r col) := fun col hcol => by
    have hmany := nine_le_countP_not_padding rate col hcol
    rw [← erasures_none rate ovr t] at hmany
    rw [decodeColumn_eq_self (.inr hmany), columnIn_none]
  rw [sampleOf_decodeTrack hn' (hcolumn _ (by omega)) (hcolumn _ hcols)]
  have hpad : isPadding rate (rowOf n) (2 * colPair n) = false := not_isPadding_of_slot hn (e := 0) (by decide)
  simp [hpad]

theorem channelSamples_none (rate : Rate) (overA overB : Bool) (ch : Channel) :
    channelSamples rate (decodeTrack rate (trackRows none overA .a)) (decodeTrack rate (trackRows none overB .b)) ch =
      List.replicate (pairsPerFrame rate) ⟨0, false⟩ := by
  have h := channelSamples_eq (rate := rate) (x := fun _ _ => ⟨0, false⟩)
    (cols := fun | .a => decodeTrack rate (trackRows none overA .a) | .b => decodeTrack rate (trackRows none overB .b))
    (fun t n hn => by cases t <;> exact sampleOf_none _ _ hn) ch
  rw [h]
  simp

theorem headTally_none (ovr : Bool) (t : Track) : headTally none ovr t = ⟨0, 0, 0, 56, ovr⟩ := by
  have hcount : ∀ res, countBlocks none t res = 0 := fun res => List.countP_eq_zero.mpr fun _ _ => Bool.false_ne_true
  simp [headTally, hcount]

theorem assemblyPacks_none (overA overB : Bool) : assemblyPacks none overA overB = .empty := rfl

/-- A completion in DECODING of an EMPTY assembly. -/
theorem completeFrame_none (overA overB : Bool) (held : Option Rate) :
    completeFrame none overA overB held =
      { packs := .empty, rate := held.getD .r48k
        frame := { substituteFrame (held.getD .r48k) with completed := true }
        tally := ⟨.absent, ⟨0, 0, 0, 56, overA⟩, ⟨0, 0, 0, 56, overB⟩, soundColumns (held.getD .r48k),
          soundColumns (held.getD .r48k)⟩ } := by
  unfold completeFrame
  simp only [assemblyPacks_none, FramePacks.empty, channelSamples_none, headTally_none, uncorrectableColumns_none]
  rfl

/-- Columns 38 and 39 of a track never received are restored to zeros at 44K1 (R11). -/
theorem decodeTrack_none_padding (ovr : Bool) (t : Track) {col : Nat} (hcol : col = 38 ∨ col = 39) :
    (decodeTrack .r44k1 (trackRows none ovr t))[col]? = some (List.replicate 56 (0, false)) := by
  have hzero : ∀ r, r < 56 → outerColumn [] r = 0 := outerColumn_zero [] (by simp)
  have herasures := (erasures_none .r44k1 ovr t col).trans (countP_not_padding_of_padding hcol)
  rw [columnIn_none] at herasures
  rw [decodeTrack_getElem? _ _ (by omega), columnIn_none,
    decodeColumn_written (data := []) (fun r hr _ => (hzero r hr).symm) (by omega) (by omega),
    columnOf_congr (G := fun _ => (0, false)) fun r hr => by rw [hzero r hr]]
  simp [columnOf]

/-! ## The state called for (R26, R57) -/

theorem decodeRange_iff (t : Transport) : decodeRange t = true ↔
    (t.mode = .play ∨ t.mode = .record) ∧ t.stalled = false ∧ t.dir = .forward ∧ 875 ≤ t.ratio ∧ t.ratio ≤ 1125 := by
  simp [decodeRange, and_assoc]

theorem stateCalledFor_eq (path : ReadPath) (t : Transport) : stateCalledFor path t =
    if (t.mode = .play ∨ t.mode = .record) ∧ t.stalled = false ∧ t.dir = .forward ∧ 875 ≤ t.ratio ∧ t.ratio ≤ 1125 then
      .decoding
    else if path = .pre ∧ t.mode = .cue ∧ t.stalled = false then .subcode else .idle := by
  simp only [stateCalledFor, decodeRange_iff]
  cases path <;> simp

/-! ## The placement of an arriving block (R57 to R62) -/

/-- A block that is not LOST has a good header and its inner result. -/
theorem arrivalResult_ne_lost {blk : BlockArrival} (h : arrivalResult blk ≠ .lost) :
    arrivalResult blk = blk.inner ∧ headerNumber blk.header ≤ 59 := by
  by_cases hgood : headerGood blk.header blk.track = true
  · exact ⟨arrivalResult_of_good hgood, ((headerGood_iff _ _).mp hgood).2.1⟩
  · exact absurd (arrivalResult_of_bad hgood) h

theorem acceptsBlock_iff {n : Nat} (hn : n ≤ 59) (st : DecoderState) : acceptsBlock st n = true ↔
    st = .decoding ∨ (st = .subcode ∧ (n = 0 ∨ n = 1 ∨ n = 58 ∨ n = 59)) := by
  cases st <;> simp [acceptsBlock, isAudioBlock, isSubcodeBlock] <;> omega

theorem eq_leadingTrack_iff (t : Track) (dir : Direction) : t = leadingTrack dir ↔ (t = .a ↔ dir = .forward) := by
  cases t <;> cases dir <;> simp [leadingTrack]

/-- Whether an assembly that may be EMPTY is the one of a tag. -/
theorem any_tag_iff (a : Option Assembly) (tag : Byte) :
    (a.any fun x => x.tag == tag) = true ↔ ∃ x, a = some x ∧ x.tag = tag := by
  cases a <;> simp

section
variable {d : TrackDecoder} {dir : Direction} {half : HalfPeriod} {tag : Byte} {p : Place}

theorem placeBlock_current (h : ∃ a, d.current = some a ∧ a.tag = tag) :
    d.placeBlock dir half tag p = { d with current := d.current.map (·.put p) } :=
  if_pos ((any_tag_iff _ _).mpr h)

theorem placeBlock_next (hc : ¬ ∃ a, d.current = some a ∧ a.tag = tag) (h : ∃ a, d.next = some a ∧ a.tag = tag) :
    d.placeBlock dir half tag p = { d with next := d.next.map (·.put p) } := by
  rw [← any_tag_iff] at hc h
  simp only [TrackDecoder.placeBlock, if_neg hc, if_pos h]

theorem placeBlock_early (hc : ¬ ∃ a, d.current = some a ∧ a.tag = tag) (hn : ¬ ∃ a, d.next = some a ∧ a.tag = tag)
    (he : p.track = leadingTrack dir ∧ half = .second) :
    d.placeBlock dir half tag p = if d.next = none then { d with next := some ⟨tag, [p]⟩ } else d := by
  rw [← any_tag_iff] at hc hn
  simp only [TrackDecoder.placeBlock, if_neg hc, if_neg hn, if_pos he]
  split <;> simp_all

theorem placeBlock_else (hc : ¬ ∃ a, d.current = some a ∧ a.tag = tag) (hn : ¬ ∃ a, d.next = some a ∧ a.tag = tag)
    (he : ¬ (p.track = leadingTrack dir ∧ half = .second)) :
    d.placeBlock dir half tag p = if d.current = none then { d with current := some ⟨tag, [p]⟩ } else d := by
  rw [← any_tag_iff] at hc hn
  simp only [TrackDecoder.placeBlock, if_neg hc, if_neg hn, if_neg he]
  split <;> simp_all

end

/-- A block taken by a decoder in its state (R59): not LOST, and of a kind that the state takes. -/
def TrackDecoder.takes (d : TrackDecoder) (blk : BlockArrival) : Prop :=
  arrivalResult blk ≠ .lost ∧ (d.state = .decoding ∨ (d.state = .subcode ∧
    (headerNumber blk.header = 0 ∨ headerNumber blk.header = 1 ∨ headerNumber blk.header = 58 ∨
      headerNumber blk.header = 59)))

theorem arrival_discarded {d : TrackDecoder} {blk : BlockArrival} (dir : Direction) (h : ¬ d.takes blk) :
    d.arrival dir blk = d := by
  refine if_pos ?_
  by_cases hres : arrivalResult blk = .lost
  · exact .inl hres
  · refine .inr (Bool.eq_false_iff.mpr fun haccept => h ⟨hres, ?_⟩)
    exact (acceptsBlock_iff (arrivalResult_ne_lost hres).2 _).mp haccept

theorem arrival_taken {d : TrackDecoder} {blk : BlockArrival} (dir : Direction) (h : d.takes blk) :
    d.arrival dir blk = d.placeBlock dir blk.half (headerTag blk.header)
      ⟨blk.track, headerNumber blk.header, blk.inner, blk.payload⟩ := by
  obtain ⟨hres, hkind⟩ := h
  obtain ⟨hinner, hnum⟩ := arrivalResult_ne_lost hres
  have haccept := (acceptsBlock_iff hnum d.state).mpr hkind
  unfold TrackDecoder.arrival
  simp only
  rw [if_neg (by simp [hres, haccept]), hinner]

/-- BLOCK_ARRIVAL, as O27 has it. -/
theorem blockArrival_places (blk : BlockArrival) (s : State) :
    let want := stateCalledFor blk.path s.transport
    let held := s.decoder blk.path
    let d : TrackDecoder := if want = held.state then held else ⟨want, none, none, false⟩
    let tag := headerTag blk.header
    let b : Place := ⟨blk.track, headerNumber blk.header, blk.inner, blk.payload⟩
    let early : Prop := (blk.track = .a ↔ s.transport.dir = .forward) ∧ blk.half = .second
    let curTag : Prop := ∃ a, d.current = some a ∧ a.tag = tag
    let nextTag : Prop := ∃ a, d.next = some a ∧ a.tag = tag
    ∃ d', exec (.blockArrival blk) s = .next (s.withDecoder blk.path d') ∧
      (¬ d.takes blk → d' = d) ∧
      (d.takes blk → curTag → d' = { d with current := d.current.map (·.put b) }) ∧
      (d.takes blk → ¬ curTag → nextTag → d' = { d with next := d.next.map (·.put b) }) ∧
      (d.takes blk → ¬ curTag → ¬ nextTag → early →
        d' = if d.next = none then { d with next := some ⟨tag, [b]⟩ } else d) ∧
      (d.takes blk → ¬ curTag → ¬ nextTag → ¬ early →
        d' = if d.current = none then { d with current := some ⟨tag, [b]⟩ } else d) := by
  intro want held d tag b early curTag nextTag
  have hearly : early ↔ b.track = leadingTrack s.transport.dir ∧ blk.half = .second :=
    and_congr_left' (eq_leadingTrack_iff _ _).symm
  refine ⟨d.arrival s.transport.dir blk, rfl, arrival_discarded _, fun ht hc => ?_, fun ht hc hn => ?_,
    fun ht hc hn he => ?_, fun ht hc hn he => ?_⟩ <;> rw [arrival_taken _ ht]
  · exact placeBlock_current hc
  · exact placeBlock_next hc hn
  · exact placeBlock_early hc hn (hearly.mp he)
  · exact placeBlock_else hc hn fun h => he (hearly.mpr h)

end Sys2Proof.Machine

namespace Sys2Proof.Machine
open Sys2Proof

/-! ## What the work of a frame tick leaves alone at the decoders and the rights unit -/

/-- The counters of a path. -/
def State.countersOf (s : State) : ReadPath → PathCounters
  | .pre => s.faults.counters.pre
  | .conf => s.faults.counters.conf

/-- The counters of both paths stand; those of baked samples, slips and jumps may not. -/
def CountsKept (s t : State) : Prop := ∀ path, t.countersOf path = s.countersOf path

theorem CountsKept.trans {s t u : State} (h : CountsKept s t) (k : CountsKept t u) : CountsKept s u :=
  fun path => (k path).trans (h path)

theorem CountsKept.of_eq {s t : State} (h : t.faults.counters = s.faults.counters) : CountsKept s t := fun path => by
  cases path <;> simp only [State.countersOf, h]

theorem SeqFrame.counts {s t : State} (h : SeqFrame s t) : CountsKept s t := .of_eq h.counters

/-- A decoder, its repair unit's frames and its counters stand. -/
structure PathKeep (path : ReadPath) (s t : State) : Prop where
  decoder : t.decoder path = s.decoder path
  output : (t.repairUnit path).output = (s.repairUnit path).output
  ahead : (t.repairUnit path).ahead = (s.repairUnit path).ahead
  counters : t.countersOf path = s.countersOf path

theorem PathKeep.trans {path : ReadPath} {s t u : State} (h : PathKeep path s t) (k : PathKeep path t u) :
    PathKeep path s u :=
  ⟨k.decoder.trans h.decoder, k.output.trans h.output, k.ahead.trans h.ahead, k.counters.trans h.counters⟩

/-- The transport, both decoders with their repair units and counters, and the override flags of path `q` stand; events
may be added at the ports. -/
structure TickCore (q : ReadPath) (s t : State) : Prop where
  ports : ∀ p, PortGrow (s.ports.get p) (t.ports.get p)
  transport : t.transport = s.transport
  paths : ∀ path, PathKeep path s t
  flags : ∀ tr, overrideFlag t q tr = overrideFlag s q tr

/-- The tape rights and their candidate stand too. -/
structure TickRights (q : ReadPath) (s t : State) : Prop extends TickCore q s t where
  tape : t.rights.tape = s.rights.tape
  candidate : t.rights.candidate = s.rights.candidate

/-- The heads and the rate of the position record stand too. -/
structure TickKeep (s t : State) : Prop where
  rights : ∀ q, TickRights q s t
  posRate : t.tapeMap.pos.rate = s.tapeMap.pos.rate

theorem TickCore.trans {q : ReadPath} {s t u : State} (h : TickCore q s t) (k : TickCore q t u) : TickCore q s u :=
  ⟨fun p => (h.ports p).trans (k.ports p), k.transport.trans h.transport,
    fun path => (h.paths path).trans (k.paths path), fun tr => (k.flags tr).trans (h.flags tr)⟩

theorem TickRights.trans {q : ReadPath} {s t u : State} (h : TickRights q s t) (k : TickRights q t u) :
    TickRights q s u :=
  ⟨h.toTickCore.trans k.toTickCore, k.tape.trans h.tape, k.candidate.trans h.candidate⟩

theorem TickKeep.trans {s t u : State} (h : TickKeep s t) (k : TickKeep t u) : TickKeep s u :=
  ⟨fun q => (h.rights q).trans (k.rights q), k.posRate.trans h.posRate⟩

/-- From the work frame, which holds all of it but the counters. -/
theorem WorkFrame.tickKeep {s t : State} (h : WorkFrame s t) (hc : CountsKept s t) : TickKeep s t := by
  refine ⟨fun q => ⟨⟨h.ports, h.transport, fun path => ?_, fun tr => ?_⟩, h.tape, h.candidate⟩, h.posRate⟩
  · cases path
    · exact ⟨h.preDecoder, h.preOutput, h.preAhead, hc .pre⟩
    · exact ⟨h.confDecoder, h.confOutput, h.confAhead, hc .conf⟩
  · simp only [overrideFlag, h.heads]

theorem SeqFrame.tickKeep {s t : State} (h : SeqFrame s t) : TickKeep s t := h.work.tickKeep h.counts

theorem TickKeep.refl (s : State) : TickKeep s s := (SeqFrame.refl s).tickKeep

theorem PathKeep.refl (path : ReadPath) (s : State) : PathKeep path s s := ⟨rfl, rfl, rfl, rfl⟩

/-- A state that differs in other fields than those of the frame. -/
theorem TickRights.of_eq {q : ReadPath} {s t : State} (ports : t.ports = s.ports := by rfl)
    (transport : t.transport = s.transport := by rfl)
    (paths : ∀ path, PathKeep path s t := by exact fun path => ⟨rfl, rfl, rfl, rfl⟩)
    (heads : t.faults.heads = s.faults.heads := by rfl) (tape : t.rights.tape = s.rights.tape := by rfl)
    (candidate : t.rights.candidate = s.rights.candidate := by rfl) : TickRights q s t :=
  ⟨⟨fun p => by rw [ports]; exact .refl _, transport, paths, fun tr => by simp only [overrideFlag, heads]⟩, tape,
    candidate⟩

theorem TickKeep.of_eq {s t : State} (ports : t.ports = s.ports := by rfl)
    (transport : t.transport = s.transport := by rfl)
    (paths : ∀ path, PathKeep path s t := by exact fun path => ⟨rfl, rfl, rfl, rfl⟩)
    (heads : t.faults.heads = s.faults.heads := by rfl) (tape : t.rights.tape = s.rights.tape := by rfl)
    (candidate : t.rights.candidate = s.rights.candidate := by rfl)
    (posRate : t.tapeMap.pos.rate = s.tapeMap.pos.rate := by rfl) : TickKeep s t :=
  ⟨fun _ => .of_eq ports transport paths heads tape candidate, posRate⟩

/-! ### The counters through the steps due and the formatter's work -/

theorem addBaked_counts (n : Nat) (s : State) : CountsKept s (addBaked n s) := fun path => by cases path <;> rfl

theorem handWritten_faults (a : Afa) (p : ProgramPack) (s : State) : (handWritten a p s).faults = s.faults := by
  unfold handWritten applyWrittenRun removeWritten insertEntry
  repeat' split
  all_goals first
    | rfl
    | (simp only; repeat' split)
  all_goals rfl

theorem trackASent_counts (s : State) : CountsKept s (trackASent s) := by
  unfold trackASent
  split
  · refine CountsKept.trans ?_ (.of_eq (congrArg _ (handWritten_faults _ _ _)))
    exact addBaked_counts _ _
  · exact .of_eq rfl

theorem writeComplete_counts (s : State) : CountsKept s (writeComplete s) := by
  unfold writeComplete
  split
  · exact addBaked_counts _ _
  · exact .of_eq rfl

theorem closeGate_counts (s : State) : CountsKept s (closeGate s) := by
  unfold closeGate
  refine CountsKept.trans ?_ (gateClosedReport_seqFrame _).counts
  exact CountsKept.trans (.of_eq rfl) (reselect_seqFrame _).counts

theorem normalClose_counts (s : State) : CountsKept s (normalClose s) := by
  unfold normalClose
  split
  · exact closeGate_counts s
  · exact .of_eq rfl

theorem forcedClose_counts (s : State) : CountsKept s (forcedClose s) := by
  unfold forcedClose
  split
  · exact closeGate_counts s
  · exact .of_eq rfl

theorem finishSending_counts (s : State) : CountsKept s (finishSending s) :=
  (trackASent_counts s).trans <| (forcedClose_counts _).trans <| (writeComplete_counts _).trans (forcedClose_counts _)

theorem gateTest_counts (s : State) : CountsKept s (gateTest s) := by
  unfold gateTest openGate refuseOpen
  repeat' split
  · exact .of_eq rfl
  · refine CountsKept.trans ?_ (reselect_seqFrame _).counts
    exact .of_eq rfl
  · refine CountsKept.trans ?_ (seqRefused_seqFrame _ _ _).counts
    exact .of_eq rfl
  · exact .of_eq rfl

theorem timeoutEntry_counts (w : WrittenFrame) (s : State) : CountsKept s (timeoutEntry w s) := by
  unfold timeoutEntry
  simp only
  repeat' split
  · exact .of_eq rfl
  · refine CountsKept.trans ?_ (confirmFailed_seqFrame _ _ _).counts
    exact .of_eq rfl
  · exact .of_eq rfl

theorem timeoutFold_counts (l : List WrittenFrame) :
    ∀ s : State, CountsKept s (l.foldl (fun s w => timeoutEntry w s) s) := by
  induction l with
  | nil => exact fun s => .of_eq rfl
  | cons w l ih => exact fun s => (timeoutEntry_counts w s).trans (ih _)

theorem fadeOutEnd_counts (s : State) : CountsKept s (fadeOutEnd s) := by
  unfold fadeOutEnd
  split
  · refine CountsKept.trans ?_ (fadeOutReport_seqFrame _ _).counts
    exact .of_eq rfl
  · exact .of_eq rfl

theorem runEnd_counts (s : State) : CountsKept s (runEnd s) := by
  unfold runEnd
  split
  · refine CountsKept.trans ?_ (markRunReport_seqFrame _ _).counts
    exact .of_eq rfl
  · exact .of_eq rfl

theorem expireCandidate_counts (s : State) : CountsKept s (expireCandidate s) := by
  unfold expireCandidate
  split <;> exact .of_eq rfl

theorem buildComplete_counts (s : State) : CountsKept s (buildComplete s) := by
  unfold buildComplete
  repeat' split
  all_goals exact .of_eq rfl

theorem txRecord_counts (s : State) : CountsKept s (txRecord s) := by
  unfold txRecord
  split <;> exact .of_eq rfl

theorem endSwitch_counts (s : State) : CountsKept s (endSwitch s) := by
  unfold endSwitch
  repeat' split
  all_goals exact .of_eq rfl

theorem dropUnchecked_counts (s : State) : CountsKept s (dropUnchecked s) := .of_eq rfl

theorem settleFades_counts (s : State) : CountsKept s (settleFades s) := .of_eq rfl

theorem settleRepair_counts (s : State) : CountsKept s (settleRepair s) := .of_eq rfl

theorem settleDue_counts (s : State) : CountsKept s (settleDue s) := by
  unfold settleDue
  exact (dropUnchecked_counts s).trans <| (timeoutFold_counts _ _).trans <| (expireCandidate_counts _).trans <|
    (runEnd_counts _).trans <| (buildComplete_counts _).trans <| (settleFades_counts _).trans <|
    (fadeOutEnd_counts _).trans <| (normalClose_counts _).trans <| (forcedClose_counts _).trans <|
    (gateTest_counts _).trans <| (txRecord_counts _).trans <| (endSwitch_counts _).trans (settleRepair_counts _)

theorem beforeTick_tickKeep (s : State) : TickKeep s (beforeTick s) :=
  (beforeTick_workFrame s).tickKeep ((settleDue_counts s).trans (finishSending_counts _))

theorem buildAtTick_tickKeep (s : State) : TickKeep s (buildAtTick s) :=
  (buildAtTick_workFrame s).tickKeep (by unfold buildAtTick; split <;> exact .of_eq rfl)

theorem startSending_tickKeep (s : State) : TickKeep s (startSending s) :=
  (startSending_workFrame s).tickKeep (by unfold startSending; simp only; split <;> exact .of_eq rfl)

theorem buildStop_counts (sp : Span) (k : ErrorKind) (d : ErrorDetail) (s : State) :
    CountsKept s (buildStop sp k d s) := by
  unfold buildStop
  split
  · refine CountsKept.trans ?_ (seqRefused_seqFrame _ _ _).counts
    exact .of_eq rfl
  · exact ((closeRequest_seqFrame _ s).trans (seqLaterStop_seqFrame _ _ _)).counts

theorem buildStart_tickKeep (s : State) : TickKeep s (buildStart s) := by
  refine (buildStart_workFrame s).tickKeep ?_
  unfold buildStart
  simp only
  repeat' split
  · exact .of_eq rfl
  · exact buildStop_counts _ _ _ s
  · exact buildStop_counts _ _ _ s
  · exact .of_eq rfl

end Sys2Proof.Machine

namespace Sys2Proof.Machine
open Sys2Proof

/-! ## The operations of a tick, one by one -/

theorem setVerify_tickKeep (v : VerifyRecord) (s : State) : TickKeep s (setVerify v s) := .of_eq

theorem raiseEvent_tickKeep (e : Event) (s : State) : TickKeep s (raiseEvent e s) := (raiseEvent_seqFrame e s).tickKeep

theorem verifyRange_tickKeep (t : Transport) (s : State) : TickKeep s (verifyRange t s) := by
  unfold verifyRange
  simp only
  split
  · exact (setVerify_tickKeep _ s).trans (raiseEvent_tickKeep _ _)
  · exact .refl s

theorem verifyCheck_tickKeep (scan : Option Afa) (j : Bool) (t : Tally) (s : State) :
    TickKeep s (verifyCheck scan j t s) := by
  unfold verifyCheck
  simp only
  repeat' split
  all_goals first
    | exact setVerify_tickKeep _ s
    | exact (setVerify_tickKeep _ s).trans (raiseEvent_tickKeep _ _)

theorem verifyStep_tickKeep (path : ReadPath) (scan : Option Afa) (j : Bool) (t : Tally) (s : State) :
    TickKeep s (verifyStep path scan j t s) := by
  unfold verifyStep
  simp only
  repeat' split
  all_goals first
    | exact .refl s
    | exact verifyCheck_tickKeep _ _ _ s

theorem afterTransport_tickKeep (t : Transport) (s : State) : TickKeep s (afterTransport t s) :=
  (verifyRange_tickKeep t s).trans ((windowLoss_seqFrame t _).trans (evaluateServo_seqFrame _)).tickKeep

theorem tickRights_tickKeep (s : State) : TickKeep s (tickRights s) := .of_eq

/-- The state with another transport. -/
def State.withTransport (s : State) (t : Transport) : State := { s with transport := t }

theorem withTransport_congr {s u : State} (h : TickKeep s u) (t : Transport) :
    TickKeep (s.withTransport t) (u.withTransport t) :=
  ⟨fun q => ⟨⟨(h.rights q).ports, rfl, fun path => ⟨((h.rights q).paths path).decoder,
    ((h.rights q).paths path).output, ((h.rights q).paths path).ahead, ((h.rights q).paths path).counters⟩,
    (h.rights q).flags⟩, (h.rights q).tape, (h.rights q).candidate⟩, h.posRate⟩

/-- A tick up to the decoders, from the transport at the tick. -/
theorem tickFront_tickKeep (dir : Direction) (us : Nat) (s : State) :
    TickKeep (s.withTransport (s.transport.atTick dir us)) (tickFront dir us (beforeTick s)) := by
  have hbefore := withTransport_congr (beforeTick_tickKeep s) (s.transport.atTick dir us)
  have htransport : (beforeTick s).transport = s.transport := (beforeTick_workFrame s).transport
  refine hbefore.trans ?_
  rw [← htransport]
  exact (afterTransport_tickKeep _ _).trans <| (tickRights_tickKeep _).trans (buildAtTick_tickKeep _)

/-! ### The PRE completion at its users -/

theorem positionReport_tickKeep (d : FaultDetail) (s : State) : TickKeep s (positionReport d s) := by
  refine TickKeep.trans ?_ (positionReport_seqFrame d s).tickKeep
  exact .of_eq

theorem reportJump_tickKeep (s : State) : TickKeep s (reportJump s) := by
  unfold reportJump
  refine TickKeep.trans ?_ (seqJump_seqFrame _).tickKeep
  refine TickKeep.trans ?_ (positionReport_tickKeep _ _)
  exact (raiseEvent_tickKeep _ s).trans .of_eq

theorem indexChange_tickKeep (s : State) : TickKeep s (indexChange s) := by
  unfold indexChange
  refine TickKeep.trans ?_ (raiseEvent_tickKeep _ _)
  exact .of_eq

theorem setIndex_tickKeep (ix : List IndexEntry) (s : State) : TickKeep s (setIndex ix s) := .of_eq

theorem applyReadRun_tickKeep (a : Afa) (k : MarkerKind) (n : Nat) (s : State) :
    TickKeep s (applyReadRun a k n s) := by
  unfold applyReadRun insertEntry
  repeat' split
  · exact (setIndex_tickKeep _ s).trans (indexChange_tickKeep _)
  · exact .of_eq
  · exact .refl s
  · exact (setIndex_tickKeep _ s).trans (indexChange_tickKeep _)

theorem updateDebounce_tickKeep (k : Option ProgramPack) (a : Option Afa) (dir : Direction) (s : State) :
    TickKeep s (updateDebounce k a dir s) := by
  have hrecord : ∀ d, TickKeep s { s with tapeMap := { s.tapeMap with debounce := d } } := fun _ => .of_eq
  unfold updateDebounce
  simp only
  repeat' split
  · exact ((hrecord _).trans (applyReadRun_tickKeep _ _ _ _)).trans (raiseEvent_tickKeep _ _)
  · exact (hrecord _).trans (applyReadRun_tickKeep _ _ _ _)
  · exact hrecord _
  · exact hrecord _

/-- The state with another position record. -/
def State.withPosition (s : State) (p : PositionRecord) : State := { s with tapeMap := { s.tapeMap with pos := p } }

theorem tapeMapRest_tickRights (q : ReadPath) (packs : FramePacks) (b : Bool) (fp : Option Afa) (s : State) :
    TickRights q s (tapeMapRest packs b fp s) := by
  have hpos : TickRights q s (s.withPosition ((s.tapeMap.pos.edit packs.edit).blank b)) := .of_eq
  exact hpos.trans ((updateDebounce_tickKeep _ _ _ _).rights q)

theorem keepOldFrame_tickKeep (r : TickResult) (fp : Option Afa) (st : PosState) (s : State) :
    TickKeep s (keepOldFrame r fp st s) := .of_eq

theorem ClogHeads.get_set_of_ne (h : ClogHeads) {p q : ReadPath} (hpq : q ≠ p) (t tr : Track) (c : ClogHead) :
    (h.set p t c).get q tr = h.get q tr := by
  cases p <;> cases q <;> first | exact absurd rfl hpq | (cases t <;> cases tr <;> rfl)

/-- A head's count changes nothing of the other path's heads. -/
theorem setHead_tickRights {path q : ReadPath} (hq : q ≠ path) (t : Track) (c : ClogHead) (s : State) :
    TickRights q s (setHead path t c s) :=
  ⟨⟨fun _ => .refl _, rfl, fun _ => ⟨rfl, rfl, rfl, rfl⟩, fun tr =>
    congrArg ClogHead.action (ClogHeads.get_set_of_ne s.faults.heads hq t tr c)⟩, rfl, rfl⟩

theorem clogTallyHead_tickRights {path q : ReadPath} (hq : q ≠ path) (t : Track) (h : HeadTally) (s : State) :
    TickRights q s (clogTallyHead path t h s) := by
  have hset : ∀ c (s : State), TickRights q s (setHead path t c s) := fun c s => setHead_tickRights hq t c s
  unfold clogTallyHead
  simp only
  repeat' split
  · exact (TickKeep.refl s).rights q
  · unfold endHeadAction
    simp only
    split
    · exact ((hset _ s).trans (hset _ _)).trans ((raiseEvent_tickKeep _ _).rights q)
    · exact hset _ s
  · exact hset _ s
  · exact (TickKeep.refl s).rights q
  · exact hset _ s
  · exact ((faultRaise_seqFrame _ _ s).tickKeep.rights q).trans (hset _ _)
  · exact hset _ s

theorem clogTally_tickRights {path q : ReadPath} (hq : q ≠ path) (t : Tally) (s : State) :
    TickRights q s (clogTally path t s) :=
  (clogTallyHead_tickRights hq _ _ _).trans (clogTallyHead_tickRights hq _ _ _)

theorem rateTally_tickKeep (t : Tally) (s : State) : TickKeep s (rateTally t s) := by
  refine TickKeep.trans ?_ (rateTally_seqFrame t s).tickKeep
  exact .of_eq

theorem preTally_tickRights (r : TickResult) (s : State) : TickRights .conf s (preTally r s) := by
  unfold preTally
  split
  · exact (((uncorrTally_seqFrame _ s).tickKeep.trans (rateTally_tickKeep _ _)).rights .conf).trans
      (clogTally_tickRights (by decide) _ _)
  · exact (TickKeep.refl s).rights _
  · exact (TickKeep.refl s).rights _

theorem seqFramePosition_tickKeep (fp : Option Afa) (st : PosState) (d : Bool) (s : State) :
    TickKeep s (seqFramePosition fp st d s) := by
  unfold seqFramePosition
  simp only
  have hposition : TickKeep s { s with seq := { s.seq with lastPosition := fp } } := .of_eq
  refine hposition.trans ?_
  split
  · exact (armedPosition_seqFrame _ _ _ _).tickKeep
  · exact (recordingPosition_seqFrame _ _).tickKeep
  all_goals exact .refl _

theorem verifyResult_tickKeep (path : ReadPath) (r : TickResult) (scan : Option Afa) (j : Bool) (s : State) :
    TickKeep s (verifyResult path r scan j s) := by
  unfold verifyResult
  split
  · exact verifyStep_tickKeep _ _ _ _ s
  · exact .refl s
  · exact .refl s

/-- The tape map and the formatter at a PRE result, up to the RIGHTS pack. -/
def beforeRightsPack (r : TickResult) (s : State) : State :=
  let h := s.tapeMap.pos.handle r.packs.position
  let fp := framePositionOf r.packs.position h.2 h.1
  let s := s.withPosition h.1
  let s := if h.2 = .jumped then reportJump s else s
  keepOldFrame r fp h.1.state (tapeMapRest r.packs (blankNote r s) fp s)

/-- The users of a PRE result after the RIGHTS pack; the position record is the one of the state `s0` at the arrival. -/
def afterRightsPack (r : TickResult) (s0 s : State) : State :=
  let h := s0.tapeMap.pos.handle r.packs.position
  let fp := framePositionOf r.packs.position h.2 h.1
  verifyResult .pre r fp (h.2 == .jumped) (seqFramePosition fp h.1.state r.completed (preTally r s))

/-- The PRE result at its users, around the RIGHTS pack. -/
theorem tapeMapArrival_eq (r : TickResult) (s : State) : tapeMapArrival r s =
    afterRightsPack r s (takeRightsPack r.packs.rights (beforeRightsPack r s)) := rfl

theorem beforeRightsPack_tickRights (r : TickResult) (s : State) (q : ReadPath) :
    TickRights q s (beforeRightsPack r s) := by
  have hpos : ∀ p, TickRights q s (s.withPosition p) := fun _ => .of_eq
  unfold beforeRightsPack
  simp only
  refine TickRights.trans ?_ ((keepOldFrame_tickKeep _ _ _ _).rights q)
  refine TickRights.trans ?_ (tapeMapRest_tickRights q _ _ _ _)
  refine (hpos (s.tapeMap.pos.handle r.packs.position).1).trans ?_
  split
  · exact (reportJump_tickKeep _).rights q
  · exact (TickKeep.refl _).rights q

theorem afterRightsPack_tickRights (r : TickResult) (s0 s : State) : TickRights .conf s (afterRightsPack r s0 s) :=
  (preTally_tickRights r s).trans
    (((seqFramePosition_tickKeep _ _ _ _).trans (verifyResult_tickKeep _ _ _ _ _)).rights .conf)

/-! ### The RIGHTS pack (R154) -/

theorem takeRightsPack_of_none {k : Option RightsPack} {s : State} (h : k = none ∨ s.transport.mode = .unloaded) :
    takeRightsPack k s = s := by
  unfold takeRightsPack
  split
  · rfl
  · rcases h with h | h
    · cases h
    · exact if_pos h

/-- A pack that is not the candidate becomes it. -/
theorem takeRightsPack_of_ne {p : RightsPack} {s : State} (h : s.transport.mode ≠ .unloaded)
    (hc : s.rights.candidate ≠ some p) :
    takeRightsPack (some p) s = { s with rights := { s.rights with candidate := some p } } := by
  simp only [takeRightsPack, if_neg h, if_neg hc]

/-- A pack that is the candidate gives the tape rights. -/
theorem takeRightsPack_of_eq {p : RightsPack} {s : State} (h : s.transport.mode ≠ .unloaded)
    (hc : s.rights.candidate = some p) :
    takeRightsPack (some p) s = setTapeRights ⟨sourceOfCopy p.copy, p.cls⟩ s := by
  simp only [takeRightsPack, if_neg h, if_pos hc]

theorem setTapeRights_of_ne {t : TapeRights} {s : State} (h : s.rights.tape ≠ t) : setTapeRights t s =
    raiseEvent .rightsChanged (refreshWord { s with rights := { s.rights with tape := t } }) := if_neg h

theorem setTapeRights_tape (t : TapeRights) (s : State) : (setTapeRights t s).rights.tape = t := by
  unfold setTapeRights
  split
  · assumption
  · rfl

theorem setTapeRights_candidate (t : TapeRights) (s : State) :
    (setTapeRights t s).rights.candidate = s.rights.candidate := by
  unfold setTapeRights
  split <;> rfl

theorem setTapeRights_core (q : ReadPath) (t : TapeRights) (s : State) : TickCore q s (setTapeRights t s) := by
  unfold setTapeRights
  split
  · exact ((TickKeep.refl s).rights q).toTickCore
  · refine TickCore.trans ?_ ((raiseEvent_tickKeep _ _).rights q).toTickCore
    exact ⟨fun _ => .refl _, rfl, fun _ => ⟨rfl, rfl, rfl, rfl⟩, fun _ => rfl⟩

theorem takeRightsPack_core (q : ReadPath) (k : Option RightsPack) (s : State) : TickCore q s (takeRightsPack k s) := by
  unfold takeRightsPack
  repeat' split
  · exact ((TickKeep.refl s).rights q).toTickCore
  · exact ((TickKeep.refl s).rights q).toTickCore
  · exact setTapeRights_core q _ s
  · exact ⟨fun _ => .refl _, rfl, fun _ => ⟨rfl, rfl, rfl, rfl⟩, fun _ => rfl⟩

theorem tapeMapArrival_core (r : TickResult) (s : State) : TickCore .conf s (tapeMapArrival r s) := by
  rw [tapeMapArrival_eq]
  exact ((beforeRightsPack_tickRights r s .conf).toTickCore.trans (takeRightsPack_core _ _ _)).trans
    (afterRightsPack_tickRights r s _).toTickCore

/-! ### The CONF completion at its users, and the tick's end -/

theorem noteConf_tickKeep (s : State) : TickKeep s (noteConf s) := by
  unfold noteConf
  split
  · exact .refl s
  · exact .of_eq

theorem confirmTally_tickKeep (t : Tally) (s : State) : TickKeep s (confirmTally t s) := by
  have hremoved : ∀ (u : State) l, TickKeep u { u with formatter := { u.formatter with written := l } } :=
    fun _ _ => .of_eq
  unfold confirmTally
  simp only
  refine (noteConf_tickKeep s).trans ?_
  repeat' split
  · exact .refl _
  · exact hremoved _ _
  · exact (hremoved _ _).trans (conditionTo_seqFrame _ _ _).tickKeep
  · exact (hremoved _ _).trans (confirmFailed_seqFrame _ _ _).tickKeep

theorem clogTally_posRate (path : ReadPath) (t : Tally) (s : State) :
    (clogTally path t s).tapeMap.pos.rate = s.tapeMap.pos.rate := by rw [clogTally_only path t s]

/-- A CONF result at its users keeps all but the CONF heads. -/
theorem confUsers_tickRights (r : TickResult) (s : State) : TickRights .pre s (confUsers r s) := by
  unfold confUsers
  split
  · exact (((confirmTally_tickKeep _ s).rights .pre).trans (clogTally_tickRights (by decide) _ _)).trans
      ((verifyStep_tickKeep _ _ _ _ _).rights .pre)
  · exact (TickKeep.refl s).rights _
  · exact (TickKeep.refl s).rights _

theorem confUsers_posRate (r : TickResult) (s : State) : (confUsers r s).tapeMap.pos.rate = s.tapeMap.pos.rate := by
  unfold confUsers
  split
  · exact (verifyStep_tickKeep _ _ _ _ _).posRate.trans
      ((clogTally_posRate _ _ _).trans (confirmTally_tickKeep _ s).posRate)
  · rfl
  · rfl

theorem positionTick_tickKeep (s : State) : TickKeep s (positionTick s) := by
  refine TickKeep.trans ?_ (positionTick_seqFrame s).tickKeep
  exact .of_eq

theorem PositionRecord.tick_rate (p : PositionRecord) (dir : Direction) : (p.tick dir).1.rate = p.rate := by
  unfold PositionRecord.tick
  simp only
  split <;> rfl

theorem tapeMapTick_tickKeep (s : State) : TickKeep s (tapeMapTick s) := by
  have hmoved : TickKeep s { s with tapeMap := { s.tapeMap with
      periodValue := s.tapeMap.pos.afa, pos := (s.tapeMap.pos.tick s.transport.dir).1 } } :=
    .of_eq (posRate := PositionRecord.tick_rate _ _)
  unfold tapeMapTick
  simp only
  refine hmoved.trans ?_
  split
  · exact positionReport_tickKeep _ _
  · exact .refl _

theorem tickBack_tickKeep (s : State) : TickKeep s (tickBack s) := by
  have hblend : ∀ u, TickKeep u (tickBlend u) := fun _ => .of_eq
  have hclock : ∀ u, TickKeep u (tickClock u) := fun _ => .of_eq
  exact (tapeMapTick_tickKeep s).trans <| (hblend _).trans <| (positionTick_tickKeep _).trans (hclock _)

/-- The end of a tick, after both decoders. -/
theorem tickEnd_tickKeep (s : State) : TickKeep s (startSending (buildStart (tickBack s))) :=
  (tickBack_tickKeep s).trans <| (buildStart_tickKeep _).trans (startSending_tickKeep _)

/-! ## The decoders at a tick (R58, R66, R69) -/

theorem decoderTick_decoder (path : ReadPath) (r : TickResult) (s : State) :
    (decoderTick path r s).decoder path = (s.decoder path).tick (stateCalledFor path s.transport) := by
  cases path <;> cases r <;> rfl

theorem decoderTick_output (path : ReadPath) (r : TickResult) (s : State) :
    ((decoderTick path r s).repairUnit path).output = (s.repairUnit path).ahead := by
  cases path <;> cases r <;> rfl

theorem decoderTick_ahead (path : ReadPath) (r : TickResult) (s : State) :
    ((decoderTick path r s).repairUnit path).ahead = r.repairFrame s := by
  cases path <;> cases r <;> rfl

theorem decoderTick_counters (path : ReadPath) (r : TickResult) (s : State) :
    (decoderTick path r s).countersOf path = match r with
      | .completion c => (s.countersOf path).add c
      | .subcode _ => s.countersOf path
      | .noFrame => s.countersOf path := by
  cases path <;> cases r <;> rfl

theorem decoderTick_other {path q : ReadPath} (hq : q ≠ path) (r : TickResult) (s : State) :
    PathKeep q s (decoderTick path r s) := by
  cases path <;> cases q <;> first | exact absurd rfl hq | (cases r <;> exact ⟨rfl, rfl, rfl, rfl⟩)

/-! A decoder's own part of a tick changes nothing outside it, its repair unit and its counters. -/

section
variable (path : ReadPath) (r : TickResult) (s : State)

@[simp] theorem decoderTick_ports : (decoderTick path r s).ports = s.ports := by
  cases path <;> cases r <;> rfl

@[simp] theorem decoderTick_transport : (decoderTick path r s).transport = s.transport := by
  cases path <;> cases r <;> rfl

@[simp] theorem decoderTick_heads : (decoderTick path r s).faults.heads = s.faults.heads := by
  cases path <;> cases r <;> rfl

@[simp] theorem decoderTick_rights : (decoderTick path r s).rights = s.rights := by
  cases path <;> cases r <;> rfl

@[simp] theorem decoderTick_tapeMap : (decoderTick path r s).tapeMap = s.tapeMap := by
  cases path <;> cases r <;> rfl

@[simp] theorem decoderTick_formatter : (decoderTick path r s).formatter = s.formatter := by
  cases path <;> cases r <;> rfl

@[simp] theorem decoderTick_seq : (decoderTick path r s).seq = s.seq := by
  cases path <;> cases r <;> rfl

@[simp] theorem decoderTick_editList : (decoderTick path r s).editList = s.editList := by
  cases path <;> cases r <;> rfl

end

end Sys2Proof.Machine

namespace Sys2Proof.Machine
open Sys2Proof

/-! ## What a tick's result is, and what a decoder makes of it (R58, R66, R69) -/

theorem decoderResult_congr {path : ReadPath} {s t : State} (hdecoder : t.decoder path = s.decoder path)
    (htransport : t.transport = s.transport) (hflags : ∀ tr, overrideFlag t path tr = overrideFlag s path tr)
    (hrate : t.tapeMap.pos.rate = s.tapeMap.pos.rate) : decoderResult path t = decoderResult path s := by
  unfold decoderResult
  simp only [hdecoder, htransport, hflags, hrate]

/-- A decoder that stays in DECODING completes a CURRENT that was whole. -/
theorem decoderResult_completion {path : ReadPath} {s : State}
    (hsame : stateCalledFor path s.transport = (s.decoder path).state)
    (hdecoding : stateCalledFor path s.transport = .decoding) (hwhole : (s.decoder path).whole = true) :
    decoderResult path s = .completion (completeFrame (s.decoder path).current (overrideFlag s path .a)
      (overrideFlag s path .b) s.tapeMap.pos.rate) := by
  unfold decoderResult
  simp only [if_pos hsame, hwhole, if_true]
  rw [← hsame, hdecoding]

/-- A decoder in any other case completes no frame of audio. -/
theorem decoderResult_not_completed {path : ReadPath} {s : State}
    (h : stateCalledFor path s.transport ≠ (s.decoder path).state ∨ stateCalledFor path s.transport ≠ .decoding ∨
      (s.decoder path).whole = false) : (decoderResult path s).completed = false := by
  unfold decoderResult
  simp only
  split
  · next hsame =>
    split
    · rfl
    · next hstate => simp_all [TickResult.completed]
    · rfl
  · rfl

theorem repairFrame_not_completed {r : TickResult} (h : r.completed = false) (s : State) :
    r.repairFrame s = substituteFor s := by
  cases r
  · cases h
  · rfl
  · rfl

theorem decoderTick_counters_not_completed {r : TickResult} (h : r.completed = false) (path : ReadPath) (s : State) :
    (decoderTick path r s).countersOf path = s.countersOf path := by
  rw [decoderTick_counters]
  cases r
  · cases h
  · rfl
  · rfl

theorem tick_of_ne {d : TrackDecoder} {want : DecoderState} (h : want ≠ d.state) :
    d.tick want = ⟨want, none, none, want == .decoding⟩ := if_neg h

theorem tick_decoding {d : TrackDecoder} {want : DecoderState} (h : want = d.state) (hw : want = .decoding) :
    d.tick want = { d with current := d.next, next := none, whole := true } := by
  rw [TrackDecoder.tick, if_pos h, ← h, hw]

theorem tick_subcode {d : TrackDecoder} {want : DecoderState} (h : want = d.state) (hw : want = .subcode) :
    d.tick want = { d with current := d.next, next := none } := by
  rw [TrackDecoder.tick, if_pos h, ← h, hw]

theorem tick_idle {d : TrackDecoder} {want : DecoderState} (h : want = d.state) (hw : want = .idle) :
    d.tick want = d := by
  rw [TrackDecoder.tick, if_pos h, ← h, hw]

/-! ## The decoders within a whole tick -/

/-- The state at the PRE decoder's own part of a tick. -/
def atPreDecoder (dir : Direction) (us : Nat) (s : State) : State := tickFront dir us (beforeTick s)

/-- The state at the CONF decoder's own part of a tick. -/
def atConfDecoder (dir : Direction) (us : Nat) (s : State) : State := preTick (atPreDecoder dir us s)

theorem withTransport_pathKeep (path : ReadPath) (s : State) (t : Transport) : PathKeep path s (s.withTransport t) :=
  ⟨rfl, rfl, rfl, rfl⟩

theorem atPreDecoder_tickKeep (dir : Direction) (us : Nat) (s : State) :
    TickKeep (s.withTransport (s.transport.atTick dir us)) (atPreDecoder dir us s) := tickFront_tickKeep dir us s

theorem atPreDecoder_pathKeep (dir : Direction) (us : Nat) (s : State) (path : ReadPath) :
    PathKeep path s (atPreDecoder dir us s) :=
  (withTransport_pathKeep path s _).trans (((atPreDecoder_tickKeep dir us s).rights path).paths path)

theorem atPreDecoder_flags (dir : Direction) (us : Nat) (s : State) (path : ReadPath) (tr : Track) :
    overrideFlag (atPreDecoder dir us s) path tr = overrideFlag s path tr :=
  ((atPreDecoder_tickKeep dir us s).rights path).flags tr

theorem frameTick_eq (dir : Direction) (us : Nat) (s : State) :
    frameTick dir us s = startSending (buildStart (tickBack (confTick (atConfDecoder dir us s)))) := rfl

/-- The PRE decoder's own part apart, the PRE decoder and its users keep the frame. -/
theorem preTick_core (s : State) :
    TickCore .conf (decoderTick .pre (decoderResult .pre s) s) (preTick s) := by
  unfold preTick
  simp only
  split
  · exact ((keepOldFrame_tickKeep _ _ _ _).rights .conf).toTickCore
  · exact tapeMapArrival_core _ _

theorem confTick_eq (s : State) :
    confTick s = confUsers (decoderResult .conf s) (decoderTick .conf (decoderResult .conf s) s) := rfl

theorem confTick_posRate (s : State) : (confTick s).tapeMap.pos.rate = s.tapeMap.pos.rate := by
  rw [confTick_eq, confUsers_posRate, decoderTick_tapeMap]

theorem confTick_rights (s : State) :
    TickRights .pre (decoderTick .conf (decoderResult .conf s) s) (confTick s) := confUsers_tickRights _ _

/-- From the PRE decoder's users to the end of a tick: the PRE path, the transport and the tape rights stand. -/
theorem confTick_to_end (s : State) :
    let t := startSending (buildStart (tickBack (confTick s)))
    (∀ p, PortGrow (s.ports.get p) (t.ports.get p)) ∧ t.transport = s.transport ∧ PathKeep .pre s t ∧
      t.rights.tape = s.rights.tape ∧ t.rights.candidate = s.rights.candidate := by
  intro t
  have h : TickRights .pre _ t := (confTick_rights s).trans ((tickEnd_tickKeep (confTick s)).rights .pre)
  refine ⟨fun p => ?_, ?_, (decoderTick_other (by decide) _ s).trans (h.paths .pre), ?_, ?_⟩
  · have := h.ports p
    rwa [decoderTick_ports] at this
  · rw [h.transport, decoderTick_transport]
  · rw [h.tape, decoderTick_rights]
  · rw [h.candidate, decoderTick_rights]

/-- The rate a decoder completes a frame with: the one held before the PRE packs for the PRE decoder, and the one held
after them for the CONF decoder (log entry 4), in a tick from `s` to `t`. -/
def heldRate (s t : State) : ReadPath → Option Rate
  | .pre => s.tapeMap.pos.rate
  | .conf => t.tapeMap.pos.rate

/-- The state at a decoder's own part of a tick, and what the tick makes of it: the decoder, its frames and its counters
stand from the tick's start to there and from there to its end. -/
structure TickAtDecoder (path : ReadPath) (s v t : State) : Prop where
  before : PathKeep path s v
  flags : ∀ tr, overrideFlag v path tr = overrideFlag s path tr
  transport : v.transport = t.transport
  rate : v.tapeMap.pos.rate = heldRate s t path
  after : PathKeep path (decoderTick path (decoderResult path v) v) t

theorem atConfDecoder_core (dir : Direction) (us : Nat) (s : State) :
    TickCore .conf (decoderTick .pre (decoderResult .pre (atPreDecoder dir us s)) (atPreDecoder dir us s))
      (atConfDecoder dir us s) := preTick_core _

theorem frameTick_atPre (dir : Direction) (us : Nat) (s : State) :
    TickAtDecoder .pre s (atPreDecoder dir us s) (frameTick dir us s) := by
  have hpre := atConfDecoder_core dir us s
  rw [frameTick_eq]
  obtain ⟨-, hend, hpath, -⟩ := confTick_to_end (atConfDecoder dir us s)
  constructor
  case before => exact atPreDecoder_pathKeep dir us s .pre
  case flags => exact atPreDecoder_flags dir us s .pre
  case transport => rw [hend, hpre.transport, decoderTick_transport]
  case rate => exact (atPreDecoder_tickKeep dir us s).posRate
  case after => exact (hpre.paths .pre).trans hpath

theorem frameTick_atConf (dir : Direction) (us : Nat) (s : State) :
    TickAtDecoder .conf s (atConfDecoder dir us s) (frameTick dir us s) := by
  have hpre := atConfDecoder_core dir us s
  have hconf := confTick_rights (atConfDecoder dir us s)
  have hend := tickEnd_tickKeep (confTick (atConfDecoder dir us s))
  rw [frameTick_eq]
  constructor
  case before =>
    exact ((atPreDecoder_pathKeep dir us s .conf).trans (decoderTick_other (by decide) _ _)).trans (hpre.paths .conf)
  case flags =>
    intro tr
    rw [hpre.flags, ← atPreDecoder_flags dir us s]
    simp only [overrideFlag, decoderTick_heads]
  case transport => rw [(hend.rights .conf).transport, hconf.transport, decoderTick_transport]
  case rate => exact (hend.posRate.trans (confTick_posRate _)).symm
  case after => exact (hconf.paths .conf).trans ((hend.rights .conf).paths .conf)

theorem frameTick_atDecoder (dir : Direction) (us : Nat) (s : State) (path : ReadPath) :
    ∃ v, TickAtDecoder path s v (frameTick dir us s) := by
  cases path
  · exact ⟨_, frameTick_atPre dir us s⟩
  · exact ⟨_, frameTick_atConf dir us s⟩

section
variable {path : ReadPath} {s v t : State}

/-- The decoder after a tick. -/
theorem TickAtDecoder.decoder (h : TickAtDecoder path s v t) :
    t.decoder path = (s.decoder path).tick (stateCalledFor path t.transport) := by
  rw [h.after.decoder, decoderTick_decoder, h.before.decoder, h.transport]

/-- The look-ahead frame has become the output frame. -/
theorem TickAtDecoder.output (h : TickAtDecoder path s v t) :
    (t.repairUnit path).output = (s.repairUnit path).ahead := by
  rw [h.after.output, decoderTick_output, h.before.ahead]

/-- A completion in DECODING goes to the repair unit and the counters. -/
theorem TickAtDecoder.completion (h : TickAtDecoder path s v t)
    (hsame : stateCalledFor path t.transport = (s.decoder path).state)
    (hdecoding : stateCalledFor path t.transport = .decoding) (hwhole : (s.decoder path).whole = true) :
    let c := completeFrame (s.decoder path).current (overrideFlag s path .a) (overrideFlag s path .b)
      v.tapeMap.pos.rate
    (t.repairUnit path).ahead = c.frame ∧ t.countersOf path = (s.countersOf path).add c := by
  rw [← h.transport] at hdecoding
  rw [← h.transport, ← h.before.decoder] at hsame
  rw [← h.before.decoder] at hwhole
  have hr := decoderResult_completion hsame hdecoding hwhole
  rw [h.after.ahead, h.after.counters, decoderTick_ahead, decoderTick_counters, hr, h.before.decoder, h.flags, h.flags,
    h.before.counters]
  exact ⟨rfl, rfl⟩

/-- Else the repair unit is handed a substitute and the counters stand. -/
theorem TickAtDecoder.no_completion (h : TickAtDecoder path s v t)
    (hno : stateCalledFor path t.transport ≠ (s.decoder path).state ∨ stateCalledFor path t.transport ≠ .decoding ∨
      (s.decoder path).whole = false) :
    t.countersOf path = s.countersOf path ∧
      (t.repairUnit path).ahead = substituteFrame (v.tapeMap.pos.rate.getD .r48k) := by
  rw [← h.transport, ← h.before.decoder] at hno
  have hr := decoderResult_not_completed hno
  rw [h.after.ahead, h.after.counters, decoderTick_ahead, decoderTick_counters_not_completed hr,
    repairFrame_not_completed hr, h.before.counters]
  exact ⟨rfl, rfl⟩

end

/-- The counters with a completion added, the BAD samples counted over both channels (R66). -/
theorem PathCounters.add_eq (k : PathCounters) (c : Completion) : k.add c =
    { k with
      clean := k.clean + BitVec.ofNat 32 (c.tally.headA.clean + c.tally.headB.clean)
      fixed := k.fixed + BitVec.ofNat 32 (c.tally.headA.fixed + c.tally.headB.fixed)
      flagged := k.flagged + BitVec.ofNat 32 (c.tally.headA.flagged + c.tally.headB.flagged)
      lost := k.lost + BitVec.ofNat 32 (c.tally.headA.lost + c.tally.headB.lost)
      uncorr := k.uncorr + BitVec.ofNat 32 (c.tally.uncorrA + c.tally.uncorrB), frames := k.frames + 1
      bad := k.bad + BitVec.ofNat 32 ((c.frame.left ++ c.frame.right).countP fun z => !z.good) } := by
  rw [List.countP_append]
  rfl

/-- Settles O27: the arrival by `blockArrival_places`, the tick at each decoder by the state at the decoder's own part,
and the empty completion by `completeFrame_none`. -/
theorem blocksPlaced : Obligations.BlocksPlaced := by
  unfold Obligations.BlocksPlaced
  intro called
  have hcalled : ∀ path x, called path x = stateCalledFor path x := fun path x => (stateCalledFor_eq path x).symm
  clear_value called
  obtain rfl : called = stateCalledFor := funext fun path => funext fun x => hcalled path x
  refine ⟨blockArrival_places, fun dir us s => ⟨frameTick dir us s, rfl, fun path => ?_⟩, fun overA overB held => ?_⟩
  · obtain ⟨v, h⟩ := frameTick_atDecoder dir us s path
    intro d want rate c counters k x y pairs
    have hcounters : ∀ u, counters u = u.countersOf path := fun u => by cases path <;> rfl
    have hrate : rate = v.tapeMap.pos.rate := by
      rw [h.rate]
      cases path <;> rfl
    have hdecoder := h.decoder
    refine ⟨fun hne => ?_, fun hsame hw => ?_, fun hsame hw => ?_, fun hsame hw => ?_, h.output,
      fun hsame hw hwhole => ?_, fun hno => ?_⟩
    · exact hdecoder.trans (tick_of_ne hne)
    · exact hdecoder.trans (tick_decoding hsame hw)
    · exact hdecoder.trans (tick_subcode hsame hw)
    · exact hdecoder.trans (tick_idle hsame hw)
    · obtain ⟨hahead, hcount⟩ := h.completion hsame hw hwhole
      rw [← hrate] at hahead hcount
      exact ⟨hahead, by rw [hcounters, hcount, PathCounters.add_eq, ← hcounters]⟩
    · obtain ⟨hcount, hahead⟩ := h.no_completion hno
      rw [← hrate] at hahead
      exact ⟨by rw [hcounters, hcount, ← hcounters], hahead⟩
  · intro c rate columns
    have hc : c = _ := completeFrame_none overA overB held
    have hcolumns : columns = soundColumns rate := by
      show (if rate = .r48k then 40 else 38) = _
      cases rate <;> rfl
    rw [hc, hcolumns]
    exact ⟨rfl, rfl, rfl, rfl, fun tr col hcol => decodeTrack_none_padding overA tr hcol⟩

end Sys2Proof.Machine

namespace Sys2Proof.Machine
open Sys2Proof

/-! ## The restriction order (R148) -/

theorem moreRestrictive_eq (a b : SourceState) : moreRestrictive a b = a ∨ moreRestrictive a b = b := by
  unfold moreRestrictive
  repeat' split
  all_goals simp

theorem le_moreRestrictive_left (a b : SourceState) : restriction a ≤ restriction (moreRestrictive a b) := by
  unfold moreRestrictive
  repeat' split
  all_goals omega

theorem le_moreRestrictive_right (a b : SourceState) : restriction b ≤ restriction (moreRestrictive a b) := by
  unfold moreRestrictive
  repeat' split
  all_goals omega

/-- Of NONE and UNSTATED, equally restrictive, UNSTATED stands (R148). -/
theorem moreRestrictive_unstated_iff {a b : SourceState} (ha : restriction a = 2) (hb : restriction b = 2) :
    moreRestrictive a b = .rightsUnstated ↔ a = .rightsUnstated ∨ b = .rightsUnstated := by
  rw [moreRestrictive, if_neg (by omega), if_neg (by omega)]
  split <;> simp_all

/-! ## The copy state of a frame (R153) -/

/-- The placed samples are those of both channels of the placed pairs. -/
theorem placedSamples_any (b : Build) (p : PlacedSample → Bool) :
    (placedSamples b).any p = true ↔ ∃ q, q ∈ b.placed ∧ (p q.l = true ∨ p q.r = true) := by
  simp only [placedSamples, List.any_append, List.any_map, Bool.or_eq_true, List.any_eq_true, Function.comp_apply,
    and_or_left, exists_or]

theorem hasNewWeight_iff (b : Build) :
    hasNewWeight b = true ↔ ∃ q, q ∈ b.placed ∧ (0 < q.l.weight ∨ 0 < q.r.weight) := by
  simp only [hasNewWeight, placedSamples_any, decide_eq_true_eq]

theorem hasOldWeight_iff (b : Build) :
    hasOldWeight b = true ↔ ∃ q, q ∈ b.placed ∧ (q.l.weight < 4096 ∨ q.r.weight < 4096) := by
  simp only [hasOldWeight, placedSamples_any, decide_eq_true_eq]

theorem oldOnly_iff (b : Build) : oldOnly b = true ↔ b.kind = .mark ∨ ¬ hasNewWeight b = true := by
  simp [oldOnly]

/-- Whether the old frame was received EMPTY, so that it holds no old material (R153). -/
def Build.emptyOld (b : Build) : Prop := b.old.completed = true ∧ b.old.identity = .absent

theorem frameCopy_old {b : Build} (period : SourceState) (h : b.kind = .mark ∨ ¬ hasNewWeight b = true) :
    frameCopy b period = oldCopy b.old := if_pos ((oldOnly_iff b).mpr h)

theorem frameCopy_new {b : Build} (period : SourceState) (hk : b.kind ≠ .mark) (hn : hasNewWeight b = true)
    (h : ¬ hasOldWeight b = true ∨ b.emptyOld) : frameCopy b period = writtenState period := by
  have hold : oldOnly b = false := by simp [oldOnly, hk, hn]
  rw [frameCopy, hold, if_neg Bool.false_ne_true]
  exact if_pos (by simpa [Build.emptyOld] using h)

theorem frameCopy_both {b : Build} (period : SourceState) (hk : b.kind ≠ .mark) (hn : hasNewWeight b = true)
    (ho : hasOldWeight b = true) (he : ¬ b.emptyOld) :
    frameCopy b period = maxCopy (writtenState period) (oldCopy b.old) := by
  have hold : oldOnly b = false := by simp [oldOnly, hk, hn]
  rw [frameCopy, hold, if_neg Bool.false_ne_true]
  exact if_neg (by simpa [Build.emptyOld, ho] using he)

theorem le_maxCopy_left (a b : CopyState) : codeOfCopy a ≤ codeOfCopy (maxCopy a b) := by
  unfold maxCopy
  split <;> omega

theorem le_maxCopy_right (a b : CopyState) : codeOfCopy b ≤ codeOfCopy (maxCopy a b) := by
  unfold maxCopy
  split <;> omega

/-- A frame with new audio is at least as restrictive as its written state. -/
theorem written_le_frameCopy {b : Build} (period : SourceState) (hk : b.kind ≠ .mark) (hn : hasNewWeight b = true) :
    codeOfCopy (writtenState period) ≤ codeOfCopy (frameCopy b period) := by
  by_cases h : ¬ hasOldWeight b = true ∨ b.emptyOld
  · rw [frameCopy_new period hk hn h]
  · obtain ⟨ho, he⟩ := not_or.mp h
    rw [frameCopy_both period hk hn (not_not.mp ho) he]
    exact le_maxCopy_left _ _

/-- A frame that holds old material is at least as restrictive as that. -/
theorem old_le_frameCopy {b : Build} (period : SourceState) (ho : hasOldWeight b = true) (he : ¬ b.emptyOld) :
    codeOfCopy (oldCopy b.old) ≤ codeOfCopy (frameCopy b period) := by
  by_cases h : b.kind = .mark ∨ ¬ hasNewWeight b = true
  · rw [frameCopy_old period h]
  · obtain ⟨hk, hn⟩ := not_or.mp h
    rw [frameCopy_both period hk (not_not.mp hn) ho he]
    exact le_maxCopy_right _ _

/-! ## The period rights cover the selected source (R148) -/

/-- What the state of the selected source depends on, and the kept period rights. -/
structure SourceKept (s t : State) : Prop where
  editList : t.editList = s.editList := by rfl
  defaultSource : t.formatter.defaultSource = s.formatter.defaultSource := by rfl
  analogRights : t.formatter.analogRights = s.formatter.analogRights := by rfl
  digital : t.rights.digital = s.rights.digital := by rfl
  kept : t.rights.kept = s.rights.kept := by rfl

theorem SeqFrame.sourceKept {s t : State} (h : SeqFrame s t) : SourceKept s t :=
  ⟨h.editList, h.defaultSource, h.analogRights, h.digital, h.kept⟩

theorem selectedState_of_source {s t : State} (h : SourceKept s t) (hs : selectedSource t = selectedSource s) :
    selectedState t = selectedState s := by
  unfold selectedState
  rw [hs]
  unfold stateOfSource
  rw [h.digital, h.analogRights]

theorem selectedSource_congr {s t : State} (h : SourceKept s t) (held : t.seq.held = s.seq.held) :
    selectedSource t = selectedSource s := by
  unfold selectedSource heldEntry
  rw [held, h.editList, h.defaultSource]

/-- What an operation on the held entry does to the period rights: they only become more restrictive, and where they
cover the state of the selected source they go on covering it. -/
structure PeriodGrows (s t : State) : Prop where
  kept : t.rights.kept = s.rights.kept
  grows : restriction s.rights.period ≤ restriction t.rights.period
  covers : restriction (selectedState s) ≤ restriction s.rights.period →
    restriction (selectedState t) ≤ restriction t.rights.period

/-- An operation that, besides, takes no entry when none is held, so that then nothing changes. -/
structure PeriodStep (s t : State) : Prop extends PeriodGrows s t where
  idle : s.seq.held = none →
    t.seq.held = none ∧ t.rights.period = s.rights.period ∧ selectedState t = selectedState s

theorem PeriodGrows.trans {s t u : State} (h : PeriodGrows s t) (k : PeriodGrows t u) : PeriodGrows s u :=
  ⟨k.kept.trans h.kept, h.grows.trans k.grows, fun hs => k.covers (h.covers hs)⟩

theorem PeriodStep.trans {s t u : State} (h : PeriodStep s t) (k : PeriodStep t u) : PeriodStep s u :=
  ⟨h.toPeriodGrows.trans k.toPeriodGrows, fun hs => by
    obtain ⟨held, period, selected⟩ := h.idle hs
    obtain ⟨held', period', selected'⟩ := k.idle held
    exact ⟨held', period'.trans period, selected'.trans selected⟩⟩

/-- An operation that touches neither the held entry nor the period rights. -/
theorem PeriodStep.of_source {s t : State} (h : SourceKept s t) (held : t.seq.held = s.seq.held := by rfl)
    (period : t.rights.period = s.rights.period := by rfl) : PeriodStep s t := by
  have hselected := selectedState_of_source h (selectedSource_congr h held)
  exact ⟨⟨h.kept, by rw [period], fun hs => by rw [hselected, period]; exact hs⟩,
    fun hs => ⟨held.trans hs, period, hselected⟩⟩

theorem PeriodStep.refl (s : State) : PeriodStep s s := .of_source {}

theorem raiseEvent_periodStep (e : Event) (s : State) : PeriodStep s (raiseEvent e s) := .of_source {}

theorem reselect_periodStep (s : State) : PeriodStep s (reselect s) := by
  unfold reselect
  simp only
  repeat' split
  all_goals exact .of_source {}

theorem conditionTo_rights (k : FaultKind) (c : Option FaultDetail) (s : State) :
    (conditionTo k c s).rights = s.rights := by
  unfold conditionTo faultRaise endAction
  simp only
  repeat' split
  all_goals rfl

theorem conditionTo_periodStep (k : FaultKind) (c : Option FaultDetail) (s : State) :
    PeriodStep s (conditionTo k c s) :=
  .of_source (conditionTo_seqFrame k c s).sourceKept (by rw [conditionTo_seq]) (by rw [conditionTo_rights])

/-- A change of the selected source makes the period rights more restrictive by its state (R148). -/
theorem afterSourceChange_grows {s0 s : State} (h : SourceKept s0 s) (period : s.rights.period = s0.rights.period) :
    PeriodGrows s0 (afterSourceChange s0 s) := by
  unfold afterSourceChange
  split
  · next hsame =>
    have hselected := selectedState_of_source h hsame
    exact ⟨h.kept, by rw [period], fun hs => by rw [hselected, period]; exact hs⟩
  · simp only
    refine PeriodGrows.trans ?_ (conditionTo_periodStep _ _ _).toPeriodGrows
    refine ⟨h.kept, ?_, fun _ => le_moreRestrictive_right s.rights.period (selectedState s)⟩
    rw [← period]
    exact le_moreRestrictive_left s.rights.period (selectedState s)

theorem giveUp_periodStep (s : State) : PeriodStep s (giveUp s) := by
  unfold giveUp
  split
  · next hheld =>
    refine ⟨PeriodGrows.trans (afterSourceChange_grows ?_ ?_) (reselect_periodStep _).toPeriodGrows, fun hs => ?_⟩
    · exact {}
    · rfl
    · rw [hs] at hheld
      cases hheld
  · exact .of_source {}

theorem takeEntry_grows (k : Fin 32) (s : State) : PeriodGrows s (takeEntry k s) := by
  unfold takeEntry
  refine PeriodGrows.trans ?_ (reselect_periodStep _).toPeriodGrows
  exact afterSourceChange_grows {} rfl

theorem recordError_periodStep (kind : ErrorKind) (ph : Phase) (k : Fin 32) (d : ErrorDetail) (s : State) :
    PeriodStep s (recordError kind ph k d s) := by
  unfold recordError
  split <;> exact .of_source {}

/-- The state with the sequencer as `f` makes it. -/
def State.mapSeq (s : State) (f : Sequencer → Sequencer) : State := { s with seq := f s.seq }

theorem mapSeq_periodStep {s : State} {f : Sequencer → Sequencer} (h : (f s.seq).held = s.seq.held) :
    PeriodStep s (s.mapSeq f) := .of_source {} h

theorem seqStop_periodStep (kind : ErrorKind) (d : ErrorDetail) (k : Fin 32) (s : State) :
    PeriodStep s (seqStop kind d k s) := by
  have hstate := mapSeq_periodStep (s := s) (f := fun q => { q with state := .fault, pointer := k }) rfl
  exact hstate.trans <| (recordError_periodStep _ _ _ _ _).trans <| (giveUp_periodStep _).trans
    (raiseEvent_periodStep _ _)

theorem endWalk_periodStep (c : CloseKind) (k : Fin 32) (s : State) : PeriodStep s (endWalk c k s) := .of_source {}

theorem fetchFound_grows (p : Fin 32) (s : State) : PeriodGrows s (fetchFound p s) := by
  have hguard := mapSeq_periodStep (s := s) (f := fun q => { q with guard := 0 }) rfl
  unfold fetchFound
  simp only
  split
  · exact (hguard.trans (seqStop_periodStep _ _ _ _)).toPeriodGrows
  · exact hguard.toPeriodGrows.trans (takeEntry_grows _ _)

theorem fetchPass_grows (p q : Fin 32) {more : State → State} (hm : ∀ u, PeriodGrows u (more u)) (s : State) :
    PeriodGrows s (fetchPass p q more s) := by
  have hguard := mapSeq_periodStep (s := s) (f := fun q => { q with guard := q.guard + 1 }) rfl
  unfold fetchPass
  simp only
  repeat' split
  · exact (hguard.trans (seqStop_periodStep _ _ _ _)).toPeriodGrows
  · exact (hguard.trans (endWalk_periodStep _ _ _)).toPeriodGrows
  · have hpointer := mapSeq_periodStep (s := s) (f := fun r => { r with guard := r.guard + 1, pointer := q }) rfl
    exact hpointer.toPeriodGrows.trans (hm _)

theorem fetchFrom_grows (n : Nat) : ∀ s : State, PeriodGrows s (fetchFrom n s) := by
  induction n with
  | zero => exact fun s => (PeriodStep.refl s).toPeriodGrows
  | succ n ih =>
    intro s
    rw [fetchFrom_succ]
    split
    · exact fetchPass_grows _ _ ih s
    · exact fetchPass_grows _ _ ih s
    all_goals exact fetchFound_grows _ s

theorem heldEntry_eq_none {s : State} (h : s.seq.held = none) : heldEntry s = none := by rw [heldEntry, h]; rfl

/-- With no entry held nothing completes. -/
theorem complete_periodStep (s : State) : PeriodStep s (complete s) := by
  refine ⟨?_, fun hs => ?_⟩
  · unfold complete
    split
    · exact (PeriodStep.refl s).toPeriodGrows
    · next k e _ =>
      have hidle := mapSeq_periodStep (s := s) (f := fun q => { q with state := .idle, pointer := k }) rfl
      have hclear : ∀ u, PeriodStep u (clearPending u) := fun u => .of_source {}
      have hgiven := hidle.trans ((giveUp_periodStep _).trans (hclear _))
      simp only
      repeat' split
      · exact (hgiven.trans (.trans (.of_source {}) (raiseEvent_periodStep _ _))).toPeriodGrows
      · exact (hgiven.trans (endWalk_periodStep _ _ _)).toPeriodGrows
      · exact (hgiven.trans (endWalk_periodStep _ _ _)).toPeriodGrows
      · exact (hgiven.trans (mapSeq_periodStep (f := fun q => { q with state := .held, pointer := nextEntry k })
          rfl)).toPeriodGrows
      · exact (hgiven.trans (mapSeq_periodStep (f := fun q => { q with pointer := nextEntry k })
          rfl)).toPeriodGrows.trans (fetchFrom_grows 34 _)
  · have hself : complete s = s := by rw [complete, heldEntry_eq_none hs]
    rw [hself]
    exact (PeriodStep.refl s).idle hs

theorem cutRequest_periodStep (s : State) : PeriodStep s (cutRequest s) := .of_source {}

theorem forcedCloseRequest_periodStep (s : State) : PeriodStep s (forcedCloseRequest s) := by
  unfold forcedCloseRequest
  simp only
  repeat' split
  all_goals exact .of_source {}

theorem closeRequest_periodStep (g : FrameNo) (s : State) : PeriodStep s (closeRequest g s) := by
  unfold closeRequest
  split <;> exact .of_source {}

theorem failEntry_periodStep (kind : ErrorKind) (d : ErrorDetail) (k : Fin 32) (s : State) :
    PeriodStep s (failEntry kind d k s) := by
  have hstate := mapSeq_periodStep (s := s) (f := fun q => { q with state := .fault, pointer := k }) rfl
  have hclear : ∀ u, PeriodStep u (clearPending u) := fun u => .of_source {}
  exact hstate.trans <| (recordError_periodStep _ _ _ _ _).trans <| (hclear _).trans <| (giveUp_periodStep _).trans
    (raiseEvent_periodStep _ _)

theorem seqForcedClose_periodStep (kind : ErrorKind) (d : ErrorDetail) (s : State) :
    PeriodStep s (seqForcedClose kind d s) := by
  unfold seqForcedClose
  repeat' split
  · exact .refl s
  · exact (forcedCloseRequest_periodStep s).trans <| (cutRequest_periodStep _).trans (failEntry_periodStep _ _ _ _)
  · exact .refl s

theorem seqForcedCloseAll_periodStep (kind : ErrorKind) (d : ErrorDetail) (s : State) :
    PeriodStep s (seqForcedCloseAll kind d s) := by
  unfold seqForcedCloseAll
  split
  · exact .refl s
  · split
    · refine PeriodStep.trans ?_ ((cutRequest_periodStep _).trans (failEntry_periodStep _ _ _ _))
      split
      · exact .refl s
      · exact forcedCloseRequest_periodStep s
    · exact .refl s

theorem leftRecord_periodStep (s : State) : PeriodStep s (leftRecord s) := by
  unfold leftRecord
  repeat' split
  · exact (forcedCloseRequest_periodStep s).trans <| (cutRequest_periodStep _).trans (complete_periodStep _)
  · exact seqForcedClose_periodStep _ _ s
  · exact .refl s

theorem windowLoss_periodStep (t : Transport) (s : State) : PeriodStep s (windowLoss t s) := by
  unfold windowLoss
  repeat' split
  · exact leftRecord_periodStep s
  · exact seqForcedClose_periodStep _ _ s
  · exact seqForcedClose_periodStep _ _ s
  · exact seqForcedClose_periodStep _ _ s
  · exact .refl s

theorem applyAction_periodStep (k : FaultKind) (s : State) : PeriodStep s (applyAction k s) := by
  unfold applyAction
  repeat' split
  all_goals first
    | exact .refl s
    | exact seqForcedClose_periodStep _ _ s
    | exact seqStop_periodStep _ _ _ s

theorem evaluate_periodStep (k : FaultKind) (c : Option FaultDetail) (s : State) : PeriodStep s (evaluate k c s) := by
  unfold evaluate
  simp only
  split
  · exact (conditionTo_periodStep _ _ s).trans (applyAction_periodStep _ _)
  · exact conditionTo_periodStep _ _ s

/-! ### Frame positions, refusals and stops -/

theorem setSeqState_periodStep (st : SeqState) (s : State) : PeriodStep s (setSeqState st s) := .of_source {}

theorem fadeInRequest_periodStep (e : EditEntry) (o : Nat) (s : State) : PeriodStep s (fadeInRequest e o s) :=
  .of_source {}

theorem fadeOutRequest_periodStep (e : EditEntry) (o : Nat) (s : State) : PeriodStep s (fadeOutRequest e o s) :=
  .of_source {}

theorem openRequest_periodStep (sp : Span) (s : State) : PeriodStep s (openRequest sp s) := by
  unfold openRequest
  split <;> exact .of_source {}

theorem openEntry_periodStep (e : EditEntry) (fp : Option Afa) (st : PosState) (o : Nat) (s : State) :
    PeriodStep s (openEntry e fp st o s) := by
  have hopen : PeriodStep s (if isRehearsal e then s else openRequest (spanOf e fp st s) s) := by
    split
    · exact .refl s
    · exact openRequest_periodStep _ s
  have hfade : ∀ u, PeriodStep u (if recordsNew e then fadeInRequest e o u else u) := fun u => by
    split
    · exact fadeInRequest_periodStep _ _ u
    · exact .refl u
  exact hopen.trans <| (hfade _).trans (setSeqState_periodStep _ _)

theorem inArrival_periodStep (k : Fin 32) (e : EditEntry) (fp : Option Afa) (st : PosState) (o : Nat) (s : State) :
    PeriodStep s (inArrival k e fp st o s) := by
  unfold inArrival
  repeat' split
  · exact openEntry_periodStep _ _ _ _ s
  · exact seqStop_periodStep _ _ _ s
  · exact openEntry_periodStep _ _ _ _ s

theorem armedPosition_periodStep (fp : Option Afa) (st : PosState) (d : Bool) (s : State) :
    PeriodStep s (armedPosition fp st d s) := by
  unfold armedPosition
  repeat' split
  all_goals first
    | exact .refl s
    | exact inArrival_periodStep _ _ _ _ _ s
    | exact seqStop_periodStep _ _ _ s

theorem recordingPosition_periodStep (fp : Option Afa) (s : State) : PeriodStep s (recordingPosition fp s) := by
  unfold recordingPosition
  repeat' split
  all_goals first
    | exact .refl s
    | exact (fadeOutRequest_periodStep _ _ s).trans (setSeqState_periodStep _ _)

theorem seqFramePosition_periodStep (fp : Option Afa) (st : PosState) (d : Bool) (s : State) :
    PeriodStep s (seqFramePosition fp st d s) := by
  have hposition := mapSeq_periodStep (s := s) (f := fun q => { q with lastPosition := fp }) rfl
  unfold seqFramePosition
  simp only
  refine hposition.trans ?_
  split
  · exact armedPosition_periodStep _ _ _ _
  · exact recordingPosition_periodStep _ _
  all_goals exact .refl _

theorem seqRefused_periodStep (kind : ErrorKind) (d : ErrorDetail) (s : State) :
    PeriodStep s (seqRefused kind d s) := by
  unfold seqRefused
  repeat' split
  · exact .refl s
  · exact (cutRequest_periodStep s).trans (failEntry_periodStep _ _ _ _)
  · exact .refl s

theorem seqLaterStop_periodStep (kind : ErrorKind) (d : ErrorDetail) (s : State) :
    PeriodStep s (seqLaterStop kind d s) := by
  unfold seqLaterStop
  repeat' split
  · exact .refl s
  · exact (cutRequest_periodStep s).trans <| (recordError_periodStep _ _ _ _ _).trans (setSeqState_periodStep _ _)
  · exact .refl s

/-! ### The blocks of a tick -/

theorem verifyRange_periodStep (t : Transport) (s : State) : PeriodStep s (verifyRange t s) := by
  unfold verifyRange
  simp only
  split <;> exact .of_source {}

theorem afterTransport_periodStep (t : Transport) (s : State) : PeriodStep s (afterTransport t s) :=
  (verifyRange_periodStep t s).trans <| (windowLoss_periodStep _ _).trans (evaluate_periodStep _ _ _)

theorem positionReport_periodStep (d : FaultDetail) (s : State) : PeriodStep s (positionReport d s) := by
  have htag : ∀ x, PeriodStep s { s with faults := { s.faults with positionTag := x } } := fun _ => .of_source {}
  unfold positionReport
  split
  · exact .refl s
  · exact (htag _).trans (evaluate_periodStep _ _ _)

theorem positionTick_periodStep (s : State) : PeriodStep s (positionTick s) := by
  have htag : ∀ x, PeriodStep s { s with faults := { s.faults with positionTag := x } } := fun _ => .of_source {}
  unfold positionTick
  repeat' split
  · exact (htag _).trans (conditionTo_periodStep _ _ _)
  · exact .refl s
  · exact .refl s

theorem reportJump_periodStep (s : State) : PeriodStep s (reportJump s) := by
  have hcounted : ∀ (u : State) k, PeriodStep u { u with faults := { u.faults with counters := k } } :=
    fun _ _ => .of_source {}
  exact (raiseEvent_periodStep _ s).trans <| (hcounted _ _).trans <| (positionReport_periodStep _ _).trans
    (seqForcedCloseAll_periodStep _ _ _)

/-- An operation that an equation shows to touch neither the sequencer, the formatter, the edit list nor the rights. -/
theorem PeriodStep.of_blocks {s t : State} (hseq : t.seq = s.seq) (hformatter : t.formatter = s.formatter)
    (hlist : t.editList = s.editList) (hrights : t.rights = s.rights) : PeriodStep s t :=
  .of_source ⟨hlist, by rw [hformatter], by rw [hformatter], by rw [hrights], by rw [hrights]⟩ (by rw [hseq])
    (by rw [hrights])

theorem tapeMapRest_periodStep (packs : FramePacks) (b : Bool) (fp : Option Afa) (s : State) :
    PeriodStep s (tapeMapRest packs b fp s) := by
  have h := tapeMapRest_only packs b fp s
  exact .of_blocks (by rw [h]) (by rw [h]) (by rw [h]) (by rw [h])

theorem clogTally_periodStep (path : ReadPath) (t : Tally) (s : State) : PeriodStep s (clogTally path t s) := by
  have h : _ = _ := clogTally_only path t s
  exact .of_blocks (by rw [h]) (by rw [h]) (by rw [h]) (by rw [h])

theorem verifyStep_periodStep (path : ReadPath) (scan : Option Afa) (j : Bool) (t : Tally) (s : State) :
    PeriodStep s (verifyStep path scan j t s) := by
  have h := verifyStep_only path scan j t s
  exact .of_blocks (by rw [h]) (by rw [h]) (by rw [h]) (by rw [h])

theorem verifyResult_periodStep (path : ReadPath) (r : TickResult) (scan : Option Afa) (j : Bool) (s : State) :
    PeriodStep s (verifyResult path r scan j s) := by
  unfold verifyResult
  split
  · exact verifyStep_periodStep _ _ _ _ s
  all_goals exact .refl s

theorem keepOldFrame_periodStep (r : TickResult) (fp : Option Afa) (st : PosState) (s : State) :
    PeriodStep s (keepOldFrame r fp st s) := .of_source {}

theorem takeRightsPack_periodStep (k : Option RightsPack) (s : State) : PeriodStep s (takeRightsPack k s) := by
  unfold takeRightsPack setTapeRights
  repeat' split
  all_goals exact .of_source {}

theorem beforeRightsPack_periodStep (r : TickResult) (s : State) : PeriodStep s (beforeRightsPack r s) := by
  have hpos : ∀ p, PeriodStep s (s.withPosition p) := fun _ => .of_source {}
  unfold beforeRightsPack
  simp only
  refine PeriodStep.trans ?_ ((tapeMapRest_periodStep _ _ _ _).trans (keepOldFrame_periodStep _ _ _ _))
  refine (hpos (s.tapeMap.pos.handle r.packs.position).1).trans ?_
  split
  · exact reportJump_periodStep _
  · exact .refl _

theorem rateTally_periodStep (t : Tally) (s : State) : PeriodStep s (rateTally t s) := by
  have hwindow : ∀ w, PeriodStep s { s with faults := { s.faults with window := w } } := fun _ => .of_source {}
  unfold rateTally
  simp only
  split
  · exact .refl s
  · exact (hwindow _).trans (evaluate_periodStep _ _ _)

theorem preTally_periodStep (r : TickResult) (s : State) : PeriodStep s (preTally r s) := by
  unfold preTally
  split
  · exact (evaluate_periodStep _ _ s).trans <| (rateTally_periodStep _ _).trans (clogTally_periodStep _ _ _)
  all_goals exact .refl s

theorem tapeMapArrival_periodStep (r : TickResult) (s : State) : PeriodStep s (tapeMapArrival r s) := by
  rw [tapeMapArrival_eq]
  exact (beforeRightsPack_periodStep r s).trans <| (takeRightsPack_periodStep _ _).trans <|
    (preTally_periodStep r _).trans <| (seqFramePosition_periodStep _ _ _ _).trans (verifyResult_periodStep _ _ _ _ _)

theorem decoderTick_periodStep (path : ReadPath) (r : TickResult) (s : State) : PeriodStep s (decoderTick path r s) :=
  .of_blocks (decoderTick_seq path r s) (decoderTick_formatter path r s) (decoderTick_editList path r s)
    (decoderTick_rights path r s)

theorem preTick_periodStep (s : State) : PeriodStep s (preTick s) := by
  unfold preTick
  simp only
  refine (decoderTick_periodStep .pre (decoderResult .pre s) s).trans ?_
  split
  · exact keepOldFrame_periodStep _ _ _ _
  · exact tapeMapArrival_periodStep _ _

theorem confirmTally_periodStep (t : Tally) (s : State) : PeriodStep s (confirmTally t s) := by
  have hnote : PeriodStep s (noteConf s) := by
    unfold noteConf
    split <;> exact .of_source {}
  have hremoved : ∀ (u : State) l, PeriodStep u { u with formatter := { u.formatter with written := l } } :=
    fun _ _ => .of_source {}
  unfold confirmTally
  simp only
  refine hnote.trans ?_
  repeat' split
  · exact .refl _
  · exact hremoved _ _
  · exact (hremoved _ _).trans (conditionTo_periodStep _ _ _)
  · exact (hremoved _ _).trans (evaluate_periodStep _ _ _)

theorem confTick_periodStep (s : State) : PeriodStep s (confTick s) := by
  rw [confTick_eq]
  refine (decoderTick_periodStep .conf (decoderResult .conf s) s).trans ?_
  unfold confUsers
  split
  · exact (confirmTally_periodStep _ _).trans <| (clogTally_periodStep _ _ _).trans (verifyStep_periodStep _ _ _ _ _)
  all_goals exact .refl _

theorem tickBack_periodStep (s : State) : PeriodStep s (tickBack s) := by
  have hmap : ∀ u : State, PeriodStep u (tapeMapTick u) := fun u => by
    unfold tapeMapTick
    simp only
    split
    · refine PeriodStep.trans ?_ (positionReport_periodStep _ _)
      exact .of_source {}
    · exact .of_source {}
  have hblend : ∀ u, PeriodStep u (tickBlend u) := fun _ => .of_source {}
  have hclock : ∀ u, PeriodStep u (tickClock u) := fun _ => .of_source {}
  exact (hmap s).trans <| (hblend _).trans <| (positionTick_periodStep _).trans (hclock _)

theorem buildAtTick_periodStep (s : State) : PeriodStep s (buildAtTick s) := by
  unfold buildAtTick
  split <;> exact .of_source {}

theorem beginBuild_periodStep (f : FrameNo) (sp : Span) (o : OldFrame) (s : State) :
    PeriodStep s (beginBuild f sp o s) := by
  have hw := beginBuild_workFrame f sp o s
  exact .of_source ⟨hw.editList, hw.defaultSource, hw.analogRights, hw.digital, hw.kept⟩

theorem buildStart_periodStep (s : State) : PeriodStep s (buildStart s) := by
  have hstop : ∀ sp k d, PeriodStep s (buildStop sp k d s) := fun sp k d => by
    unfold buildStop
    split
    · refine PeriodStep.trans ?_ (seqRefused_periodStep _ _ _)
      exact .of_source {}
    · exact (closeRequest_periodStep _ s).trans (seqLaterStop_periodStep _ _ _)
  unfold buildStart
  simp only
  repeat' split
  · exact .refl s
  · exact hstop _ _ _
  · exact hstop _ _ _
  · exact beginBuild_periodStep _ _ _ s

theorem startSending_periodStep (s : State) : PeriodStep s (startSending s) := by
  unfold startSending
  simp only
  split <;> exact .of_source {}

/-- A tick after the rights unit's part of it. -/
theorem afterTickRights_periodStep (s : State) :
    PeriodStep s (startSending (buildStart (tickBack (confTick (preTick (buildAtTick s)))))) :=
  (buildAtTick_periodStep s).trans <| (preTick_periodStep _).trans <| (confTick_periodStep _).trans <|
    (tickBack_periodStep _).trans <| (buildStart_periodStep _).trans (startSending_periodStep _)

theorem frameTick_of_settled (dir : Direction) (us : Nat) {s : State} (hb : beforeTick s = s) : frameTick dir us s =
    startSending (buildStart (tickBack (confTick (preTick (buildAtTick (tickRights (tickTransport dir us s))))))) := by
  unfold frameTick tickFront
  rw [hb]

/-- FRAME_TICK at the rights unit (R148): it keeps the period rights, which a loss of the write window may just have
made more restrictive, and sets them again to the state of the selected source, which every later change makes more
restrictive. -/
theorem frameTick_period (dir : Direction) (us : Nat) {s : State} (hb : beforeTick s = s) :
    let t := frameTick dir us s
    restriction s.rights.period ≤ restriction t.rights.kept ∧
      restriction (selectedState t) ≤ restriction t.rights.period ∧
      (s.seq.held = none → t.rights.kept = s.rights.period ∧ t.rights.period = selectedState s) := by
  intro t
  have hstart : PeriodStep s (s.withTransport (s.transport.atTick dir us)) := .of_source {}
  have hfront : PeriodStep s (tickTransport dir us s) := hstart.trans (afterTransport_periodStep _ _)
  generalize hu : tickTransport dir us s = u at hfront
  have hafter : PeriodStep (tickRights u) t := by
    have h := afterTickRights_periodStep (tickRights u)
    rwa [← hu, ← frameTick_of_settled dir us hb, hu] at h
  have hkept : t.rights.kept = u.rights.period := hafter.kept
  have hselected : selectedState (tickRights u) = selectedState u := rfl
  refine ⟨?_, hafter.covers (le_of_eq (congrArg restriction hselected)), fun hs => ?_⟩
  · rw [hkept]
    exact hfront.grows
  · obtain ⟨hheld, hperiod, hsel⟩ := hfront.idle hs
    obtain ⟨-, hperiod', -⟩ := hafter.idle hheld
    exact ⟨hkept.trans hperiod, hperiod'.trans hsel⟩

/-! ## The RIGHTS pack of a tick (R154) -/

/-- The tape rights, their candidate and the mode stand, and events may be added at the ports. -/
structure RightsKeep (s t : State) : Prop where
  ports : ∀ p, PortGrow (s.ports.get p) (t.ports.get p)
  mode : t.transport.mode = s.transport.mode
  tape : t.rights.tape = s.rights.tape
  candidate : t.rights.candidate = s.rights.candidate

theorem RightsKeep.trans {s t u : State} (h : RightsKeep s t) (k : RightsKeep t u) : RightsKeep s u :=
  ⟨fun p => (h.ports p).trans (k.ports p), k.mode.trans h.mode, k.tape.trans h.tape, k.candidate.trans h.candidate⟩

theorem TickRights.keep {q : ReadPath} {s t : State} (h : TickRights q s t) : RightsKeep s t :=
  ⟨h.ports, by rw [h.transport], h.tape, h.candidate⟩

theorem decoderTick_rightsKeep (path : ReadPath) (r : TickResult) (s : State) :
    RightsKeep s (decoderTick path r s) :=
  ⟨fun p => by rw [decoderTick_ports]; exact .refl _, by rw [decoderTick_transport], by rw [decoderTick_rights],
    by rw [decoderTick_rights]⟩

theorem atPreDecoder_rightsKeep (dir : Direction) (us : Nat) (s : State) : RightsKeep s (atPreDecoder dir us s) := by
  have hmoved : RightsKeep s (s.withTransport (s.transport.atTick dir us)) := ⟨fun _ => .refl _, rfl, rfl, rfl⟩
  exact hmoved.trans ((atPreDecoder_tickKeep dir us s).rights .pre).keep

/-- The PRE decoder and its users, around the RIGHTS pack. -/
theorem preTick_rightsPack (s : State) : ∃ u, RightsKeep s u ∧
    RightsKeep (takeRightsPack (decoderResult .pre s).packs.rights u) (preTick s) := by
  have hdecoder := decoderTick_rightsKeep .pre (decoderResult .pre s) s
  unfold preTick
  simp only
  split
  · next hunloaded =>
    refine ⟨_, hdecoder, ?_⟩
    rw [takeRightsPack_of_none (.inr hunloaded)]
    exact ((keepOldFrame_tickKeep _ _ _ _).rights .pre).keep
  · refine ⟨_, hdecoder.trans (beforeRightsPack_tickRights (decoderResult .pre s) _ .pre).keep, ?_⟩
    rw [tapeMapArrival_eq]
    exact (afterRightsPack_tickRights _ _ _).keep

/-- A whole tick, around the RIGHTS pack of the PRE decoder. -/
theorem frameTick_rightsPack (dir : Direction) (us : Nat) (s : State) : ∃ u, RightsKeep s u ∧
    RightsKeep (takeRightsPack (decoderResult .pre (atPreDecoder dir us s)).packs.rights u) (frameTick dir us s) := by
  obtain ⟨u, hbefore, hafter⟩ := preTick_rightsPack (atPreDecoder dir us s)
  obtain ⟨hports, htransport, -, htape, hcandidate⟩ := confTick_to_end (atConfDecoder dir us s)
  refine ⟨u, (atPreDecoder_rightsKeep dir us s).trans hbefore, ?_⟩
  have hconf : RightsKeep _ (atConfDecoder dir us s) := hafter
  rw [frameTick_eq]
  exact hconf.trans ⟨hports, congrArg Transport.mode htransport, htape, hcandidate⟩

/-- The packs of the PRE result, from the state before the tick and the transport after it. -/
theorem decoderResult_atPreDecoder (dir : Direction) (us : Nat) (s : State) :
    decoderResult .pre (atPreDecoder dir us s) =
      decoderResult .pre (s.withTransport (frameTick dir us s).transport) := by
  have h := frameTick_atPre dir us s
  have htransport := h.transport
  generalize (frameTick dir us s).transport = x at htransport
  exact decoderResult_congr h.before.decoder htransport h.flags h.rate

/-- Changed tape rights raise RIGHTS_CHANGED at each port that reports it. -/
theorem setTapeRights_event {t : TapeRights} {s : State} (h : t ≠ s.rights.tape) (q : Port)
    (hq : EventSet.has (s.ports.get q).report .rightsChanged = true) :
    EventSet.has ((setTapeRights t s).ports.get q).events .rightsChanged = true := by
  rw [setTapeRights_of_ne (Ne.symm h)]
  exact raised_has (s := { s with rights := { s.rights with tape := t } }) (refreshWord_seqFrame _) _ q hq

/-! ## A status record (R145, R147, R148) -/

theorem seqForcedClose_of_not_writing {s : State} (h : writingEntry s = false) (kind : ErrorKind) (d : ErrorDetail) :
    seqForcedClose kind d s = s := by
  unfold seqForcedClose
  split
  · rfl
  · next k e he =>
    refine if_neg fun ⟨hwrite, _, hreal⟩ => ?_
    simp [writingEntry, hwrite, he, hreal] at h

theorem noneReport_of_not_writing {s : State} (h : writingEntry s = false) : noneReport s = s := by
  unfold noneReport
  split
  · rfl
  · next k e he =>
    refine if_neg fun ⟨hwrite, _, hreal⟩ => ?_
    simp [writingEntry, hwrite, he, hreal] at h

theorem writingEntry_congr {s t : State} (hseq : t.seq = s.seq) (hlist : t.editList = s.editList) :
    writingEntry t = writingEntry s := by
  simp only [writingEntry, inWrite, heldEntry, hseq, hlist]

/-- With no write under way an evaluation of INPUT leaves the rights unit alone. -/
theorem evaluateInputAction_rights {s : State} (h : writingEntry s = false) :
    (evaluateInputAction s).rights = s.rights := by
  have hwriting := writingEntry_congr (conditionTo_seq .input (inputCondition s) s)
    (conditionTo_seqFrame .input (inputCondition s) s).editList
  unfold evaluateInputAction evaluate
  simp only
  split
  · show (seqForcedClose .input .absent _).rights = _
    rw [seqForcedClose_of_not_writing (hwriting.trans h), conditionTo_rights]
  · exact conditionTo_rights _ _ _

theorem afterUsability_rights {s : State} (s0 : State) (h : writingEntry s = false) :
    (afterUsability s0 s).rights = s.rights := by
  have hempty : ∀ b : Bool, (if b then s else emptyFifo s).rights = s.rights ∧
      writingEntry (if b then s else emptyFifo s) = false := fun b => by
    cases b
    · exact ⟨rfl, (writingEntry_congr rfl rfl).trans h⟩
    · exact ⟨rfl, h⟩
  unfold afterUsability
  split
  · rfl
  · obtain ⟨hrights, hwriting⟩ := hempty (usable s)
    exact (evaluateInputAction_rights hwriting).trans hrights

/-- What a status record, with no write under way, does to the period rights: a change of the selected digital state
makes them more restrictive, and else they stand. -/
structure DigitalTaken (s t : State) : Prop where
  seq : t.seq = s.seq
  editList : t.editList = s.editList
  changed : t.rights.digital ≠ s.rights.digital → selectedSource s = .digital →
    t.rights.period = moreRestrictive s.rights.period t.rights.digital
  same : t.rights.digital = s.rights.digital ∨ selectedSource s = .analog → t.rights.period = s.rights.period

theorem setDigital_taken (st : SourceState) {s : State} (h : writingEntry s = false) :
    DigitalTaken s (setDigital st s) := by
  unfold setDigital
  split
  · next hsame => exact ⟨rfl, rfl, fun hne => absurd rfl hne, fun _ => rfl⟩
  · next hchanged =>
    simp only
    split
    · next hdigital =>
      have hdigital : selectedSource s = .digital := hdigital
      generalize hv : refreshWord (countPeriodRights (raiseEvent .rightsChanged
        { s with rights := { s.rights with digital := st } })) = v
      have hself : (if st = .rightsNone then noneReport v else v) = v := by
        have hwriting : writingEntry v = false := by rw [← hv]; exact (writingEntry_congr rfl rfl).trans h
        rw [noneReport_of_not_writing hwriting, ite_self]
      have hperiod : v.rights.period = moreRestrictive s.rights.period st := by
        rw [← hv]
        show moreRestrictive _ (stateOfSource _ (selectedSource s)) = _
        rw [hdigital]
        rfl
      rw [hself]
      refine ⟨by rw [← hv]; rfl, by rw [← hv]; rfl, fun _ _ => by rw [hperiod, ← hv]; rfl, fun hor => ?_⟩
      rcases hor with hsame | hanalog
      · rw [← hv] at hsame
        exact absurd hsame.symm hchanged
      · rw [hdigital] at hanalog
        cases hanalog
    · next hanalog => exact ⟨rfl, rfl, fun _ hdigital => absurd hdigital hanalog, fun _ => rfl⟩

theorem rightsRecord_taken (r : StatusRecord) {s : State} (h : writingEntry s = false) :
    DigitalTaken s (rightsRecord r s) := by
  unfold rightsRecord
  simp only
  split
  · have htaken := setDigital_taken (digitalStateOf (some ⟨r.cls, r.permit, r.generation, r.tag⟩))
      (s := { s with rights := { s.rights with
        history := joinHistory s.rights.history r, accepted := some ⟨r.cls, r.permit, r.generation, r.tag⟩ } }) h
    exact ⟨htaken.seq, htaken.editList, htaken.changed, htaken.same⟩
  · exact ⟨rfl, rfl, fun hne => absurd rfl hne, fun _ => rfl⟩

/-- STATUS_RECORD while locked and with no write under way, at the rights unit. -/
theorem statusRecord_rights (r : StatusRecord) {s : State} (hlock : s.rights.lock = true)
    (h : writingEntry s = false) : (statusRecord r s).rights = (rightsRecord r s).rights := by
  have htaken := rightsRecord_taken r h
  have hwriting := (writingEntry_congr htaken.seq htaken.editList).trans h
  unfold statusRecord
  rw [if_pos hlock]
  exact afterUsability_rights _ ((writingEntry_congr rfl rfl).trans hwriting)

/-- Settles O38: the order and the frame's copy state by their own lemmas, the tick by `frameTick_period` and
`frameTick_rightsPack`, the record by `rightsRecord_taken`. -/
theorem rightsNeverRelax : Obligations.RightsNeverRelax := by
  refine ⟨fun a b => ⟨moreRestrictive_eq a b, le_moreRestrictive_left a b, le_moreRestrictive_right a b,
    moreRestrictive_unstated_iff⟩, by decide, fun b period => ?_, fun dir us s => ?_, fun r s hlock hwriting => ?_⟩
  · intro newAudio oldAudio emptyOld old
    have hnew : hasNewWeight b = true ↔ newAudio := hasNewWeight_iff b
    have hold : hasOldWeight b = true ↔ oldAudio := hasOldWeight_iff b
    rw [← hnew, ← hold]
    exact ⟨frameCopy_old period, frameCopy_new period, frameCopy_both period, written_le_frameCopy period,
      old_le_frameCopy period⟩
  · refine ⟨frameTick dir us s, rfl, ?_⟩
    intro packs
    obtain ⟨u, hbefore, hafter⟩ := frameTick_rightsPack dir us s
    rw [decoderResult_atPreDecoder] at hafter
    change RightsKeep (takeRightsPack packs.rights u) _ at hafter
    refine ⟨frameTick_period dir us, fun hnone => ?_, fun k hk hloaded => ?_⟩
    · rw [takeRightsPack_of_none (hnone.imp_right fun h => hbefore.mode.trans h)] at hafter
      exact ⟨hafter.tape.trans hbefore.tape, hafter.candidate.trans hbefore.candidate⟩
    · have hloaded' : u.transport.mode ≠ .unloaded := by rwa [hbefore.mode]
      rw [hk] at hafter
      by_cases hc : s.rights.candidate = some k
      · have hc' := hbefore.candidate.trans hc
        rw [takeRightsPack_of_eq hloaded' hc'] at hafter
        have htape := hafter.tape.trans (setTapeRights_tape _ _)
        refine ⟨?_, fun hne => absurd hc hne, fun _ => ⟨htape, fun hchanged q hq => ?_⟩⟩
        · rw [hafter.candidate, setTapeRights_candidate, hc']
        · rw [htape, ← hbefore.tape] at hchanged
          refine (hafter.ports q).grows _ (setTapeRights_event hchanged q ?_)
          rw [(hbefore.ports q).rest]
          exact hq
      · rw [takeRightsPack_of_ne hloaded' (by rwa [hbefore.candidate])] at hafter
        exact ⟨hafter.candidate, fun _ => hafter.tape.trans hbefore.tape, fun h => absurd h hc⟩
  · have htaken := rightsRecord_taken r hwriting
    refine ⟨statusRecord r s, rfl, ?_⟩
    rw [statusRecord_rights r hlock hwriting]
    exact ⟨htaken.changed, htaken.same⟩

end Sys2Proof.Machine

namespace Sys2Proof.Machine
open Sys2Proof

-- One theorem at a time: the whole text is also compiled as one, where a thread for each theorem in flight asks for more
-- memory than the check allows.
set_option Elab.async false

/-! ## The promise of the write gate (R49): what it depends on -/

/-- What the promise of the write gate depends on, in two states alike. -/
structure SameGate (s t : State) : Prop where
  gate : t.formatter.gate = s.formatter.gate := by rfl
  closePoint : t.formatter.closePoint = s.formatter.closePoint := by rfl
  pendingOpen : t.formatter.pendingOpen = s.formatter.pendingOpen := by rfl
  writeEnable : t.formatter.writeEnable = s.formatter.writeEnable := by rfl
  transport : t.transport = s.transport := by rfl
  writing : writingEntry t = writingEntry s := by rfl

/-- No open is pending, and an OPEN gate stands only for the track that a forced close lets finish. -/
def gateShut (s : State) : Prop :=
  (s.formatter.gate = .opened → s.formatter.closePoint = some .forced) ∧ s.formatter.pendingOpen = none

theorem writingEntry_iff (s : State) : writingEntry s = true ↔
    (s.seq.state = .recording ∨ s.seq.state = .closing) ∧
      ∃ k, s.seq.held = some k ∧ isRehearsal s.editList[k] = false := by
  rcases h : s.seq.held with _ | k <;> simp [writingEntry, inWrite, heldEntry, h]

/-- The two states in which the sequencer writes are alike to the promise. -/
theorem writingEntry_of_inWrite {s t : State} (hs : inWrite s = true) (ht : inWrite t = true)
    (hheld : t.seq.held = s.seq.held) (hlist : t.editList = s.editList) : writingEntry t = writingEntry s := by
  simp only [writingEntry, heldEntry, hs, ht, hheld, hlist]

theorem not_writing_of_state {s : State} (hr : s.seq.state ≠ .recording) (hc : s.seq.state ≠ .closing) :
    writingEntry s = false := by
  simp [writingEntry, inWrite, hr, hc]

theorem not_writing_of_rehearsal {s : State} {k : Fin 32} {e : EditEntry} (h : heldEntry s = some (k, e))
    (he : isRehearsal e = true) : writingEntry s = false := by
  simp [writingEntry, h, he]

theorem not_writing_of_heldRehearsal {s : State} (h : heldRehearsal s = true) : writingEntry s = false := by
  unfold heldRehearsal at h
  cases hentry : heldEntry s with
  | none => simp [hentry] at h
  | some x => exact not_writing_of_rehearsal hentry (by simpa [hentry] using h)

theorem SameGate.trans {s t u : State} (h : SameGate s t) (k : SameGate t u) : SameGate s u :=
  ⟨k.gate.trans h.gate, k.closePoint.trans h.closePoint, k.pendingOpen.trans h.pendingOpen,
    k.writeEnable.trans h.writeEnable, k.transport.trans h.transport, k.writing.trans h.writing⟩

/-- States alike in whole blocks. -/
theorem SameGate.of_blocks {s t : State} (hformatter : t.formatter = s.formatter)
    (htransport : t.transport = s.transport) (hlist : t.editList = s.editList) (hseq : t.seq = s.seq) :
    SameGate s t :=
  ⟨by rw [hformatter], by rw [hformatter], by rw [hformatter], by rw [hformatter], htransport,
    writingEntry_congr hseq hlist⟩

theorem SameGate.held {s t : State} (h : SameGate s t) (hs : gateHeld s) : gateHeld t := by
  unfold gateHeld
  rw [h.gate, h.closePoint, h.pendingOpen, h.writeEnable, h.transport, h.writing]
  exact hs

theorem gateShut.held {s : State} (h : gateShut s) : gateHeld s := by
  refine ⟨fun hopen hnot => absurd (h.1 hopen) hnot, fun hpending => ?_⟩
  rw [h.2] at hpending
  cases hpending

/-- Where the sequencer writes nothing, the promise leaves no gate open but for a forced close. -/
theorem gateHeld.shut {s : State} (h : gateHeld s) (hw : writingEntry s = false) : gateShut s := by
  obtain ⟨hopened, hpending⟩ := h
  refine ⟨fun hopen => ?_, ?_⟩
  · by_contra hnot
    obtain ⟨-, -, hwriting, -⟩ := hopened hopen hnot
    rw [hw] at hwriting
    cases hwriting
  · by_contra hsome
    have hwriting := hpending (Option.isSome_iff_ne_none.2 hsome)
    rw [hw] at hwriting
    cases hwriting

/-- With an open pending, an OPEN gate is under a forced close. -/
theorem gateHeld.forced_of_pending {s : State} (h : gateHeld s) (hp : s.formatter.pendingOpen.isSome = true)
    (hopen : s.formatter.gate = .opened) : s.formatter.closePoint = some .forced := by
  by_contra hnot
  obtain ⟨-, -, -, hnone⟩ := h.1 hopen hnot
  rw [hnone] at hp
  cases hp

section
variable {s t : State}

theorem WalkFrame.gate (h : WalkFrame s t) : t.formatter.gate = s.formatter.gate := by rw [h.formatter]

theorem WalkFrame.closePoint (h : WalkFrame s t) : t.formatter.closePoint = s.formatter.closePoint := by
  rw [h.formatter]

theorem WalkFrame.pendingOpen (h : WalkFrame s t) : t.formatter.pendingOpen = s.formatter.pendingOpen := by
  rw [h.formatter]

theorem WalkFrame.gateShut (h : WalkFrame s t) (hs : gateShut s) : gateShut t := by
  unfold Machine.gateShut
  rw [h.gate, h.closePoint, h.pendingOpen]
  exact hs

/-- Work of the sequencer's frame that leaves the formatter's gate and the sequencer's writing alone. -/
theorem SeqFrame.sameGate (h : SeqFrame s t) (hw : WalkFrame s t) (hwriting : writingEntry t = writingEntry s) :
    SameGate s t :=
  ⟨hw.gate, hw.closePoint, hw.pendingOpen, h.writeEnable, h.transport, hwriting⟩

theorem SeqFrame.sameGate_of_eq (h : SeqFrame s t) (hf : t.formatter = s.formatter) (hq : t.seq = s.seq) :
    SameGate s t := .of_blocks hf h.transport h.editList hq

end

/-! ## The promise through the sequencer's work -/

section
variable {s : State}

theorem SameGate.refl (s : State) : SameGate s s := {}

theorem reselect_sameGate (s : State) : SameGate s (reselect s) :=
  (reselect_seqFrame s).sameGate_of_eq (reselect_formatter s) (reselect_seq s)

theorem conditionTo_sameGate (k : FaultKind) (c : Option FaultDetail) (s : State) : SameGate s (conditionTo k c s) :=
  (conditionTo_seqFrame k c s).sameGate_of_eq (conditionTo_formatter k c s) (conditionTo_seq k c s)

theorem afterSourceChange_sameGate (s0 s : State) : SameGate s (afterSourceChange s0 s) := by
  have hf := afterSourceChange_seqFrame s0 s
  have hq := afterSourceChange_seq s0 s
  exact hf.sameGate (afterSourceChange_walkFrame s0 s)
    (writingEntry_congr hq hf.editList)

theorem recordError_sameGate (kind : ErrorKind) (ph : Phase) (k : Fin 32) (d : ErrorDetail) (s : State) :
    SameGate s (recordError kind ph k d s) := by
  unfold recordError
  split <;> exact {}

theorem fetch_gateHeld (h : gateShut s) : gateHeld (fetch s) := ((fetch_walkFrame s).gateShut h).held

theorem complete_gateHeld (h : gateShut s) : gateHeld (complete s) := ((complete_walkFrame s).gateShut h).held

theorem seqStop_gateHeld (kind : ErrorKind) (d : ErrorDetail) (k : Fin 32) (h : gateShut s) :
    gateHeld (seqStop kind d k s) := ((seqStop_walkFrame kind d k s).gateShut h).held

theorem failEntry_gateHeld (kind : ErrorKind) (d : ErrorDetail) (k : Fin 32) (h : gateShut s) :
    gateHeld (failEntry kind d k s) := ((failEntry_walkFrame kind d k s).gateShut h).held

/-- A forced close leaves the gate CLOSED, or OPEN to the track boundary, and no open pending (R51). -/
theorem forcedCloseRequest_gateShut (s : State) : gateShut (forcedCloseRequest s) := by
  unfold forcedCloseRequest
  simp only
  split
  · exact ⟨fun _ => rfl, rfl⟩
  · next hclosed =>
    split
    · exact ⟨fun h => absurd (hclosed.symm.trans h) (by decide), rfl⟩
    · next hnone => exact ⟨fun h => absurd (hclosed.symm.trans h) (by decide), by simpa using hnone⟩

theorem seqForcedClose_gateHeld (kind : ErrorKind) (d : ErrorDetail) (h : gateHeld s) :
    gateHeld (seqForcedClose kind d s) := by
  unfold seqForcedClose
  split
  · exact h
  · split
    · exact failEntry_gateHeld _ _ _ (forcedCloseRequest_gateShut s)
    · exact h

/-- A forced close while the sequencer writes with the gate OPEN (R137). -/
theorem seqForcedClose_gateShut (kind : ErrorKind) (d : ErrorDetail) (hopen : s.formatter.gate = .opened)
    (hw : writingEntry s = true) : gateShut (seqForcedClose kind d s) := by
  obtain ⟨hstate, k, hheld, hreh⟩ := (writingEntry_iff s).1 hw
  have hentry : heldEntry s = some (k, s.editList[k]) := by simp [heldEntry, hheld]
  have hgo : inWrite s = true ∧ gateInPlay s = true ∧ isRehearsal s.editList[k] = false :=
    ⟨by simpa [inWrite] using hstate, by simp [gateInPlay, hopen], hreh⟩
  unfold seqForcedClose
  simp only [hentry, if_pos hgo]
  exact (failEntry_walkFrame _ _ _ _).gateShut (forcedCloseRequest_gateShut s)

theorem seqForcedCloseAll_gateHeld (kind : ErrorKind) (d : ErrorDetail) (h : gateHeld s) :
    gateHeld (seqForcedCloseAll kind d s) := by
  unfold seqForcedCloseAll
  split
  · exact h
  · next hentry =>
    split
    · refine failEntry_gateHeld _ _ _ ?_
      split
      · next hreh => exact h.shut (not_writing_of_rehearsal hentry hreh)
      · exact forcedCloseRequest_gateShut s
    · exact h

theorem assembleEnd_gateShut (s : State) : gateShut (assembleEnd s) :=
  (complete_walkFrame _).gateShut (forcedCloseRequest_gateShut s)

/-- The mode leaves RECORD while the sequencer writes with the gate OPEN (R133, R138). -/
theorem leftRecord_gateShut (hopen : s.formatter.gate = .opened) (hw : writingEntry s = true) :
    gateShut (leftRecord s) := by
  obtain ⟨-, k, hheld, -⟩ := (writingEntry_iff s).1 hw
  unfold leftRecord heldEntry
  simp only [hheld, Option.map_some]
  split
  · exact assembleEnd_gateShut s
  · exact seqForcedClose_gateShut _ _ hopen hw

theorem leftRecord_gateHeld (h : gateHeld s) : gateHeld (leftRecord s) := by
  unfold leftRecord
  split
  · split
    · exact (assembleEnd_gateShut s).held
    · exact seqForcedClose_gateHeld _ _ h
  · exact h

theorem windowLoss_gateHeld (t : Transport) (h : gateHeld s) : gateHeld (windowLoss t s) := by
  unfold windowLoss
  repeat' split
  · exact leftRecord_gateHeld h
  · exact seqForcedClose_gateHeld _ _ h
  · exact seqForcedClose_gateHeld _ _ h
  · exact seqForcedClose_gateHeld _ _ h
  · exact h

/-- The write window lost while the sequencer writes with the gate OPEN (R28, R138). -/
theorem windowLoss_gateShut {t : Transport} (ht : writeWindow t = true) (hs : writeWindow s.transport = false)
    (hmode : s.transport.mode ≠ .unloaded) (hopen : s.formatter.gate = .opened) (hw : writingEntry s = true) :
    gateShut (windowLoss t s) := by
  unfold windowLoss
  rw [if_pos ⟨ht, hs, hopen, hmode⟩]
  repeat' split
  · exact leftRecord_gateShut hopen hw
  · exact seqForcedClose_gateShut _ _ hopen hw
  · exact seqForcedClose_gateShut _ _ hopen hw
  · exact seqForcedClose_gateShut _ _ hopen hw

theorem seqUnload_gateHeld (h : gateHeld s) : gateHeld (seqUnload s) := by
  have hnone : gateHeld { s with seq := { s.seq with lastPosition := none } } := SameGate.held {} h
  unfold seqUnload
  simp only
  split
  · exact hnone
  · exact seqForcedCloseAll_gateHeld _ _ hnone
  · exact seqForcedCloseAll_gateHeld _ _ hnone
  · next harmed =>
    exact seqStop_gateHeld _ _ _ (hnone.shut (not_writing_of_state (by simp [harmed]) (by simp [harmed])))
  · next hheld =>
    exact seqStop_gateHeld _ _ _ (hnone.shut (not_writing_of_state (by simp [hheld]) (by simp [hheld])))
  · split
    · exact SameGate.held {} hnone
    · exact (recordError_sameGate _ _ _ _ _).held hnone

/-- A tape unload while the sequencer writes with the gate OPEN (R139). -/
theorem seqUnload_gateShut (hw : writingEntry s = true) : gateShut (seqUnload s) := by
  obtain ⟨hstate, k, hheld, hreh⟩ := (writingEntry_iff s).1 hw
  have hshut : ∀ u : State, u.seq.held = some k → inWrite u = true → isRehearsal u.editList[k] = false →
      gateShut (seqForcedCloseAll .unloaded .absent u) := by
    intro u hk hu hru
    unfold seqForcedCloseAll heldEntry
    simp only [hk, Option.map_some, hu, if_true, hru, Bool.false_eq_true, if_false]
    exact (failEntry_walkFrame _ _ _ _).gateShut (forcedCloseRequest_gateShut u)
  unfold seqUnload
  simp only
  rcases hstate with hstate | hstate
  all_goals
    simp only [hstate]
    exact hshut _ hheld (by simp [inWrite]) hreh

/-! ### In-address, positions and reports -/

/-- An open request comes from no open gate but one under a forced close: it stays so, and the open is pending. -/
theorem openRequest_of_gateShut (sp : Span) (h : gateShut s) :
    openRequest sp s = { s with formatter := { s.formatter with pendingOpen := some sp } } := by
  unfold openRequest
  refine if_pos ?_
  rcases hgate : s.formatter.gate with _ | _
  · exact .inl rfl
  · exact .inr (by rw [h.1 hgate]; rfl)

/-- An entry opened: the open request of an entry that writes, the fade-in at the blend unit, and RECORDING (R128). -/
theorem openEntry_eq (e : EditEntry) (fp : Option Afa) (st : PosState) (o : Nat) (s : State) : ∃ b,
    openEntry e fp st o s = setSeqState .recording
      { (if isRehearsal e then s else openRequest (spanOf e fp st s) s) with blend := b } := by
  unfold openEntry
  simp only
  by_cases hnew : recordsNew e
  · exact ⟨_, by rw [if_pos hnew]; rfl⟩
  · exact ⟨_, by rw [if_neg hnew]⟩

theorem openEntry_gateHeld {k : Fin 32} {e : EditEntry} (hentry : heldEntry s = some (k, e)) (fp : Option Afa)
    (st : PosState) (o : Nat) (h : gateShut s) : gateHeld (openEntry e fp st o s) := by
  obtain ⟨b, heq⟩ := openEntry_eq e fp st o s
  rw [heq]
  by_cases hreh : isRehearsal e = true
  · rw [if_pos hreh]
    exact gateShut.held h
  · rw [if_neg hreh, openRequest_of_gateShut _ h]
    refine ⟨fun hopen hnot => absurd (h.1 hopen) hnot, fun _ => ?_⟩
    show (true && (heldEntry s).any fun x => !isRehearsal x.2) = true
    rw [hentry]
    simpa using hreh

theorem inArrival_gateHeld {k : Fin 32} {e : EditEntry} (hentry : heldEntry s = some (k, e)) (fp : Option Afa)
    (st : PosState) (o : Nat) (h : gateShut s) : gateHeld (inArrival k e fp st o s) := by
  unfold inArrival
  split
  · exact openEntry_gateHeld hentry fp st o h
  · split
    · exact seqStop_gateHeld _ _ _ h
    · exact openEntry_gateHeld hentry fp st o h

theorem armedPosition_gateHeld (fp : Option Afa) (st : PosState) (d : Bool) (h : gateShut s) :
    gateHeld (armedPosition fp st d s) := by
  unfold armedPosition
  split
  · exact h.held
  · next hentry =>
    repeat' split
    · exact inArrival_gateHeld hentry _ _ _ h
    · exact seqStop_gateHeld _ _ _ h
    · exact h.held
    · exact h.held
    · exact h.held
    · exact inArrival_gateHeld hentry _ _ _ h
    · exact h.held

/-- RECORDING and CLOSING are alike to the promise. -/
theorem setClosing_sameGate (h : inWrite s = true) : SameGate s (setSeqState .closing s) :=
  { writing := writingEntry_of_inWrite h rfl rfl rfl }

theorem recordingPosition_sameGate (fp : Option Afa) (h : s.seq.state = .recording) :
    SameGate s (recordingPosition fp s) := by
  have hclosing : ∀ e o, SameGate s (setSeqState .closing (fadeOutRequest e o s)) := fun e o =>
    SameGate.trans {} (setClosing_sameGate (by simp [inWrite, fadeOutRequest, h]))
  unfold recordingPosition
  repeat' split
  all_goals first
    | exact hclosing _ _
    | exact .refl s

theorem seqFramePosition_gateHeld (fp : Option Afa) (st : PosState) (d : Bool) (h : gateHeld s) :
    gateHeld (seqFramePosition fp st d s) := by
  have hposition : gateHeld { s with seq := { s.seq with lastPosition := fp } } := SameGate.held {} h
  unfold seqFramePosition
  simp only
  split
  · next harmed =>
    exact armedPosition_gateHeld _ _ _
      (hposition.shut (not_writing_of_state (by simp [harmed]) (by simp [harmed])))
  · next hrecording => 
    refine SameGate.held ?_ hposition
    exact recordingPosition_sameGate _ hrecording
  all_goals exact hposition

theorem seqRefused_gateHeld (kind : ErrorKind) (d : ErrorDetail) (h : gateShut s) :
    gateHeld (seqRefused kind d s) := by
  unfold seqRefused
  repeat' split
  · exact h.held
  · exact failEntry_gateHeld _ _ _ h
  · exact h.held

theorem seqLaterStop_gateHeld (kind : ErrorKind) (d : ErrorDetail) (h : gateHeld s) :
    gateHeld (seqLaterStop kind d s) := by
  unfold seqLaterStop
  split
  · exact h
  · split
    · next k _ _ hwrite =>
      have hrecord := recordError_sameGate kind .run (nextEntry k) d (cutRequest s)
      refine (setClosing_sameGate ?_).held (hrecord.held (SameGate.held {} h))
      simp only [inWrite, recordError_seq]
      exact hwrite
    · exact h

/-- A close request names a close point, and a forced close stands (R50). -/
theorem closeRequest_gateHeld (g : FrameNo) (h : gateHeld s) : gateHeld (closeRequest g s) := by
  have hpoint : s.formatter.closePoint = some .forced → closePointFor g s = .forced := fun hforced => by
    simp [closePointFor, hforced]
  obtain ⟨hopened, hpending⟩ := h
  unfold closeRequest
  split
  · next hopen =>
    refine ⟨fun _ hnot => hopened hopen fun hforced => hnot ?_, hpending⟩
    exact congrArg some (hpoint hforced)
  · next hclosed _ => exact ⟨fun hopen => absurd (hclosed.symm.trans hopen) (by decide), hpending⟩
  · exact ⟨hopened, hpending⟩

theorem closeRequest_seq (g : FrameNo) (s : State) : (closeRequest g s).seq = s.seq := by
  unfold closeRequest
  split <;> rfl

theorem fadeOutReport_gateHeld (g : FrameNo) (h : gateHeld s) : gateHeld (fadeOutReport g s) := by
  unfold fadeOutReport
  split
  · split
    · next hreh => exact complete_gateHeld (h.shut (not_writing_of_heldRehearsal hreh))
    · exact closeRequest_gateHeld g h
  · exact h

theorem markRunReport_gateHeld (g : FrameNo) (h : gateHeld s) : gateHeld (markRunReport g s) := by
  unfold markRunReport
  split
  · split
    · next hgo =>
      refine (setClosing_sameGate ?_).held (closeRequest_gateHeld g h)
      simp only [inWrite, closeRequest_seq]
      exact hgo.1
    · exact h
  · exact h

theorem gateClosedReport_gateHeld (hclosed : s.formatter.gate = .closed) (h : gateHeld s) :
    gateHeld (gateClosedReport s) := by
  unfold gateClosedReport
  split
  · next hgo =>
    obtain ⟨-, hnone, -⟩ := hgo
    exact complete_gateHeld ⟨fun hopen => absurd (hclosed.symm.trans hopen) (by decide), hnone⟩
  · exact h

theorem noneReport_gateHeld (h : gateHeld s) : gateHeld (noneReport s) := by
  unfold noneReport
  split
  · exact h
  · next k e _ =>
    split
    · next hgo =>
      split
      · have hsilent : ∀ u, SameGate u (if fadeOutRuns u then u else fadeOutNowRequest e u) ∧
            (if fadeOutRuns u then u else fadeOutNowRequest e u).seq = u.seq := fun u => by
          split <;> exact ⟨{}, rfl⟩
        obtain ⟨hsame, hseq⟩ := hsilent (silenceRequest s)
        have hrecord := recordError_sameGate .denied .run (nextEntry k) .rightsNone
          (if fadeOutRuns (silenceRequest s) then silenceRequest s else fadeOutNowRequest e (silenceRequest s))
        refine (setClosing_sameGate ?_).held (hrecord.held (hsame.held (SameGate.held {} h)))
        simp only [inWrite, recordError_seq, hseq]
        exact hgo.1
      · split
        · exact seqForcedClose_gateHeld _ _ h
        · exact h
    · exact h

/-! ### Fault actions -/

theorem applyAction_gateHeld (k : FaultKind) (h : gateHeld s) : gateHeld (applyAction k s) := by
  unfold applyAction
  repeat' split
  all_goals first
    | exact h
    | exact seqForcedClose_gateHeld _ _ h
    | next harmed => exact seqStop_gateHeld _ _ _ (h.shut (not_writing_of_state (by simp [harmed]) (by simp [harmed])))

theorem evaluate_gateHeld (k : FaultKind) (c : Option FaultDetail) (h : gateHeld s) : gateHeld (evaluate k c s) := by
  unfold evaluate
  simp only
  split
  · exact applyAction_gateHeld k ((conditionTo_sameGate k c s).held h)
  · exact (conditionTo_sameGate k c s).held h

theorem deliverInput_gateHeld (s0 : State) (h : gateHeld s) : gateHeld (deliverInput s0 s) := by
  unfold deliverInput
  split
  · exact applyAction_gateHeld _ h
  · exact h

theorem positionReport_gateHeld (d : FaultDetail) (h : gateHeld s) : gateHeld (positionReport d s) := by
  unfold positionReport
  split
  · exact h
  · exact evaluate_gateHeld _ _ (SameGate.held {} h)

theorem positionTick_gateHeld (h : gateHeld s) : gateHeld (positionTick s) := by
  unfold positionTick
  repeat' split
  · exact (conditionTo_sameGate _ _ _).held (SameGate.held {} h)
  · exact h
  · exact h

/-! ### The requests of the walk -/

theorem abortWalk_gateHeld (h : gateHeld s) : gateHeld (abortWalk s) := by
  have hidle : s.seq.state ≠ .recording → s.seq.state ≠ .closing → gateShut s := fun hr hc =>
    h.shut (not_writing_of_state hr hc)
  unfold abortWalk
  split
  · exact h
  · next harmed =>
    refine ((giveUp_walkFrame _).gateShut ?_).held
    exact hidle (by simp [harmed]) (by simp [harmed])
  · next hheld =>
    refine ((giveUp_walkFrame _).gateShut ?_).held
    exact hidle (by simp [hheld]) (by simp [hheld])
  · next hfault => exact gateShut.held (hidle (by simp [hfault]) (by simp [hfault]))
  · exact SameGate.held {} h
  · next hrecording =>
    split
    · exact h
    · next k e _ =>
      split
      · refine ((giveUp_walkFrame _).gateShut ?_).held
        exact forcedCloseRequest_gateShut s
      · refine SameGate.held (s := s) { writing := ?_ } h
        exact writingEntry_of_inWrite (by simp [inWrite, hrecording]) rfl rfl rfl

theorem continueHeld_gateHeld (hheld : s.seq.state = .held) (h : gateHeld s) : gateHeld (continueHeld s) := by
  have hshut : gateShut s := h.shut (not_writing_of_state (by simp [hheld]) (by simp [hheld]))
  unfold continueHeld
  repeat' split
  · exact seqStop_gateHeld _ _ _ hshut
  · exact gateShut.held hshut
  · exact fetch_gateHeld hshut
  · exact fetch_gateHeld hshut

theorem editStartAt_gateHeld (p : Fin 32) (hstate : s.seq.state = .idle ∨ s.seq.state = .fault) (h : gateHeld s) :
    gateHeld (editStartAt p s) := by
  refine fetch_gateHeld (h.shut (not_writing_of_state ?_ ?_)) <;> rcases hstate with h | h <;> simp [h]

end

end Sys2Proof.Machine

namespace Sys2Proof.Machine
open Sys2Proof

-- One theorem at a time: the whole text is also compiled as one, where a thread for each theorem in flight asks for more
-- memory than the check allows.
set_option Elab.async false

/-! ## Work of the fault monitor alone -/

/-- Nothing but the fault monitor and the events at the ports differs. -/
def FaultOnly (s t : State) : Prop := t = { s with ports := t.ports, faults := t.faults }

theorem FaultOnly.refl (s : State) : FaultOnly s s := rfl

theorem FaultOnly.trans {s t u : State} (h : FaultOnly s t) (k : FaultOnly t u) : FaultOnly s u := by
  unfold FaultOnly at *
  rw [k, h]

theorem FaultOnly.formatter {s t : State} (h : FaultOnly s t) : t.formatter = s.formatter := by rw [h]
theorem FaultOnly.transport {s t : State} (h : FaultOnly s t) : t.transport = s.transport := by rw [h]
theorem FaultOnly.editList {s t : State} (h : FaultOnly s t) : t.editList = s.editList := by rw [h]
theorem FaultOnly.seq {s t : State} (h : FaultOnly s t) : t.seq = s.seq := by rw [h]

theorem FaultOnly.sameGate {s t : State} (h : FaultOnly s t) : SameGate s t :=
  .of_blocks h.formatter h.transport h.editList h.seq

/-- Operations of the fault monitor one after another on the four heads. -/
theorem eachHead_faultOnly {f : ReadPath → Track → State → State} (hf : ∀ p t s, FaultOnly s (f p t s)) (s : State) :
    FaultOnly s (eachHead f s) :=
  (hf .pre .a s).trans <| (hf .pre .b _).trans <| (hf .conf .a _).trans (hf .conf .b _)

theorem endAction_faultOnly (k : FaultKind) (s : State) : FaultOnly s (endAction k s) := by
  unfold endAction
  simp only
  split <;> rfl

theorem faultRaise_faultOnly (k : FaultKind) (d : FaultDetail) (s : State) : FaultOnly s (faultRaise k d s) := by
  unfold faultRaise
  simp only
  split <;> rfl

theorem setRecord_faultOnly (k : FaultKind) (r : FaultRecord) (s : State) : FaultOnly s (setRecord k r s) := rfl

theorem conditionTo_faultOnly (k : FaultKind) (c : Option FaultDetail) (s : State) :
    FaultOnly s (conditionTo k c s) := by
  unfold conditionTo
  simp only
  repeat' split
  all_goals first
    | rfl
    | exact (setRecord_faultOnly _ _ s).trans (faultRaise_faultOnly _ _ _)
    | exact (setRecord_faultOnly _ _ s).trans (endAction_faultOnly _ _)

theorem endHeadAction_faultOnly (p : ReadPath) (t : Track) (s : State) : FaultOnly s (endHeadAction p t s) := by
  unfold endHeadAction
  simp only
  split <;> rfl

theorem clearHead_faultOnly (p : ReadPath) (t : Track) (s : State) : FaultOnly s (clearHead p t s) := rfl

theorem clearClogHead_faultOnly (p : ReadPath) (t : Track) (s : State) : FaultOnly s (clearClogHead p t s) := by
  unfold clearClogHead
  split
  · exact endHeadAction_faultOnly p t s
  · rfl

theorem clearLatched_faultOnly (k : FaultKind) (s : State) : FaultOnly s (clearLatched k s) := by
  unfold clearLatched
  split
  · exact eachHead_faultOnly clearClogHead_faultOnly s
  all_goals
    split
    · exact endAction_faultOnly _ s
    · rfl

theorem clearKind_faultOnly (k : FaultKind) (s : State) : FaultOnly s (clearKind k s) := by
  unfold clearKind
  repeat' split
  · exact eachHead_faultOnly clearClogHead_faultOnly s
  · rfl
  · exact (clearLatched_faultOnly k s).trans (setRecord_faultOnly _ _ _)

theorem clearFaults_faultOnly (s : State) : FaultOnly s (clearFaults s) := by
  have hfold : ∀ (l : List FaultKind) (s : State), FaultOnly s (l.foldl (fun s k => clearKind k s) s) := by
    intro l
    induction l with
    | nil => exact fun s => .refl s
    | cons k l ih => exact fun s => (clearKind_faultOnly k s).trans (ih _)
  exact hfold _ s

theorem endKindAction_faultOnly (k : FaultKind) (s : State) : FaultOnly s (endKindAction k s) := by
  unfold endKindAction
  split
  · exact eachHead_faultOnly endHeadAction_faultOnly s
  all_goals exact endAction_faultOnly _ s

theorem resetTrackers_faultOnly (k : FaultKind) (s : State) : FaultOnly s (resetTrackers k s) := by
  unfold resetTrackers
  split
  · exact eachHead_faultOnly clearHead_faultOnly s
  all_goals rfl

theorem endGoneAction_faultOnly (k : FaultKind) (s : State) : FaultOnly s (endGoneAction k s) := by
  unfold endGoneAction
  split
  · refine eachHead_faultOnly (fun p t u => ?_) s
    split
    · rfl
    · exact endHeadAction_faultOnly p t u
  all_goals
    split
    · rfl
    · exact endAction_faultOnly _ s

theorem setMode_faultOnly (k : FaultKind) (m : FaultMode) (s : State) : FaultOnly s (setMode k m s) := rfl

theorem verifyRange_faultOnly (t : Transport) (s : State) : FaultOnly s (verifyRange t s) := by
  unfold verifyRange
  simp only
  split <;> rfl

theorem faultUnload_faultOnly (s : State) : FaultOnly s (faultUnload s) := by
  have hstop : ∀ u : State, FaultOnly u (if scanRuns u.faults.verify then stopScan .unload u else u) := fun u => by
    split <;> rfl
  have htag : FaultOnly s { s with faults := { s.faults with positionTag := none } } := rfl
  unfold faultUnload
  exact htag.trans <| (conditionTo_faultOnly _ _ _).trans <| (conditionTo_faultOnly _ _ _).trans <|
    (eachHead_faultOnly (fun p t u => (clearHead_faultOnly p t u).trans (endHeadAction_faultOnly p t _)) _).trans
      (hstop _)

/-! ## The promise through the formatter's work -/

section
variable {s : State}

/-- The gate becomes CLOSED (R50, R51); an open that is pending stays so. -/
theorem closeGate_gateHeld (h : gateHeld s) : gateHeld (closeGate s) := by
  have hreselect := reselect_sameGate (raiseEvent .gateClosed
    { s with formatter := { s.formatter with
      gate := .closed, closePoint := none, openSpan := none, sending := none
      build := if s.formatter.pendingOpen.isSome then s.formatter.build else none
      ready := if s.formatter.pendingOpen.isSome then s.formatter.ready else none
      run := if s.formatter.pendingOpen.isSome then s.formatter.run else none } })
  refine gateClosedReport_gateHeld hreselect.gate (hreselect.held ⟨fun hopen => ?_, h.2⟩)
  cases hopen

theorem normalClose_gateHeld (h : gateHeld s) : gateHeld (normalClose s) := by
  unfold normalClose
  split
  · exact closeGate_gateHeld h
  · exact h

theorem forcedClose_gateHeld (h : gateHeld s) : gateHeld (forcedClose s) := by
  unfold forcedClose
  split
  · exact closeGate_gateHeld h
  · exact h

/-- The gate opens under the conditions of R49, for an entry that the sequencer writes. -/
theorem openGate_gateHeld (sp : Span) (henabled : s.formatter.writeEnable = true)
    (hwindow : writeWindow s.transport = true) (hwriting : writingEntry s = true) : gateHeld (openGate sp s) := by
  refine (reselect_sameGate _).held ⟨fun _ _ => ⟨henabled, hwindow, hwriting, rfl⟩, fun _ => hwriting⟩

theorem refuseOpen_gateHeld (hclosed : s.formatter.gate = .closed) : gateHeld (refuseOpen s) :=
  seqRefused_gateHeld _ _ ⟨fun hopen => absurd (hclosed.symm.trans hopen) (by decide), rfl⟩

theorem gateTest_gateHeld (h : gateHeld s) : gateHeld (gateTest s) := by
  unfold gateTest
  split
  · next hdue =>
    have hclosed : s.formatter.gate = .closed := by
      have := hdue
      simp only [gateTestDue, Bool.and_eq_true, beq_iff_eq] at this
      exact this.1
    split
    · exact h
    · next hpending =>
      split
      · next hgo =>
        rw [Bool.and_eq_true] at hgo
        exact openGate_gateHeld _ hgo.1 hgo.2 (h.2 (by rw [hpending]; rfl))
      · exact refuseOpen_gateHeld hclosed
  · exact h

theorem fadeOutEnd_gateHeld (h : gateHeld s) : gateHeld (fadeOutEnd s) := by
  unfold fadeOutEnd
  split
  · exact fadeOutReport_gateHeld _ (SameGate.held {} h)
  · exact h

theorem runEnd_gateHeld (h : gateHeld s) : gateHeld (runEnd s) := by
  unfold runEnd
  split
  · exact markRunReport_gateHeld _ (SameGate.held {} h)
  · exact h

theorem timeoutEntry_gateHeld (w : WrittenFrame) (h : gateHeld s) : gateHeld (timeoutEntry w s) := by
  unfold timeoutEntry
  simp only
  repeat' split
  · exact SameGate.held {} h
  · exact evaluate_gateHeld _ _ (SameGate.held {} h)
  · exact SameGate.held {} h

theorem writtenTimeout_gateHeld (h : gateHeld s) : gateHeld (writtenTimeout s) := by
  have hfold : ∀ (l : List WrittenFrame) (u : State), gateHeld u →
      gateHeld (l.foldl (fun s w => timeoutEntry w s) u) := by
    intro l
    induction l with
    | nil => exact fun _ hu => hu
    | cons w l ih => exact fun _ hu => ih _ (timeoutEntry_gateHeld w hu)
  exact hfold _ s h

theorem buildComplete_sameGate (s : State) : SameGate s (buildComplete s) := by
  unfold buildComplete
  repeat' split
  all_goals exact {}

theorem expireCandidate_sameGate (s : State) : SameGate s (expireCandidate s) := by
  unfold expireCandidate
  split <;> exact {}

theorem txRecord_sameGate (s : State) : SameGate s (txRecord s) := by
  unfold txRecord
  split <;> exact {}

theorem endSwitch_sameGate (s : State) : SameGate s (endSwitch s) := by
  unfold endSwitch
  repeat' split
  all_goals exact {}

theorem settleFades_sameGate (s : State) : SameGate s (settleFades s) := {}

theorem dropUnchecked_sameGate (s : State) : SameGate s (dropUnchecked s) := {}

theorem settleRepair_sameGate (s : State) : SameGate s (settleRepair s) := {}

theorem settleDue_gateHeld (h : gateHeld s) : gateHeld (settleDue s) := by
  have hwritten := writtenTimeout_gateHeld ((dropUnchecked_sameGate s).held h)
  have hrun := runEnd_gateHeld ((expireCandidate_sameGate _).held hwritten)
  have hfades := fadeOutEnd_gateHeld ((settleFades_sameGate _).held ((buildComplete_sameGate _).held hrun))
  have hgate := gateTest_gateHeld (forcedClose_gateHeld (normalClose_gateHeld hfades))
  exact (settleRepair_sameGate _).held ((endSwitch_sameGate _).held ((txRecord_sameGate _).held hgate))

/-- A written frame handed to the tape map changes the index and its marks alone (R110 to R112). -/
theorem handWritten_only (a : Afa) (p : ProgramPack) (s : State) :
    let t := handWritten a p s
    t = { s with ports := t.ports, tapeMap := t.tapeMap } := by
  unfold handWritten applyWrittenRun removeWritten insertEntry
  simp only
  repeat' split
  all_goals rfl

theorem handWritten_sameGate (a : Afa) (p : ProgramPack) (s : State) : SameGate s (handWritten a p s) := by
  have h := handWritten_only a p s
  exact .of_blocks (by rw [h]) (by rw [h]) (by rw [h]) (by rw [h])

theorem trackASent_sameGate (s : State) : SameGate s (trackASent s) := by
  unfold trackASent
  split
  · exact SameGate.trans {} (handWritten_sameGate _ _ _)
  · exact {}

theorem writeComplete_sameGate (s : State) : SameGate s (writeComplete s) := by
  unfold writeComplete
  split <;> exact {}

theorem beforeTick_gateHeld (h : gateHeld s) : gateHeld (beforeTick s) := by
  have hsent := forcedClose_gateHeld ((trackASent_sameGate _).held (settleDue_gateHeld h))
  unfold beforeTick finishSending
  exact forcedClose_gateHeld ((writeComplete_sameGate _).held hsent)

/-! ### Building -/

/-- The span of the last frame built changes no open from pending to not (R45, R47). -/
theorem noteBuilt_gate (f : FrameNo) (sp : Span) (m : Formatter) : ∃ p o,
    noteBuilt f sp m = { m with pendingOpen := p, openSpan := o } ∧ p.isSome = m.pendingOpen.isSome := by
  unfold noteBuilt
  split
  · next hp =>
    split
    · exact ⟨_, _, rfl, by rw [hp]; rfl⟩
    · exact ⟨_, _, rfl, rfl⟩
  · exact ⟨_, _, rfl, rfl⟩

theorem beginBuild_gateHeld (f : FrameNo) (sp : Span) (o : OldFrame) (h : gateHeld s) :
    gateHeld (beginBuild f sp o s) := by
  unfold beginBuild
  simp only
  obtain ⟨p, o', hnote, hp⟩ := noteBuilt_gate f
    { sp with prev := some (spanAfa sp,
      (programFor s sp o ((runFor s sp (spanAfa sp)).filter fun r => r.next < 100)).number) } s.formatter
  rw [hnote]
  refine ⟨fun hopen hnot => ?_, fun hpending => h.2 (hp.symm.trans hpending)⟩
  obtain ⟨henabled, hwindow, hwriting, hnone⟩ := h.1 hopen hnot
  refine ⟨henabled, hwindow, hwriting, ?_⟩
  rw [hnone] at hp
  simpa using hp

/-- A build stop (R44, R129): with an open pending, an OPEN gate is under a forced close, which stands. -/
theorem buildStop_gateHeld (sp : Span) (kind : ErrorKind) (d : ErrorDetail) (h : gateHeld s) :
    gateHeld (buildStop sp kind d s) := by
  unfold buildStop
  split
  · next hfirst =>
    refine seqRefused_gateHeld _ _ ⟨fun hopen => ?_, rfl⟩
    have hopen' : s.formatter.gate = .opened := hopen
    simp only [hopen', if_true]
    exact h.forced_of_pending hfirst.2 hopen'
  · exact seqLaterStop_gateHeld _ _ (closeRequest_gateHeld _ h)

theorem buildStart_gateHeld (h : gateHeld s) : gateHeld (buildStart s) := by
  unfold buildStart
  simp only
  repeat' split
  · exact h
  · exact buildStop_gateHeld _ _ _ h
  · exact buildStop_gateHeld _ _ _ h
  · exact beginBuild_gateHeld _ _ _ h

theorem buildAtTick_sameGate (s : State) : SameGate s (buildAtTick s) := by
  unfold buildAtTick
  split <;> exact {}

theorem startSending_sameGate (s : State) : SameGate s (startSending s) := by
  unfold startSending
  simp only
  split <;> exact {}

/-! ## The promise through a change at the transport interface -/

/-- After a change of the transport the promise holds, or the write window was lost with the gate OPEN and the sequencer
writing (R28). -/
theorem withTransport_gateHeld (x : Transport) (h : gateHeld s) : gateHeld (s.withTransport x) ∨
    (writeWindow s.transport = true ∧ writeWindow x = false ∧ s.formatter.gate = .opened ∧ writingEntry s = true) := by
  by_cases hopen : s.formatter.gate = .opened ∧ s.formatter.closePoint ≠ some .forced
  · obtain ⟨hgate, hnot⟩ := hopen
    obtain ⟨henabled, hwindow, hwriting, hnone⟩ := h.1 hgate hnot
    cases hx : writeWindow x with
    | true => exact .inl ⟨fun _ _ => ⟨henabled, hx, hwriting, hnone⟩, h.2⟩
    | false => exact .inr ⟨hwindow, rfl, hgate, hwriting⟩
  · exact .inl ⟨fun hgate hnot => absurd ⟨hgate, hnot⟩ hopen, h.2⟩

theorem afterTransport_gateHeld (t : Transport) (h : gateHeld s) : gateHeld (afterTransport t s) :=
  evaluate_gateHeld _ _ (windowLoss_gateHeld t ((verifyRange_faultOnly t s).sameGate.held h))

/-- A change within a mode other than UNLOADED: what the promise loses with the window, the loss of the window mends. -/
theorem afterTransport_withTransport_gateHeld (x : Transport) (hmode : x.mode = s.transport.mode) (h : gateHeld s) :
    gateHeld (afterTransport s.transport (s.withTransport x)) := by
  rcases withTransport_gateHeld x h with hheld | ⟨hold, hnew, hopen, hwriting⟩
  · exact afterTransport_gateHeld _ hheld
  · have hsame := (verifyRange_faultOnly s.transport (s.withTransport x)).sameGate
    refine evaluate_gateHeld _ _ (windowLoss_gateShut hold ?_ ?_ ?_ ?_).held
    · rw [hsame.transport]
      exact hnew
    · rw [hsame.transport]
      show x.mode ≠ .unloaded
      rw [hmode]
      simp only [writeWindow, Bool.and_eq_true, beq_iff_eq] at hold
      simp [hold]
    · exact hsame.gate.trans hopen
    · exact hsame.writing.trans hwriting

end

end Sys2Proof.Machine

namespace Sys2Proof.Machine
open Sys2Proof

-- One theorem at a time: the whole text is also compiled as one, where a thread for each theorem in flight asks for more
-- memory than the check allows.
set_option Elab.async false

/-! ## The promise through a frame tick -/

section
variable {s : State}

theorem tickTransport_gateHeld (dir : Direction) (us : Nat) (h : gateHeld s) : gateHeld (tickTransport dir us s) :=
  afterTransport_withTransport_gateHeld (s.transport.atTick dir us) rfl h

theorem stallTimeout_gateHeld (h : gateHeld s) : gateHeld (stallTimeout s) :=
  afterTransport_withTransport_gateHeld s.transport.atStall rfl h

theorem tickRights_sameGate (s : State) : SameGate s (tickRights s) := {}

theorem decoderTick_sameGate (path : ReadPath) (r : TickResult) (s : State) : SameGate s (decoderTick path r s) :=
  .of_blocks (decoderTick_formatter path r s) (decoderTick_transport path r s) (decoderTick_editList path r s)
    (decoderTick_seq path r s)

theorem keepOldFrame_sameGate (r : TickResult) (fp : Option Afa) (st : PosState) (s : State) :
    SameGate s (keepOldFrame r fp st s) := {}

theorem tapeMapRest_sameGate (packs : FramePacks) (b : Bool) (fp : Option Afa) (s : State) :
    SameGate s (tapeMapRest packs b fp s) := by
  have h := tapeMapRest_only packs b fp s
  exact .of_blocks (by rw [h]) (by rw [h]) (by rw [h]) (by rw [h])

theorem setTapeRights_sameGate (t : TapeRights) (s : State) : SameGate s (setTapeRights t s) := by
  unfold setTapeRights
  split <;> exact {}

theorem takeRightsPack_sameGate (k : Option RightsPack) (s : State) : SameGate s (takeRightsPack k s) := by
  have h := takeRightsPack_only k s
  exact .of_blocks (by rw [h]) (by rw [h]) (by rw [h]) (by rw [h])

theorem clogTally_sameGate (path : ReadPath) (t : Tally) (s : State) : SameGate s (clogTally path t s) := by
  have h : _ = _ := clogTally_only path t s
  exact .of_blocks (by rw [h]) (by rw [h]) (by rw [h]) (by rw [h])

theorem verifyStep_sameGate (path : ReadPath) (scan : Option Afa) (j : Bool) (t : Tally) (s : State) :
    SameGate s (verifyStep path scan j t s) := by
  have h := verifyStep_only path scan j t s
  exact .of_blocks (by rw [h]) (by rw [h]) (by rw [h]) (by rw [h])

theorem verifyResult_sameGate (path : ReadPath) (r : TickResult) (scan : Option Afa) (j : Bool) (s : State) :
    SameGate s (verifyResult path r scan j s) := by
  unfold verifyResult
  split
  · exact verifyStep_sameGate _ _ _ _ s
  all_goals exact .refl s

theorem reportJump_gateHeld (h : gateHeld s) : gateHeld (reportJump s) := by
  refine seqForcedCloseAll_gateHeld _ _ (positionReport_gateHeld _ ?_)
  exact SameGate.held (s := s) {} h

theorem rateTally_gateHeld (t : Tally) (h : gateHeld s) : gateHeld (rateTally t s) := by
  unfold rateTally
  simp only
  split
  · exact h
  · exact evaluate_gateHeld _ _ (SameGate.held {} h)

theorem preTally_gateHeld (r : TickResult) (h : gateHeld s) : gateHeld (preTally r s) := by
  unfold preTally
  split
  · exact (clogTally_sameGate _ _ _).held (rateTally_gateHeld _ (evaluate_gateHeld _ _ h))
  all_goals exact h

theorem beforeRightsPack_gateHeld (r : TickResult) (h : gateHeld s) : gateHeld (beforeRightsPack r s) := by
  have hpos : gateHeld (s.withPosition (s.tapeMap.pos.handle r.packs.position).1) := SameGate.held (s := s) {} h
  unfold beforeRightsPack
  simp only
  refine (keepOldFrame_sameGate _ _ _ _).held ((tapeMapRest_sameGate _ _ _ _).held ?_)
  split
  · exact reportJump_gateHeld hpos
  · exact hpos

theorem tapeMapArrival_gateHeld (r : TickResult) (h : gateHeld s) : gateHeld (tapeMapArrival r s) := by
  rw [tapeMapArrival_eq]
  exact (verifyResult_sameGate _ _ _ _ _).held (seqFramePosition_gateHeld _ _ _
    (preTally_gateHeld r ((takeRightsPack_sameGate _ _).held (beforeRightsPack_gateHeld r h))))

theorem preTick_gateHeld (h : gateHeld s) : gateHeld (preTick s) := by
  have hdecoder := (decoderTick_sameGate .pre (decoderResult .pre s) s).held h
  unfold preTick
  simp only
  split
  · exact (keepOldFrame_sameGate _ _ _ _).held hdecoder
  · exact tapeMapArrival_gateHeld _ hdecoder

theorem noteConf_sameGate (s : State) : SameGate s (noteConf s) := by
  unfold noteConf
  split <;> exact {}

theorem confirmTally_gateHeld (t : Tally) (h : gateHeld s) : gateHeld (confirmTally t s) := by
  have hnote := (noteConf_sameGate s).held h
  have hremoved : ∀ l, gateHeld { noteConf s with formatter := { (noteConf s).formatter with written := l } } :=
    fun l => SameGate.held {} hnote
  unfold confirmTally
  simp only
  repeat' split
  · exact hnote
  · exact hremoved _
  · exact (conditionTo_sameGate _ _ _).held (hremoved _)
  · exact evaluate_gateHeld _ _ (hremoved _)

theorem confTick_gateHeld (h : gateHeld s) : gateHeld (confTick s) := by
  have hdecoder := (decoderTick_sameGate .conf (decoderResult .conf s) s).held h
  rw [confTick_eq]
  unfold confUsers
  split
  · exact (verifyStep_sameGate _ _ _ _ _).held ((clogTally_sameGate _ _ _).held (confirmTally_gateHeld _ hdecoder))
  all_goals exact hdecoder

theorem tapeMapTick_gateHeld (h : gateHeld s) : gateHeld (tapeMapTick s) := by
  unfold tapeMapTick
  simp only
  split
  · exact positionReport_gateHeld _ (SameGate.held {} h)
  · exact SameGate.held {} h

theorem tickBack_gateHeld (h : gateHeld s) : gateHeld (tickBack s) := by
  have hblend : gateHeld (tickBlend (tapeMapTick s)) := SameGate.held {} (tapeMapTick_gateHeld h)
  exact SameGate.held (s := positionTick _) {} (positionTick_gateHeld hblend)

theorem frameTick_gateHeld (dir : Direction) (us : Nat) (h : gateHeld s) : gateHeld (frameTick dir us s) := by
  have hfront : gateHeld (tickFront dir us (beforeTick s)) :=
    (buildAtTick_sameGate _).held ((tickRights_sameGate _).held
      (tickTransport_gateHeld dir us (beforeTick_gateHeld h)))
  exact (startSending_sameGate _).held
    (buildStart_gateHeld (tickBack_gateHeld (confTick_gateHeld (preTick_gateHeld hfront))))

/-! ## The promise through a mode report and a tape unload -/

theorem emptyIndex_sameGate (s : State) : SameGate s (emptyIndex s) := by
  unfold emptyIndex
  simp only
  split <;> exact {}

theorem tapeMapUnload_sameGate (s : State) : SameGate s (tapeMapUnload s) :=
  SameGate.trans {} (emptyIndex_sameGate _)

/-- A tape unload after what it does at the sequencer. -/
theorem unloadRest_sameGate (s : State) : SameGate s (faultUnload (rightsUnload (decodersUnload s))) := by
  have hdecoders : SameGate s (decodersUnload s) := {}
  have hrights : ∀ u : State, SameGate u (rightsUnload u) := fun u => SameGate.trans {} (setTapeRights_sameGate _ _)
  exact hdecoders.trans ((hrights _).trans (faultUnload_faultOnly _).sameGate)

theorem tapeUnload_gateHeld (h : gateHeld s) : gateHeld (tapeUnload s) :=
  (unloadRest_sameGate _).held (seqUnload_gateHeld ((tapeMapUnload_sameGate s).held h))

/-- An unload while the sequencer writes closes its gate by force. -/
theorem tapeUnload_gateHeld_of_writing (h : writingEntry s = true) : gateHeld (tapeUnload s) :=
  (unloadRest_sameGate _).held (seqUnload_gateShut ((tapeMapUnload_sameGate s).writing.trans h)).held

/-- The new mode record, with MODE_CHANGED when the mode differs (R19). -/
def takeMode (m : Mode) (lock prot : Bool) (s : State) : State :=
  let s' := s.withTransport { s.transport with mode := m, lock := lock, prot := prot }
  if m = s.transport.mode then s' else raiseEvent .modeChanged s'

theorem modeChange_eq (m : Mode) (lock prot : Bool) (s : State) : modeChange m lock prot s =
    afterTransport s.transport (if m = .unloaded ∧ s.transport.mode ≠ .unloaded then tapeUnload (takeMode m lock prot s)
      else takeMode m lock prot s) := rfl

theorem takeMode_sameGate (m : Mode) (lock prot : Bool) (s : State) :
    SameGate (s.withTransport { s.transport with mode := m, lock := lock, prot := prot }) (takeMode m lock prot s) := by
  unfold takeMode
  simp only
  split <;> exact {}

theorem modeChange_gateHeld (m : Mode) (lock prot : Bool) (h : gateHeld s) : gateHeld (modeChange m lock prot s) := by
  have htake := takeMode_sameGate m lock prot s
  rw [modeChange_eq]
  rcases withTransport_gateHeld { s.transport with mode := m, lock := lock, prot := prot } h with
    hheld | ⟨hold, hnew, hopen, hwriting⟩
  · refine afterTransport_gateHeld _ ?_
    split
    · exact tapeUnload_gateHeld (htake.held hheld)
    · exact htake.held hheld
  · have hwritingNow : writingEntry (takeMode m lock prot s) = true := htake.writing.trans hwriting
    split
    · exact afterTransport_gateHeld _ (tapeUnload_gateHeld_of_writing hwritingNow)
    · next hnot =>
      have hsame := htake.trans (verifyRange_faultOnly s.transport (takeMode m lock prot s)).sameGate
      refine evaluate_gateHeld _ _ (windowLoss_gateShut hold ?_ ?_ (hsame.gate.trans hopen) ?_).held
      · rw [hsame.transport]
        exact hnew
      · rw [hsame.transport]
        intro hunloaded
        refine hnot ⟨hunloaded, ?_⟩
        simp only [writeWindow, Bool.and_eq_true, beq_iff_eq] at hold
        simp [hold]
      · exact hsame.writing.trans hwriting

/-! ## The promise through the commands -/

/-- A request keeps the promise when its own effect does. -/
theorem request_gateHeld {body : State → State × ResultCode × Payload} (p : Port) (op : Byte) (cls : RequestClass)
    (hbody : gateHeld s → gateHeld (body s).1) (h : gateHeld s) : gateHeld (request p op cls body s) := by
  unfold request
  repeat' split
  · exact SameGate.held (s := s) {} h
  · next hb =>
    refine SameGate.held ?_ (hbody h)
    rw [hb]
    exact {}
  · exact SameGate.held (s := s) {} h

theorem modeReport_gateHeld (m l p : Byte) (h : gateHeld s) : gateHeld (modeReport m l p s).1 := by
  unfold modeReport
  split
  · exact modeChange_gateHeld _ _ _ h
  · exact h

theorem fifoArrival_sameGate (p : Pair) (s : State) : SameGate s (fifoArrival p s) := by
  unfold fifoArrival
  simp only
  split <;> exact {}

theorem takePair_sameGate (s : State) : SameGate s (takePair s).1 := by
  unfold takePair
  simp only
  repeat' split
  all_goals exact {}

theorem placePair_sameGate (n : Nat) (p : PlacedPair) (s : State) : SameGate s (placePair n p s) := by
  unfold placePair
  repeat' split
  all_goals exact {}

theorem pairWork_sameGate (n : Nat) (s : State) : SameGate s (pairWork n s) := by
  have htake := takePair_sameGate s
  unfold pairWork
  exact htake.trans (SameGate.trans {} (placePair_sameGate _ _ _))

theorem pairPeriod_gateHeld (h : gateHeld s) : gateHeld (pairPeriod s) := by
  unfold pairPeriod
  simp only
  split
  · exact settleDue_gateHeld h
  · exact (pairWork_sameGate _ _).held (settleDue_gateHeld h)

theorem blockArrival_sameGate (blk : BlockArrival) (s : State) : SameGate s (blockArrival blk s) := by
  unfold blockArrival State.withDecoder
  simp only
  split <;> exact {}

theorem mapConcealer_sameGate (ch : Channel) (f : Concealer → Concealer) (s : State) :
    SameGate s (mapConcealer ch f s) := by
  cases ch <;> exact {}

theorem mapRepairer_sameGate (path : ReadPath) (ch : Channel) (f : Repairer → Repairer) (s : State) :
    SameGate s (mapRepairer path ch f s) := by
  cases path <;> exact {}

/-! ### Status records, lock and settings -/

theorem setDigital_gateHeld (st : SourceState) (h : gateHeld s) : gateHeld (setDigital st s) := by
  have hchanged : gateHeld (raiseEvent .rightsChanged { s with rights := { s.rights with digital := st } }) :=
    SameGate.held (s := s) {} h
  have hcounted : ∀ u, gateHeld u → gateHeld (refreshWord (countPeriodRights u)) := fun u hu =>
    SameGate.held (s := u) {} hu
  unfold setDigital
  simp only
  repeat' split
  · exact h
  · exact noneReport_gateHeld (hcounted _ hchanged)
  · exact hcounted _ hchanged
  · exact hchanged

theorem afterUsability_gateHeld (s0 : State) (h : gateHeld s) : gateHeld (afterUsability s0 s) := by
  unfold afterUsability
  split
  · exact h
  · refine evaluate_gateHeld _ _ ?_
    split
    · exact h
    · exact SameGate.held (s := s) {} h

theorem rightsRecord_gateHeld (r : StatusRecord) (h : gateHeld s) : gateHeld (rightsRecord r s) := by
  unfold rightsRecord
  simp only
  split
  · exact setDigital_gateHeld _ (SameGate.held (s := s) {} h)
  · exact SameGate.held (s := s) {} h

theorem statusRecord_gateHeld (r : StatusRecord) (h : gateHeld s) : gateHeld (statusRecord r s) := by
  unfold statusRecord
  split
  · exact afterUsability_gateHeld _ (SameGate.held (s := rightsRecord r s) {} (rightsRecord_gateHeld r h))
  · exact h

theorem lossOfLock_gateHeld (h : gateHeld s) : gateHeld (lossOfLock s) :=
  afterUsability_gateHeld _ (setDigital_gateHeld _ (SameGate.held (s := s) {} h))

theorem afterSettings_gateHeld (s0 : State) (h : gateHeld s) : gateHeld (afterSettings s0 s) := by
  have hsource := (afterSourceChange_sameGate s0 s).held h
  unfold afterSettings
  simp only
  refine deliverInput_gateHeld _ ?_
  have husable : ∀ u, gateHeld u → gateHeld (if usable s0 = usable u then u
      else evaluateInput (if usable u then u else emptyFifo u)) := fun u hu => by
    repeat' split
    · exact hu
    · exact (conditionTo_sameGate _ _ _).held hu
    · exact (conditionTo_sameGate _ _ _).held (SameGate.held (s := u) {} hu)
  have hrights : ∀ u : State, gateHeld u → gateHeld (if s0.formatter.analogRights = u.formatter.analogRights then u
      else if selectedSource (raiseEvent .rightsChanged u) = .analog then
        refreshWord (countPeriodRights (raiseEvent .rightsChanged u)) else raiseEvent .rightsChanged u) :=
    fun u hu => by
      repeat' split
      · exact hu
      · exact SameGate.held (s := u) {} hu
      · exact SameGate.held (s := u) {} hu
  exact hrights _ (husable _ hsource)

theorem setRecordSettings_gateHeld (rate source analog : Option Byte) (h : gateHeld s) :
    gateHeld (setRecordSettings rate source analog s).1 := by
  unfold setRecordSettings
  split
  · split
    · exact h
    · exact afterSettings_gateHeld _ (SameGate.held (s := s) {} h)
  · exact h

/-! ### Write enable, faults and the edit list -/

theorem writeEnable_gateHeld (h : gateHeld s) : gateHeld (writeEnable s).1 :=
  ⟨fun hopen hnot => ⟨rfl, (h.1 hopen hnot).2⟩, h.2⟩

/-- WRITE DISABLE with the gate OPEN makes a forced close (R42). -/
theorem writeDisable_gateHeld (h : gateHeld s) : gateHeld (writeDisable s).1 := by
  unfold writeDisable
  simp only
  split
  · exact seqForcedClose_gateHeld _ _ (forcedCloseRequest_gateShut _).held
  · next hclosed => exact ⟨fun hopen => absurd hopen hclosed, h.2⟩

theorem changeMode_gateHeld (k : FaultKind) (m : FaultMode) (h : gateHeld s) : gateHeld (changeMode k m s) := by
  have hset : ∀ {u : State}, gateHeld u → gateHeld (setMode k m u) := fun {u} hu =>
    (setMode_faultOnly k m u).sameGate.held hu
  have hended := (endKindAction_faultOnly k s).sameGate.held h
  unfold changeMode
  simp only
  repeat' split
  · exact h
  · exact (setRecord_faultOnly _ _ _).sameGate.held ((resetTrackers_faultOnly _ _).sameGate.held hended)
  · unfold beginMonitoring
    split
    · exact evaluate_gateHeld _ _ (hset h)
    · exact hset h
  · exact (setMode_faultOnly _ _ _).sameGate.held hended
  · exact (setMode_faultOnly _ _ _).sameGate.held ((endGoneAction_faultOnly k s).sameGate.held h)
  · exact (setMode_faultOnly _ _ _).sameGate.held h
  · exact (setMode_faultOnly _ _ _).sameGate.held h
  · exact h

theorem faultModeRequest_gateHeld (kind mode : Byte) (h : gateHeld s) :
    gateHeld (faultModeRequest kind mode s).1 := by
  unfold faultModeRequest
  repeat' split
  · exact h
  · exact changeMode_gateHeld _ _ h
  · exact h

/-- An entry written is not the one held (R119). -/
theorem editWrite_sameGate (k : BitVec 5) (e : EditEntry) (s : State) : SameGate s (editWrite k e s).1 := by
  unfold editWrite
  simp only
  repeat' split
  · exact {}
  · exact {}
  · next hfree =>
    refine { writing := ?_ }
    rcases hheld : s.seq.held with _ | j
    · simp [writingEntry, heldEntry, hheld]
    · have hne : (k.toFin : Nat) ≠ j := fun heq => hfree (by rw [hheld, Fin.ext heq])
      have hentry : (s.editList.set k.toFin (storedEntry e))[j] = s.editList[j] :=
        Vector.getElem_set_ne k.toFin.isLt j.isLt hne
      simp only [writingEntry, inWrite, heldEntry, hheld, Option.map_some, hentry]

theorem editStart_gateHeld (p : Byte) (h : gateHeld s) : gateHeld (editStart p s).1 := by
  unfold editStart
  repeat' split
  · next hstate => exact editStartAt_gateHeld _ hstate h
  · exact h
  · exact h

theorem holdWalk_gateHeld (h : gateHeld s) : gateHeld (holdWalk s).1 := by
  unfold holdWalk
  split
  · next harmed =>
    exact gateShut.held (h.shut (not_writing_of_state (by simp [harmed]) (by simp [harmed])))
  · exact SameGate.held (s := s) {} h
  · exact SameGate.held (s := s) {} h
  all_goals exact h

theorem continueWalk_gateHeld (h : gateHeld s) : gateHeld (continueWalk s).1 := by
  unfold continueWalk
  split
  · next hheld => exact continueHeld_gateHeld hheld h
  · exact h

/-! ### Requests that touch nothing the promise depends on -/

theorem statusRequest_sameGate (p : Port) (page : Byte) (s : State) : SameGate s (statusRequest p page s).1 := by
  unfold statusRequest
  simp only
  repeat' split
  all_goals exact {}

theorem claimRequest_sameGate (p : Port) (which : Byte) (take : Bool) (s : State) :
    SameGate s (claimRequest p which take s).1 := by
  unfold claimRequest
  repeat' split
  all_goals exact {}

theorem releaseRequest_sameGate (p : Port) (which : Byte) (s : State) :
    SameGate s (releaseRequest p which s).1 := by
  unfold releaseRequest
  repeat' split
  all_goals exact {}

theorem reportSet_sameGate (p : Port) (report attn : Option (BitVec 16)) (s : State) :
    SameGate s (reportSet p report attn s).1 := by
  unfold reportSet
  simp only
  split <;> exact {}

theorem ackEvents_sameGate (p : Port) (mask : BitVec 16) (s : State) : SameGate s (ackEvents p mask s).1 := by
  unfold ackEvents
  split <;> exact {}

theorem readPosition_sameGate (page : Byte) (s : State) : SameGate s (readPosition page s).1 := by
  unfold readPosition
  repeat' split
  all_goals exact {}

theorem readIndex_sameGate (k : Byte) (s : State) : SameGate s (readIndex k s).1 := by
  unfold readIndex
  simp only
  split <;> exact {}

theorem readFaults_sameGate (kind : Byte) (s : State) : SameGate s (readFaults kind s).1 := by
  unfold readFaults
  repeat' split
  all_goals exact {}

theorem readCounts_sameGate (p : Port) (first : Byte) (snapshot : Bool) (s : State) :
    SameGate s (readCounts p first snapshot s).1 := by
  unfold readCounts takeSnapshot
  simp only
  repeat' split
  all_goals exact {}

theorem verifyStart_sameGate (source : Byte) (start : Option (BitVec 20)) (stop : BitVec 20) (threshold : Byte)
    (loop : Bool) (s : State) : SameGate s (verifyStart source start stop threshold loop s).1 := by
  unfold verifyStart
  simp only
  repeat' split
  all_goals exact {}

theorem verifyStop_sameGate (s : State) : SameGate s (verifyStop s).1 := by
  unfold verifyStop
  simp only
  split <;> exact {}

theorem verifyRead_sameGate (page : Byte) (s : State) : SameGate s (verifyRead page s).1 := by
  unfold verifyRead
  simp only
  repeat' split
  all_goals exact {}

theorem setMonitor_sameGate (mode : Byte) (s : State) : SameGate s (setMonitor mode s).1 := by
  unfold setMonitor
  split
  · exact {}
  · exact SameGate.trans {} (reselect_sameGate _)

theorem exchangeStart_sameGate (p : Port) (s : State) : SameGate s (exchangeStart p s) := by
  unfold exchangeStart
  simp only
  split <;> exact {}

theorem frameError_sameGate (p : Port) (s : State) : SameGate s (frameError p s) := by
  unfold frameError
  split <;> exact {}

theorem powerOnReset_gateHeld (s : State) : gateHeld (powerOnReset s) :=
  gateShut.held ⟨fun h => absurd h (by simp [powerOnReset, State.reset, Formatter.reset]), rfl⟩

end

/-- Every command keeps the promise of the write gate. -/
theorem exec_gateHeld (i : Instr) {s : State} (h : gateHeld s) : ∃ t, exec i s = .next t ∧ gateHeld t := by
  have same : ∀ {t : State}, SameGate s t → gateHeld t := fun hsame => hsame.held h
  cases i with
  | powerOnReset => exact ⟨_, rfl, powerOnReset_gateHeld s⟩
  | frameTick dir us => exact ⟨_, rfl, frameTick_gateHeld dir us h⟩
  | stallTimeout => exact ⟨_, rfl, stallTimeout_gateHeld h⟩
  | modeReport p m l r => exact ⟨_, rfl, request_gateHeld _ _ _ (modeReport_gateHeld m l r) h⟩
  | blockArrival blk => exact ⟨_, rfl, same (blockArrival_sameGate blk s)⟩
  | jumpCandidateExpiry => exact ⟨_, rfl, same (expireCandidate_sameGate s)⟩
  | pairPeriod => exact ⟨_, rfl, pairPeriod_gateHeld h⟩
  | newPathHoldExpiry ch => exact ⟨_, rfl, same (mapConcealer_sameGate ch _ s)⟩
  | newPathMuteEnd ch => exact ⟨_, rfl, same (mapConcealer_sameGate ch _ s)⟩
  | newPathRecoveryEnd ch => exact ⟨_, rfl, same (mapConcealer_sameGate ch _ s)⟩
  | holdExpiry path ch => exact ⟨_, rfl, same (mapRepairer_sameGate path ch _ s)⟩
  | muteRampEnd path ch => exact ⟨_, rfl, same (mapRepairer_sameGate path ch _ s)⟩
  | recoveryEnd path ch => exact ⟨_, rfl, same (mapRepairer_sameGate path ch _ s)⟩
  | converterPairArrival l r =>
    refine ⟨_, rfl, same ?_⟩
    split
    · exact fifoArrival_sameGate _ s
    · exact {}
  | receiverPairArrival l r =>
    refine ⟨_, rfl, same ?_⟩
    split
    · exact fifoArrival_sameGate _ s
    · exact {}
  | statusRecord r => exact ⟨_, rfl, statusRecord_gateHeld r h⟩
  | lossOfLock => exact ⟨_, rfl, lossOfLock_gateHeld h⟩
  | lockRegained => exact ⟨_, rfl, afterUsability_gateHeld _ (SameGate.held (s := s) {} h)⟩
  | txStatusRecord => exact ⟨_, rfl, same (txRecord_sameGate s)⟩
  | markerRunEnd => exact ⟨_, rfl, runEnd_gateHeld h⟩
  | frameBuildComplete => exact ⟨_, rfl, same (buildComplete_sameGate s)⟩
  | gateOpenTest => exact ⟨_, rfl, gateTest_gateHeld h⟩
  | normalCloseEffect => exact ⟨_, rfl, normalClose_gateHeld h⟩
  | forcedCloseEffect => exact ⟨_, rfl, forcedClose_gateHeld h⟩
  | trackASent => exact ⟨_, rfl, same (trackASent_sameGate s)⟩
  | frameWriteComplete => exact ⟨_, rfl, same (writeComplete_sameGate s)⟩
  | writtenListTimeout => exact ⟨_, rfl, writtenTimeout_gateHeld h⟩
  | confirmDropUnchecked => exact ⟨_, rfl, same (dropUnchecked_sameGate s)⟩
  | pendingFadeStart ch => exact ⟨_, rfl, same {}⟩
  | fadeInEnd ch => exact ⟨_, rfl, same {}⟩
  | fadeOutEnd => exact ⟨_, rfl, fadeOutEnd_gateHeld h⟩
  | monitorSwitchEnd => exact ⟨_, rfl, same (endSwitch_sameGate s)⟩
  | exchangeStart p => exact ⟨_, rfl, same (exchangeStart_sameGate p s)⟩
  | frameError p => exact ⟨_, rfl, same (frameError_sameGate p s)⟩
  | unknownOpcode p op =>
    refine ⟨_, rfl, same ?_⟩
    split <;> exact {}
  | noop p => exact ⟨_, rfl, request_gateHeld _ _ _ id h⟩
  | status p page => exact ⟨_, rfl, request_gateHeld _ _ _ (statusRequest_sameGate p page s).held h⟩
  | claim p which take => exact ⟨_, rfl, request_gateHeld _ _ _ (claimRequest_sameGate p which take s).held h⟩
  | release p which => exact ⟨_, rfl, request_gateHeld _ _ _ (releaseRequest_sameGate p which s).held h⟩
  | reportSet p r a => exact ⟨_, rfl, request_gateHeld _ _ _ (reportSet_sameGate p r a s).held h⟩
  | readEvents p => exact ⟨_, rfl, request_gateHeld _ _ _ id h⟩
  | ackEvents p mask => exact ⟨_, rfl, request_gateHeld _ _ _ (ackEvents_sameGate p mask s).held h⟩
  | readPosition p page => exact ⟨_, rfl, request_gateHeld _ _ _ (readPosition_sameGate page s).held h⟩
  | readIndex p k => exact ⟨_, rfl, request_gateHeld _ _ _ (readIndex_sameGate k s).held h⟩
  | editRead p k part => exact ⟨_, rfl, request_gateHeld _ _ _ id h⟩
  | readRights p => exact ⟨_, rfl, request_gateHeld _ _ _ id h⟩
  | readFaults p kind => exact ⟨_, rfl, request_gateHeld _ _ _ (readFaults_sameGate kind s).held h⟩
  | clearFaults p =>
    exact ⟨_, rfl, request_gateHeld _ _ _ (clearFaults_faultOnly s).sameGate.held h⟩
  | readCounts p first snapshot =>
    exact ⟨_, rfl, request_gateHeld _ _ _ (readCounts_sameGate p first snapshot s).held h⟩
  | verifyStart p source start stop threshold loop =>
    exact ⟨_, rfl, request_gateHeld _ _ _ (verifyStart_sameGate source start stop threshold loop s).held h⟩
  | verifyStop p => exact ⟨_, rfl, request_gateHeld _ _ _ (verifyStop_sameGate s).held h⟩
  | verifyRead p page => exact ⟨_, rfl, request_gateHeld _ _ _ (verifyRead_sameGate page s).held h⟩
  | setMonitor p mode => exact ⟨_, rfl, request_gateHeld _ _ _ (setMonitor_sameGate mode s).held h⟩
  | editWrite p k e => exact ⟨_, rfl, request_gateHeld _ _ _ (editWrite_sameGate k e s).held h⟩
  | editStart p first => exact ⟨_, rfl, request_gateHeld _ _ _ (editStart_gateHeld first) h⟩
  | hold p => exact ⟨_, rfl, request_gateHeld _ _ _ holdWalk_gateHeld h⟩
  | continueWalk p => exact ⟨_, rfl, request_gateHeld _ _ _ continueWalk_gateHeld h⟩
  | abort p => exact ⟨_, rfl, request_gateHeld _ _ _ abortWalk_gateHeld h⟩
  | writeEnable p => exact ⟨_, rfl, request_gateHeld _ _ _ writeEnable_gateHeld h⟩
  | writeDisable p => exact ⟨_, rfl, request_gateHeld _ _ _ writeDisable_gateHeld h⟩
  | setRecord p rate source analog =>
    exact ⟨_, rfl, request_gateHeld _ _ _ (setRecordSettings_gateHeld rate source analog) h⟩
  | setRepair p _ _ _ _ => exact ⟨_, rfl, request_gateHeld _ _ _ (SameGate.held {}) h⟩
  | faultMode p kind mode => exact ⟨_, rfl, request_gateHeld _ _ _ (faultModeRequest_gateHeld kind mode) h⟩
  | setThresholds p high low => exact ⟨_, rfl, request_gateHeld _ _ _ (SameGate.held {}) h⟩
  | clearIndex p => exact ⟨_, rfl, request_gateHeld _ _ _ (emptyIndex_sameGate s).held h⟩

/-- Settles O58: the command at the front of the queue keeps the promise (`exec_gateHeld`), and an idle step changes
nothing. -/
theorem gateKept : Obligations.GateKept := by
  unfold Obligations.GateKept
  intro s t h hstep
  unfold step at hstep
  split at hstep
  · cases hstep
    exact h
  · next c rest _ =>
    obtain ⟨u, hu, hheld⟩ := exec_gateHeld c (s := { s with pending := rest }) (SameGate.held (s := s) {} h)
    cases hu.symm.trans hstep
    exact hheld

end Sys2Proof.Machine

namespace Sys2Proof.Machine
open Sys2Proof

-- One theorem at a time: the whole text is also compiled as one, where a thread for each theorem in flight asks for more
-- memory than the check allows.
set_option Elab.async false

/-! ## Power-on reset (R178) -/

theorem reset_concealer (ch : Channel) : State.reset.concealer ch = .reset := by cases ch <;> rfl

theorem reset_repairUnit (path : ReadPath) : State.reset.repairUnit path = .reset := by cases path <;> rfl

theorem reset_repairer (ch : Channel) : RepairUnit.reset.get ch = .reset := by cases ch <;> rfl

theorem reset_decoder (path : ReadPath) : State.reset.decoder path = .reset := by cases path <;> rfl

theorem reset_head (path : ReadPath) (tr : Track) : State.reset.faults.heads.get path tr = .reset := by
  cases path <;> cases tr <;> rfl

theorem reset_blendChannel (ch : Channel) : State.reset.blend.get ch = .reset := by cases ch <;> rfl

theorem reset_faultRecord (k : FaultKind) :
    State.reset.faults.records.get k = .reset (State.reset.faults.records.get k).mode := by cases k <;> rfl

theorem reset_snapshot (p : Port) : snapshotOf State.reset p = .reset := by cases p <;> rfl

theorem reset_counters : ∀ n ∈ Counters.reset.list, n = 0 := by
  simp [Counters.list, PathCounters.list, Counters.reset, PathCounters.reset]

theorem reset_port (p : Port) : State.reset.ports.get p = .reset := by cases p <;> rfl

theorem reset_entry (k : Fin 32) : State.reset.editList[k] = emptyEntry := Vector.getElem_replicate k.isLt

/-- Settles O3, block by block: a value given for every path, channel, head, kind, port or entry by what the reset state
holds there. -/
theorem resetValues : Obligations.ResetValues := by
  unfold Obligations.ResetValues
  intro s
  have hrepairer : ∀ path ch, (s.repairUnit path).get ch = .reset := fun path ch => by
    rw [reset_repairUnit, reset_repairer]
  refine ⟨?transport, ?clock, ?formatter, ⟨fun ch => ?concealer, fun path ch => ?repairer⟩, fun path => ?frames,
    fun path => ?decoder, ⟨rfl, rfl, reset_blendChannel, rfl⟩, ?tapeMap, ⟨rfl, fun k => ?entry⟩, ?rights, ?faults,
    ⟨rfl, fun p => ?port⟩⟩
  case transport => decide
  case clock => decide
  case formatter => decide
  case concealer =>
    rw [reset_concealer]
    exact ⟨rfl, rfl⟩
  case repairer =>
    rw [hrepairer]
    decide
  case frames =>
    rw [reset_repairUnit]
    exact ⟨rfl, rfl⟩
  case decoder =>
    rw [reset_decoder]
    exact ⟨rfl, rfl, rfl, rfl, fun tr => congrArg ClogHead.action (reset_head path tr)⟩
  case tapeMap => decide
  case entry =>
    rw [reset_entry]
    decide
  case rights => decide
  case faults =>
    refine ⟨fun k => ?_, rfl, rfl, rfl, rfl, reset_counters, fun p => ?_, reset_head, rfl, rfl, rfl, rfl⟩
    · rw [reset_faultRecord]
      exact ⟨rfl, rfl, rfl, rfl, rfl, rfl⟩
    · rw [reset_snapshot]
      exact reset_counters
  case port =>
    rw [reset_port]
    decide

/-! ## The speed ratio (R25) -/

theorem speedRatio_stalled (h : History) : speedRatio true h = 0 := rfl

theorem speedRatio_running (h : History) :
    speedRatio false h = min 20000 ((160000000 + h.sum) / (2 * h.sum)) := rfl

/-- Rounding to nearest with halves up: `(2a + b) / (2b)` lies within a half of `a / b`. -/
theorem roundedQuotient (n sum : Nat) (hsum : 0 < sum) :
    let q := (2 * n + sum) / (2 * sum)
    2 * q * sum ≤ 2 * n + sum ∧ 2 * n + sum < 2 * (q + 1) * sum := by
  intro q
  have hpos : 0 < 2 * sum := by omega
  have hle : q * (2 * sum) ≤ 2 * n + sum := Nat.div_mul_le_self _ _
  have hlt : 2 * n + sum < (q + 1) * (2 * sum) := (Nat.div_lt_iff_lt_mul hpos).1 (Nat.lt_succ_self q)
  constructor <;> nlinarith

/-- The clamped ratio is the rounded quotient of 80 000 000 by the sum, and 20 000 when that is greater (R25). -/
theorem speedRatio_rounds (h : History) (hsum : 0 < h.sum) :
    let q := speedRatio false h
    q ≤ 20000 ∧ 2 * q * h.sum ≤ 160000000 + h.sum ∧ (q < 20000 → 160000000 + h.sum < 2 * (q + 1) * h.sum) := by
  intro q
  obtain ⟨hle, hlt⟩ := roundedQuotient 80000000 h.sum hsum
  have hq : q = min 20000 ((2 * 80000000 + h.sum) / (2 * h.sum)) := speedRatio_running h
  generalize (2 * 80000000 + h.sum) / (2 * h.sum) = r at hle hlt hq
  refine ⟨by omega, ?_, fun hsmall => ?_⟩
  · calc 2 * q * h.sum ≤ 2 * r * h.sum := Nat.mul_le_mul_right _ (by omega)
      _ ≤ _ := hle
  · obtain rfl : q = r := by omega
    exact hlt

/-- The transport after a tick: only the tick's own part of the work changes it (R22). -/
theorem frameTick_transport (dir : Direction) (us : Nat) (s : State) :
    (frameTick dir us s).transport = s.transport.atTick dir us := by
  rw [← (frameTick_atPre dir us s).transport]
  exact ((atPreDecoder_tickKeep dir us s).rights .pre).transport

theorem afterTransport_transport (t : Transport) (s : State) : (afterTransport t s).transport = s.transport :=
  ((afterTransport_tickKeep t s).rights .pre).transport

theorem stallTimeout_transport (s : State) : (stallTimeout s).transport = s.transport.atStall :=
  afterTransport_transport _ _

/-- Settles O17: the rounding by `speedRatio_rounds`, and both entries into the history by the transport after them. -/
theorem speedRatioRounded : Obligations.SpeedRatioRounded := by
  unfold Obligations.SpeedRatioRounded
  refine ⟨rfl, speedRatio_stalled, fun h hsum => speedRatio_rounds h (by omega), by decide, by decide, by decide,
    by decide, fun dir us s => ⟨_, rfl, ?_⟩, fun s => ⟨_, rfl, ?_⟩⟩
  · rw [frameTick_transport]
    rfl
  · rw [stallTimeout_transport]
    rfl

end Sys2Proof.Machine

namespace Sys2Proof.Machine
open Sys2Proof

-- One theorem at a time: the whole text is also compiled as one, where a thread for each theorem in flight asks for more
-- memory than the check allows.
set_option Elab.async false

/-! ## The conditions of the transport interface, written out (R28, R161) -/

theorem writeWindow_iff (t : Transport) : writeWindow t = true ↔
    t.mode = .record ∧ t.lock = true ∧ t.prot = false ∧ t.stalled = false ∧ t.dir = .forward ∧ 990 ≤ t.ratio ∧
      t.ratio ≤ 1010 := by
  simp [writeWindow, writeSpeed, and_assoc]

theorem inWrite_iff (s : State) : inWrite s = true ↔ s.seq.state = .recording ∨ s.seq.state = .closing := by
  simp [inWrite]

theorem heldEntry_of_held {s : State} {k : Fin 32} (h : s.seq.held = some k) :
    heldEntry s = some (k, s.editList[k]) := by simp [heldEntry, h]

/-! ## The monitor selection found again (R92, R93) -/

/-- The switch, the pending source and the word are all that a change of the source called for brings. -/
theorem reselect_only (s : State) :
    let t := reselect s
    t = { s with
      monitor := { s.monitor with switch := t.monitor.switch, pending := t.monitor.pending }
      rights := { s.rights with word := t.rights.word }
      outputs := { s.outputs with txWorst := t.outputs.txWorst } } := by
  unfold reselect
  simp only
  repeat' split
  all_goals rfl

/-! ## An entry ended by an error (R137, R129) -/

section
variable {s : State} {k : Fin 32}

/-- A give-up of a held entry clears both channels of the blend unit (R89). -/
theorem giveUp_blend_get (h : s.seq.held = some k) (ch : Channel) : (giveUp s).blend.get ch = ⟨0, 0, none, none, false⟩ := by
  rw [giveUp_blend, h]
  cases ch <;> rfl

variable (kind : ErrorKind) (d : ErrorDetail)

theorem recordError_held (ph : Phase) (j : Fin 32) (s : State) : (recordError kind ph j d s).seq.held = s.seq.held := by
  rw [recordError_seq]

theorem failEntry_blend_get {s : State} {j : Fin 32} (h : s.seq.held = some j) (k : Fin 32) (ch : Channel) :
    (failEntry kind d k s).blend.get ch = ⟨0, 0, none, none, false⟩ := by
  unfold failEntry
  refine giveUp_blend_get (k := j) ?_ ch
  show (recordError _ _ _ _ _).seq.held = some j
  rw [recordError_held]
  exact h

/-- SEQ_FAULT is raised (R137). -/
theorem failEntry_event (k : Fin 32) (s : State) (q : Port)
    (hq : EventSet.has (s.ports.get q).report .seqFault = true) :
    EventSet.has ((failEntry kind d k s).ports.get q).events .seqFault = true := by
  have hframe := ((recordError_seqFrame kind .run (nextEntry k) d
    { s with seq := { s.seq with state := .fault, pointer := k } }).trans (clearPending_seqFrame _)).trans
      (giveUp_seqFrame _)
  exact raised_has hframe .seqFault q hq

/-- The sequencer after an error of phase RUN at entry `k`, the first since EDIT START standing (R137, R142). -/
def Sequencer.failed (q : Sequencer) (k : Fin 32) (e : ErrorRecord) : Sequencer :=
  { q with
    state := .fault, pointer := k, held := none, kept := false, holdPending := false, abortPending := false
    error := if q.error.isSome then q.error else some e }

variable {kind} in
theorem failEntry_seq_of_ne (hkind : kind ≠ .unloaded) (k : Fin 32) (s : State) :
    (failEntry kind d k s).seq = s.seq.failed k ⟨kind, .run, k + 1, d, knownAfa s⟩ := by
  rw [failEntry_seq]
  simp only [hkind, ne_eq, not_false_eq_true, and_true]
  rfl

end

/-! ## GATE_OPEN_TEST (R49) -/

section
variable {s : State} {sp : Span}

theorem gateTestDue_of (hclosed : s.formatter.gate = .closed) (hpending : s.formatter.pendingOpen = some sp)
    (hdue : sp.first + 2 ≤ s.transport.tick) : gateTestDue s = true := by
  simp [gateTestDue, hclosed, hpending, hdue]

theorem gateTest_opens (hdue : gateTestDue s = true) (hpending : s.formatter.pendingOpen = some sp)
    (hgo : s.formatter.writeEnable = true ∧ writeWindow s.transport = true) : gateTest s = openGate sp s := by
  unfold gateTest
  rw [if_pos hdue]
  simp only [hpending, hgo, Bool.and_self, if_true]

theorem gateTest_refuses (hdue : gateTestDue s = true) (hpending : s.formatter.pendingOpen = some sp)
    (hnot : ¬ (s.formatter.writeEnable = true ∧ writeWindow s.transport = true)) : gateTest s = refuseOpen s := by
  unfold gateTest
  rw [if_pos hdue]
  simp only [hpending]
  exact if_neg (by simpa using hnot)

theorem openGate_formatter (sp : Span) (s : State) : (openGate sp s).formatter =
    { s.formatter with
      gate := .opened, pendingOpen := none, openSpan := some sp
      sending := s.formatter.ready.map fun f => (f, .a), ready := none } := by
  unfold openGate
  rw [reselect_formatter]
  rfl

theorem openGate_event (sp : Span) (s : State) (q : Port)
    (hq : EventSet.has (s.ports.get q).report .gateOpened = true) :
    EventSet.has ((openGate sp s).ports.get q).events .gateOpened = true := by
  unfold openGate
  refine (((reselect_seqFrame _).ports q).grows _ ?_)
  rw [raiseEvent_port]
  exact notice_has _ _ hq

/-- What an open of the gate changes. -/
theorem openGate_only (sp : Span) (s : State) :
    let u := openGate sp s
    u = { s with
      ports := u.ports, formatter := u.formatter
      monitor := { s.monitor with switch := u.monitor.switch, pending := u.monitor.pending }
      rights := { s.rights with word := u.rights.word }
      outputs := { s.outputs with txWorst := u.outputs.txWorst } } := by
  unfold openGate
  have h := reselect_only (raiseEvent .gateOpened
    { s with formatter := { s.formatter with
        gate := .opened, pendingOpen := none, openSpan := some sp
        sending := s.formatter.ready.map fun f => (f, .a), ready := none } })
  simp only at h ⊢
  generalize reselect _ = w at h ⊢
  rw [h]
  rfl

/-- The pending open and the built frame discarded (R49). -/
def discardOpen (s : State) : State :=
  { s with formatter := { s.formatter with
      pendingOpen := none, closePoint := none, build := none, ready := none, run := none } }

/-- A refusal ends an entry that the sequencer writes (R129). -/
theorem seqRefused_eq {u : State} {k : Fin 32} (hheld : u.seq.held = some k) (hwrite : inWrite u = true)
    (kind : ErrorKind) (d : ErrorDetail) : seqRefused kind d u = failEntry kind d k (cutRequest u) := by
  unfold seqRefused
  simp only [heldEntry_of_held hheld, hwrite, if_true]

theorem refuseOpen_eq {k : Fin 32} (hheld : s.seq.held = some k) (hwrite : inWrite s = true) : refuseOpen s =
    failEntry (openRefusal s).1 (openRefusal s).2 k (cutRequest (discardOpen s)) :=
  seqRefused_eq (u := discardOpen s) hheld hwrite _ _

theorem openRefusal_ne_unloaded (s : State) : (openRefusal s).1 ≠ .unloaded := by
  unfold openRefusal
  repeat' split
  all_goals simp

/-- The error of a refused open: the first cause that applies (R49, R129). -/
theorem openRefusal_record (s : State) (k : Fin 32) (a : Option Afa) :
    (⟨(openRefusal s).1, .run, k, (openRefusal s).2, a⟩ : ErrorRecord) =
      if s.formatter.writeEnable = false then ⟨.writeOff, .run, k, .absent, a⟩
      else if s.transport.prot then ⟨.tapeProtected, .run, k, .absent, a⟩
      else if s.transport.mode ≠ .record then ⟨.transport, .run, k, .notRecord, a⟩
      else if s.transport.lock = false then ⟨.transport, .run, k, .noLock, a⟩
      else ⟨.transport, .run, k, .speed, a⟩ := by
  unfold openRefusal
  repeat' split
  all_goals rfl

end

/-- Settles O42: the test opens the gate (`openGate`) just under the conditions of R49, and else refuses the open
(`refuseOpen`), which ends the entry as a forced close does. -/
theorem gateOpensOrRefuses : Obligations.GateOpensOrRefuses := by
  unfold Obligations.GateOpensOrRefuses
  intro s sp hclosed hpending htime t speed permitted
  have hdue := gateTestDue_of hclosed hpending htime
  have hpermitted : permitted ↔ s.formatter.writeEnable = true ∧ writeWindow s.transport = true := by
    rw [writeWindow_iff]
    show (_ ∧ _) ↔ _
    tauto
  refine ⟨fun hgo => ⟨gateTest s, rfl, ?_⟩, fun hnot k hheld hstate => ⟨gateTest s, rfl, ?_⟩⟩
  · rw [gateTest_opens hdue hpending (hpermitted.1 hgo)]
    exact ⟨openGate_formatter sp s, openGate_event sp s, openGate_only sp s⟩
  · have hwrite : inWrite s = true := (inWrite_iff s).2 hstate
    rw [gateTest_refuses hdue hpending (mt hpermitted.2 hnot), refuseOpen_eq hheld hwrite]
    generalize hr : (openRefusal s).1 = kind
    generalize hd : (openRefusal s).2 = d
    have hkind : kind ≠ .unloaded := hr ▸ openRefusal_ne_unloaded s
    have hrecord := openRefusal_record s (k + 1) (knownAfa s)
    rw [hr, hd] at hrecord
    have hwalk := (failEntry_walkFrame kind d k (cutRequest (discardOpen s))).formatter
    have hframe := failEntry_seqFrame kind d k (cutRequest (discardOpen s))
    have hblend := failEntry_blend_get kind d (s := cutRequest (discardOpen s)) hheld k
    refine ⟨by rw [hwalk]; exact hclosed, by rw [hwalk]; rfl, by rw [hwalk]; rfl, by rw [hwalk]; rfl,
      by rw [hwalk]; rfl, by rw [hwalk]; rfl, ?_, hblend, failEntry_event kind d k (cutRequest (discardOpen s)),
      by rw [hwalk]; rfl, by rw [hwalk]; rfl, hframe.state_eq⟩
    rw [failEntry_seq_of_ne d hkind]
    exact congrArg (s.seq.failed k) hrecord

end Sys2Proof.Machine

namespace Sys2Proof.Machine
open Sys2Proof

-- One theorem at a time: the whole text is also compiled as one, where a thread for each theorem in flight asks for more
-- memory than the check allows.
set_option Elab.async false

/-! ## A take from the input FIFO (R39) -/

/-- What a take gives: nothing while PRIMING, else the oldest pair, or the held pair again. -/
def takenPair (s : State) : Option Pair :=
  if s.formatter.fifoState = .priming then none else some (s.formatter.fifo.headD s.formatter.heldPair)

theorem takePair_snd (s : State) : (takePair s).2 = takenPair s := by
  unfold takePair takenPair
  cases hf : s.formatter.fifoState with
  | priming => simp [hf]
  | running => cases hq : s.formatter.fifo <;> simp [hf, hq]

theorem takePair_priming {s : State} (h : s.formatter.fifoState = .priming) : (takePair s).1 = s := by
  simp [takePair, h]

theorem takePair_cons {s : State} {x : Pair} {rest : List Pair} (h : s.formatter.fifoState = .running)
    (hq : s.formatter.fifo = x :: rest) :
    (takePair s).1 = { s with formatter := { s.formatter with fifo := rest, heldPair := x } } := by
  simp [takePair, h, hq]

theorem takePair_nil {s : State} (h : s.formatter.fifoState = .running) (hq : s.formatter.fifo = []) :
    (takePair s).1 = countSlip s := by
  simp [takePair, h, hq]

/-- The FIFO, the held pair and the slips are all that a take changes. -/
theorem takePair_only (s : State) :
    let u := (takePair s).1
    u = { s with
      formatter := { s.formatter with fifo := u.formatter.fifo, heldPair := u.formatter.heldPair }
      faults := { s.faults with counters := { s.faults.counters with slip := u.faults.counters.slip } } } := by
  cases h : s.formatter.fifoState with
  | priming => rw [takePair_priming h]
  | running =>
    cases hq : s.formatter.fifo with
    | nil => rw [takePair_nil h hq]; rfl
    | cons x rest => rw [takePair_cons h hq]

/-! ## A blended sample (R86 to R88) -/

section
variable (c : BlendChannel)

/-- The weight of a channel's next blended sample: a running fade's at its position, its target once no samples are left. -/
def BlendChannel.nextWeight : Nat :=
  match c.running with
  | some f => if f.live then fadeWeight f else f.dir.target
  | none => c.weight

/-- The fade that the next blended sample belongs to. -/
def BlendChannel.nextFade : Option FadeDir := c.running.bind fun f => if f.live then some f.dir else none

/-- The channel after its next blended sample. -/
def BlendChannel.sampled : BlendChannel :=
  match c.running with
  | some f => { c with
      weight := c.nextWeight, last := c.nextWeight
      running := if f.live then some { f with pos := f.pos + 1 } else none }
  | none => { c with last := c.weight }

theorem BlendChannel.sample_eq (o v : Sample) (m : Mark) : c.sample o v m =
    (c.sampled, ⟨blendValue o v c.nextWeight, o, c.nextWeight, m, c.nextFade⟩) := by
  unfold BlendChannel.sample BlendChannel.sampled BlendChannel.nextFade BlendChannel.nextWeight
  cases c.running with
  | none => rfl
  | some f => cases hl : f.live <;> simp [hl]

end

/-! ## The work of a pair period -/

section
variable (n : Nat) (s : State)

/-- What the left new-path concealer makes of the take (R40). -/
def newLeft : Concealer × Sample := s.formatter.concealL.step s.settings ((takenPair s).map (·.l))

/-- What the right new-path concealer makes of the take. -/
def newRight : Concealer × Sample := s.formatter.concealR.step s.settings ((takenPair s).map (·.r))

/-- What a path's channel repairer gives (R76). -/
def preLeft : Given := s.preRepair.giveLeft s.settings (repairInRange s) n
def preRight : Given := s.preRepair.giveRight s.settings (repairInRange s) n
def confLeft : Given := s.confRepair.giveLeft s.settings (repairInRange s) n
def confRight : Given := s.confRepair.giveRight s.settings (repairInRange s) n

/-- The new value that goes into the blend, 0 under silence (R90). -/
def blendedNew (v : Sample) : Sample := if s.blend.silence then 0 else v

/-- The next blended sample of each channel, with the channel after it (R86). -/
def blendLeft : BlendChannel × PlacedSample :=
  s.blend.left.sample (preLeft n s).value (blendedNew s (newLeft s).2) (preLeft n s).mark
def blendRight : BlendChannel × PlacedSample :=
  s.blend.right.sample (preRight n s).value (blendedNew s (newRight s).2) (preRight n s).mark

/-- The blended pair (R86). -/
def blendedPair : PlacedPair := ⟨(blendLeft n s).2, (blendRight n s).2⟩

/-- The pair at the outputs before scaling (R92, R93). -/
def heardPair : Pair :=
  outputPair s.monitor ⟨(preLeft n s).value, (preRight n s).value⟩ ⟨(confLeft n s).value, (confRight n s).value⟩
    ⟨(blendedPair n s).l.value, (blendedPair n s).r.value⟩ ⟨(newLeft s).2, (newRight s).2⟩

/-- The counters of both paths with the marks of the pair (R84), and the slips as they stand after the take. -/
def pairCounters (slip : Word32) : Counters :=
  { s.faults.counters with
    slip := slip
    pre := s.faults.counters.pre.pair (repairInRange s && s.preRepair.output.completed) (preLeft n s) (preRight n s)
    conf := s.faults.counters.conf.pair (repairInRange s && s.confRepair.output.completed) (confLeft n s)
      (confRight n s) }

/-- The state after the work of pair period `n`, but for the frame under construction. -/
def pairGiven : State :=
  let u := (takePair s).1
  { s with
    formatter := { s.formatter with
      fifo := u.formatter.fifo, heldPair := u.formatter.heldPair, concealL := (newLeft s).1
      concealR := (newRight s).1 }
    preRepair := { s.preRepair with left := (preLeft n s).rep, right := (preRight n s).rep }
    confRepair := { s.confRepair with left := (confLeft n s).rep, right := (confRight n s).rep }
    blend := { s.blend with
      left := (blendLeft n s).1, right := (blendRight n s).1
      lastFade := if isOutSample (blendedPair n s).l || isOutSample (blendedPair n s).r then some (blendedFrame s)
        else s.blend.lastFade }
    monitor := s.monitor.advance
    outputs := { s.outputs with
      left := output24 (heardPair n s).l, right := output24 (heardPair n s).r, txPairs := s.outputs.txPairs + 1 }
    faults := { s.faults with counters := pairCounters n s u.faults.counters.slip }
    clock := { s.clock with next := n + 1 } }

theorem pairWork_eq : pairWork n s = placePair n (blendedPair n s) (pairGiven n s) := by
  have htake := takePair_only s
  have htaken := takePair_snd s
  unfold pairWork pairGiven blendedPair heardPair blendedPair blendLeft blendRight newLeft newRight
  rw [← htaken]
  simp only at htake ⊢
  generalize takePair s = p at htake ⊢
  obtain ⟨u, x⟩ := p
  simp only at htake ⊢
  rw [htake]
  rfl

end

/-- The frame under construction takes the pair whose index is the number of pairs placed (R43). -/
theorem placePair_placed {n : Nat} {s : State} {b : Build} (p : PlacedPair) (hb : s.formatter.build = some b)
    (hn : n = b.placed.length ∧ n < pairsPerFrame b.rate) :
    (placePair n p s).formatter.build = some { b with placed := b.placed ++ [p] } := by
  unfold placePair
  simp only [hb]
  rw [if_pos hn]

theorem placePair_not_placed {n : Nat} {s : State} {b : Build} (p : PlacedPair) (hb : s.formatter.build = some b)
    (hn : n ≠ b.placed.length ∨ pairsPerFrame b.rate ≤ n) : placePair n p s = s := by
  unfold placePair
  simp only [hb]
  exact if_neg (by omega)

theorem placePair_none {n : Nat} {s : State} (p : PlacedPair) (hb : s.formatter.build = none) :
    placePair n p s = s := by
  unfold placePair
  simp only [hb]

/-- The frame under construction is all that a placed pair changes. -/
theorem placePair_only (n : Nat) (p : PlacedPair) (s : State) :
    placePair n p s =
      { s with formatter := { s.formatter with build := (placePair n p s).formatter.build } } := by
  unfold placePair
  repeat' split
  all_goals rfl

/-- The marks of a pair at the counters of its path (R84). -/
theorem PathCounters.pair_eq (k : PathCounters) (on : Bool) (l r : Given) : k.pair on l r =
    if on then { k with
      interpolated := k.interpolated + ((if l.mark = .interpolated then 1 else 0) +
        (if r.mark = .interpolated then 1 else 0))
      held := k.held + ((if l.mark = .held then 1 else 0) + (if r.mark = .held then 1 else 0))
      muted := k.muted + ((if l.mark = .muted then 1 else 0) + (if r.mark = .muted then 1 else 0)) }
    else k := by
  unfold PathCounters.pair PathCounters.mark
  cases l.mark <;> cases r.mark <;> simp [BitVec.add_assoc]

/-! ### The pair at the outputs (R92 to R94) -/

theorem outputPair_of_none {m : Monitor} (h : m.switch = none) (pre conf blend new : Pair) :
    outputPair m pre conf blend new = sourcePair pre conf blend new m.source := by
  simp [outputPair, h]

theorem outputPair_of_switch {m : Monitor} {w : MonitorSwitch} (h : m.switch = some w) (hw : w.pos < 64)
    (pre conf blend new : Pair) : outputPair m pre conf blend new =
      ⟨blendValue (sourcePair pre conf blend new w.src).l (sourcePair pre conf blend new w.dst).l (w.pos * 64),
        blendValue (sourcePair pre conf blend new w.src).r (sourcePair pre conf blend new w.dst).r (w.pos * 64)⟩ := by
  simp [outputPair, h, hw]

/-- A LIVE concealer gives the pair taken (R40). -/
theorem step_live {c : Concealer} (h : c.state = .live) (set : RepairSettings) (x : Sample) :
    (c.step set (some x)).2 = x := by
  simp [Concealer.step, h, Concealer.give]

theorem isOutSample_iff (x : PlacedSample) : isOutSample x = true ↔ x.fade = some .fadeOut := by
  simp [isOutSample]

/-! ### The pair period with no other step due -/

section
variable {s : State}

theorem nextPairIndex_none {c : SampleClock} (hf : c.following = true) (hn : pairsPerFrame c.rate ≤ c.next) :
    nextPairIndex c = none := by
  simp [nextPairIndex, hf, hn]

theorem nextPairIndex_some {c : SampleClock} {n : Nat} (h : (n = c.next ∧ n < pairsPerFrame c.rate) ∨
    (n = 0 ∧ c.following = false ∧ pairsPerFrame c.rate ≤ c.next)) : nextPairIndex c = some n := by
  rcases h with ⟨rfl, hlt⟩ | ⟨rfl, hf, hle⟩
  · simp [nextPairIndex, hlt]
  · simp [nextPairIndex, hf, hle]

theorem pairPeriod_of_exhausted (h : settleDue s = s) (hnext : nextPairIndex s.clock = none) : pairPeriod s = s := by
  unfold pairPeriod
  rw [h]
  simp only [hnext]

theorem pairPeriod_of_next {n : Nat} (h : settleDue s = s) (hnext : nextPairIndex s.clock = some n) :
    pairPeriod s = pairWork n s := by
  unfold pairPeriod
  rw [h]
  simp only [hnext]

end

/-! ### What the work of a pair period leaves, field by field -/

section
variable (n : Nat) (s : State)

/-- But for the frame under construction, the work of a pair period gives `pairGiven`. -/
theorem pairWork_only : pairWork n s = { pairGiven n s with
    formatter := { (pairGiven n s).formatter with build := (pairWork n s).formatter.build } } := by
  have h := placePair_only n (blendedPair n s) (pairGiven n s)
  rwa [← pairWork_eq] at h

theorem pairWork_fifo : (pairWork n s).formatter.fifo = (takePair s).1.formatter.fifo := by
  rw [pairWork_only]
  rfl

theorem pairWork_heldPair : (pairWork n s).formatter.heldPair = (takePair s).1.formatter.heldPair := by
  rw [pairWork_only]
  rfl

theorem pairWork_counters :
    (pairWork n s).faults.counters = pairCounters n s (takePair s).1.faults.counters.slip := by
  rw [pairWork_only]
  rfl

theorem pairWork_slip : (pairWork n s).faults.counters.slip = (takePair s).1.faults.counters.slip := by
  rw [pairWork_counters]
  rfl

theorem pairWork_left : (pairWork n s).outputs.left = (heardPair n s).l * 16 := by
  rw [pairWork_only]
  rfl

theorem pairWork_right : (pairWork n s).outputs.right = (heardPair n s).r * 16 := by
  rw [pairWork_only]
  rfl

theorem pairWork_monitor : (pairWork n s).monitor = s.monitor.advance := by
  rw [pairWork_only]
  rfl

/-- The four pairs among which the monitor selects (R92). -/
def pairOf : OutputSource → Pair :=
  sourcePair ⟨(preLeft n s).value, (preRight n s).value⟩ ⟨(confLeft n s).value, (confRight n s).value⟩
    ⟨(blendedPair n s).l.value, (blendedPair n s).r.value⟩ ⟨(newLeft s).2, (newRight s).2⟩

variable {n s} in
theorem heardPair_of_none (h : s.monitor.switch = none) : heardPair n s = pairOf n s s.monitor.source :=
  outputPair_of_none h _ _ _ _

variable {n s} in
theorem heardPair_of_switch {w : MonitorSwitch} (h : s.monitor.switch = some w) (hw : w.pos < 64) : heardPair n s =
    ⟨blendValue (pairOf n s w.src).l (pairOf n s w.dst).l (w.pos * 64),
      blendValue (pairOf n s w.src).r (pairOf n s w.dst).r (w.pos * 64)⟩ :=
  outputPair_of_switch h hw _ _ _ _

/-- The blended pair by the weights and fades of the two channels. -/
theorem blendedPair_eq : blendedPair n s =
    ⟨⟨blendValue (preLeft n s).value (blendedNew s (newLeft s).2) s.blend.left.nextWeight, (preLeft n s).value,
        s.blend.left.nextWeight, (preLeft n s).mark, s.blend.left.nextFade⟩,
      ⟨blendValue (preRight n s).value (blendedNew s (newRight s).2) s.blend.right.nextWeight, (preRight n s).value,
        s.blend.right.nextWeight, (preRight n s).mark, s.blend.right.nextFade⟩⟩ := by
  unfold blendedPair blendLeft blendRight
  rw [BlendChannel.sample_eq, BlendChannel.sample_eq]

theorem pairWork_blendLeft : (pairWork n s).blend.left = s.blend.left.sampled := by
  rw [pairWork_only]
  exact congrArg Prod.fst (BlendChannel.sample_eq _ _ _ _)

theorem pairWork_blendRight : (pairWork n s).blend.right = s.blend.right.sampled := by
  rw [pairWork_only]
  exact congrArg Prod.fst (BlendChannel.sample_eq _ _ _ _)

theorem pairWork_lastFade : (pairWork n s).blend.lastFade =
    if s.blend.left.nextFade = some .fadeOut ∨ s.blend.right.nextFade = some .fadeOut then some (s.transport.tick - 1)
    else s.blend.lastFade := by
  have hlast : (pairWork n s).blend.lastFade =
      if isOutSample (blendedPair n s).l || isOutSample (blendedPair n s).r then some (blendedFrame s)
      else s.blend.lastFade := by
    rw [pairWork_only]
    rfl
  rw [hlast, blendedPair_eq]
  simp only [Bool.or_eq_true, isOutSample_iff]
  rfl

variable {n s} in
theorem pairWork_build_placed {b : Build} (hb : s.formatter.build = some b) (hlen : n = b.placed.length)
    (hlt : n < pairsPerFrame b.rate) :
    (pairWork n s).formatter.build = some { b with placed := b.placed ++ [blendedPair n s] } := by
  rw [pairWork_eq]
  exact placePair_placed _ (s := pairGiven n s) hb ⟨hlen, hlt⟩

variable {n s} in
theorem pairWork_build_kept {b : Build} (hb : s.formatter.build = some b)
    (hnot : n ≠ b.placed.length ∨ pairsPerFrame b.rate ≤ n) : (pairWork n s).formatter.build = some b := by
  rw [pairWork_eq, placePair_not_placed _ (s := pairGiven n s) hb hnot]
  exact hb

variable {n s} in
theorem pairWork_build_none (hb : s.formatter.build = none) : (pairWork n s).formatter.build = none := by
  rw [pairWork_eq, placePair_none _ (s := pairGiven n s) hb]
  exact hb

end

/-- Settles O34: the work of the pair period is `pairGiven` with the blended pair placed (`pairWork_eq`); each clause is
one of its fields, by the case of the take, of the frame under construction or of the monitor selection. -/
theorem pairPeriodWorks : Obligations.PairPeriodWorks := by
  unfold Obligations.PairPeriodWorks
  intro s hsettled
  refine ⟨fun hf hn => ?_, fun n hn => ⟨pairWork n s, ?_, ?clock, ?txPairs, ?concealers, ?repairers, ?priming,
    fun x rest hrun hq => ?taken, fun hrun hq => ?missing, fun hswitch hsource => ?pre, ?blend, ?frame⟩⟩
  · exact congrArg _ (pairPeriod_of_exhausted hsettled (nextPairIndex_none hf hn))
  · exact congrArg _ (pairPeriod_of_next hsettled (nextPairIndex_some hn))
  case clock => rw [pairWork_only]; rfl
  case txPairs => rw [pairWork_only]; rfl
  case concealers => rw [pairWork_only]; exact ⟨rfl, rfl⟩
  case repairers => rw [pairWork_only]; exact ⟨rfl, rfl, rfl, rfl⟩
  case priming =>
    intro hpriming
    rw [pairWork_fifo, pairWork_heldPair, pairWork_slip, takePair_priming hpriming]
    exact ⟨rfl, rfl, rfl⟩
  case taken =>
    have htaken : takenPair s = some x := by simp [takenPair, hrun, hq]
    refine ⟨by rw [pairWork_fifo, takePair_cons hrun hq], by rw [pairWork_heldPair, takePair_cons hrun hq],
      by rw [pairWork_slip, takePair_cons hrun hq], fun hswitch hsource hlive hlive' => ?_⟩
    rw [pairWork_left, pairWork_right, heardPair_of_none hswitch, hsource]
    show (newLeft s).2 * 16 = _ ∧ (newRight s).2 * 16 = _
    rw [newLeft, newRight, htaken, Option.map_some, Option.map_some, step_live hlive, step_live hlive']
    exact ⟨rfl, rfl⟩
  case missing =>
    rw [pairWork_fifo, pairWork_heldPair, pairWork_slip, takePair_nil hrun hq]
    exact ⟨hq, rfl, rfl⟩
  case pre =>
    rw [pairWork_left, pairWork_right, heardPair_of_none hswitch, hsource]
    exact ⟨rfl, rfl⟩
  case blend =>
    intro taken nl nr pl pr ql qr mix weight fade after new bl br pair counted
    have hweight : ∀ c, weight c = c.nextWeight := fun c => by
      show (match c.running with | none => _ | some ⟨.fadeIn, len, k⟩ => _ | some ⟨.fadeOut, len, k⟩ => _) = _
      unfold BlendChannel.nextWeight
      rcases c.running with _ | ⟨_ | _, len, k⟩ <;> simp [Fade.live, fadeWeight, fadeStep, FadeDir.target]
    have hfade : ∀ c, fade c = c.nextFade := fun c => by
      show (match c.running with | some ⟨dir, len, k⟩ => _ | none => _) = _
      unfold BlendChannel.nextFade
      rcases c.running with _ | ⟨dir, len, k⟩ <;> simp [Fade.live]
    have hafter : ∀ c, after c = c.sampled := fun c => by
      show (match c.running with | none => _ | some ⟨dir, len, k⟩ => _) = _
      rw [hweight]
      unfold BlendChannel.sampled
      rcases c.running with _ | ⟨dir, len, k⟩ <;> simp [Fade.live]
    have hcounted : ∀ k on l r, counted k on l.mark r.mark = k.pair on l r :=
      fun k on l r => (PathCounters.pair_eq k on l r).symm
    clear_value after fade weight counted
    obtain rfl : after = BlendChannel.sampled := funext hafter
    obtain rfl : fade = BlendChannel.nextFade := funext hfade
    obtain rfl : weight = BlendChannel.nextWeight := funext hweight
    have hblended : blendedPair n s = ⟨⟨bl, pl.value, s.blend.left.nextWeight, pl.mark, s.blend.left.nextFade⟩,
        ⟨br, pr.value, s.blend.right.nextWeight, pr.mark, s.blend.right.nextFade⟩⟩ := blendedPair_eq n s
    have hpair : ∀ o, pair o = ((pairOf n s o).l, (pairOf n s o).r) := fun o => by
      have hb : pair .blend = ((blendedPair n s).l.value, (blendedPair n s).r.value) := by rw [hblended]
      cases o
      case blend => exact hb
      all_goals rfl
    refine ⟨fun b hb hlen hlt => ?_, fun b hb hnot => pairWork_build_kept hb hnot, pairWork_build_none,
      pairWork_blendLeft n s, pairWork_blendRight n s, pairWork_lastFade n s, fun hswitch => ?_,
      fun w hswitch hw => ?_, ?_, ?_, ?_⟩
    · rw [pairWork_build_placed hb hlen hlt, hblended]
    · rw [pairWork_monitor, pairWork_left, pairWork_right, heardPair_of_none hswitch, hpair]
      exact ⟨congrArg (Option.map _) hswitch, rfl, rfl⟩
    · rw [pairWork_monitor, pairWork_left, pairWork_right, heardPair_of_switch hswitch hw, hpair, hpair]
      exact ⟨congrArg (Option.map _) hswitch, rfl, rfl⟩
    · rw [hcounted, pairWork_counters]
      rfl
    · rw [hcounted, pairWork_counters]
      rfl
    · rw [pairWork_counters]
      rfl
  case frame =>
    have honly := pairWork_only n s
    generalize pairWork n s = t at honly ⊢
    rw [honly]
    rfl

end Sys2Proof.Machine

namespace Sys2Proof.Machine
open Sys2Proof

-- One theorem at a time: the whole text is also compiled as one, where a thread for each theorem in flight asks for more
-- memory than the check allows.
set_option Elab.async false

/-! ## The nearest entry of the program index (R108) -/

section
variable (e : IndexEntry) (a : Afa)

theorem IndexEntry.dist_eq : e.dist a = (e.start - a) + (a - e.start) := by
  unfold IndexEntry.dist
  split <;> grind

theorem IndexEntry.dist_le_two_iff : e.dist a ≤ 2 ↔ e.start ≤ a + 2 ∧ a ≤ e.start + 2 := by
  rw [IndexEntry.dist_eq]
  grind

end

/-- An index in the order of its starts (R106). -/
def Rising (ix : List IndexEntry) : Prop := ix.Pairwise fun x y => x.start < y.start

section
variable {ix : List IndexEntry} {e : IndexEntry} {a : Afa}

/-- In a rising index the first entry with a property is the one of the lowest start. -/
theorem Rising.find?_eq (h : Rising ix) {p : IndexEntry → Bool} (he : e ∈ ix) (hp : p e = true)
    (hlow : ∀ o ∈ ix, p o = true → e.start ≤ o.start) : ix.find? p = some e := by
  cases hf : ix.find? p with
  | none => exact absurd hp (by simpa using List.find?_eq_none.mp hf e he)
  | some f =>
    obtain ⟨hpf, as, bs, rfl, has⟩ := List.find?_eq_some_iff_append.mp hf
    have hbs := (List.pairwise_cons.mp (List.pairwise_append.mp h).2.1).1
    rcases List.mem_append.mp he with hin | hin
    · exact absurd hp (by simpa using has e hin)
    · rcases List.mem_cons.mp hin with rfl | hin
      · rfl
      · exact absurd (hbs e hin) (not_lt.mpr (hlow f (by simp) hpf))

/-- In a rising index an entry is known by its start. -/
theorem Rising.eq_of_start (h : Rising ix) {o : IndexEntry} (he : e ∈ ix) (ho : o ∈ ix) (hs : o.start = e.start) :
    o = e := by
  have hfound := fun x (hx : x ∈ ix) (hxs : x.start = e.start) =>
    h.find?_eq (p := fun y => y.start == e.start) hx (by simpa using hxs) fun y _ hy => by
      have hys : y.start = e.start := by simpa using hy
      exact (hxs.trans hys.symm).le
  exact Option.some.inj ((hfound o ho hs).symm.trans (hfound e he rfl))

theorem nearestEntry_eq_none (hfar : ∀ o ∈ ix, ¬ (o.start ≤ a + 2 ∧ a ≤ o.start + 2)) : nearestEntry ix a = none := by
  have hnone : ∀ d ≤ 2, ix.find? (fun o => o.dist a == d) = none := fun d hd => List.find?_eq_none.mpr fun o ho hod => by
    have : o.dist a = d := by simpa using hod
    exact hfar o ho ((o.dist_le_two_iff a).mp (by omega))
  simp [nearestEntry, hnone]

/-- The nearest entry within 2, of two equally near the lower, is the one found (R108). -/
theorem Rising.nearestEntry_eq (h : Rising ix) (he : e ∈ ix) (hnear : e.start ≤ a + 2 ∧ a ≤ e.start + 2)
    (hleast : ∀ o ∈ ix, e.dist a < o.dist a ∨ (e.dist a = o.dist a ∧ e.start ≤ o.start)) :
    nearestEntry ix a = some e := by
  have hle := (e.dist_le_two_iff a).mpr hnear
  have hfound : ix.find? (fun o => o.dist a == e.dist a) = some e :=
    h.find?_eq he (by simp) fun o ho hod => by
      have : o.dist a = e.dist a := by simpa using hod
      rcases hleast o ho with hlt | ⟨-, hlow⟩
      · omega
      · exact hlow
  have hbelow : ∀ d < e.dist a, ix.find? (fun o => o.dist a == d) = none := fun d hd =>
    List.find?_eq_none.mpr fun o ho hod => by
      have : o.dist a = d := by simpa using hod
      rcases hleast o ho with hlt | ⟨heq, -⟩ <;> omega
  unfold nearestEntry
  interval_cases hd : e.dist a
  · simp [hfound]
  · simp [hfound, hbelow]
  · simp [hfound, hbelow]

theorem nearestEntry_mem (h : nearestEntry ix a = some e) : e ∈ ix ∧ (e.start ≤ a + 2 ∧ a ≤ e.start + 2) := by
  have hfound : ∀ d ≤ 2, ix.find? (fun o => o.dist a == d) = some e → e ∈ ix ∧ (e.start ≤ a + 2 ∧ a ≤ e.start + 2) :=
    fun d hd hf => by
      have hdist : e.dist a = d := by simpa using List.find?_some hf
      exact ⟨List.mem_of_find?_eq_some hf, (e.dist_le_two_iff a).mp (by omega)⟩
  unfold nearestEntry at h
  split at h
  · next hf => exact hfound 0 (by omega) (hf.trans h)
  · split at h
    · next hf => exact hfound 1 (by omega) (hf.trans h)
    · exact hfound 2 (by omega) h

theorem nearestEntry_far (h : nearestEntry ix a = none) : ∀ o ∈ ix, ¬ (o.start ≤ a + 2 ∧ a ≤ o.start + 2) := by
  intro o ho hnear
  have hle := (o.dist_le_two_iff a).mpr hnear
  unfold nearestEntry at h
  split at h
  · cases h
  · next h0 =>
    split at h
    · cases h
    · next h1 =>
      have h0 := List.find?_eq_none.mp h0 o ho
      have h1 := List.find?_eq_none.mp h1 o ho
      have h2 := List.find?_eq_none.mp h o ho
      simp only [beq_iff_eq] at h0 h1 h2
      omega

/-! ### Insertion and rewriting -/

theorem mem_insertOrdered {o : IndexEntry} : o ∈ insertOrdered e ix ↔ o = e ∨ o ∈ ix := by
  induction ix with
  | nil => simp [insertOrdered]
  | cons x xs ih =>
    unfold insertOrdered
    split
    · simp
    · simp [ih, or_left_comm]

theorem length_insertOrdered (e : IndexEntry) (ix : List IndexEntry) : (insertOrdered e ix).length = ix.length + 1 := by
  induction ix with
  | nil => rfl
  | cons x xs ih =>
    unfold insertOrdered
    split
    · rfl
    · simp [ih]

theorem Rising.insertOrdered (h : Rising ix) (hnew : ∀ o ∈ ix, o.start ≠ e.start) : Rising (insertOrdered e ix) := by
  induction ix with
  | nil => exact List.pairwise_singleton _ _
  | cons x xs ih =>
    obtain ⟨hx, hxs⟩ := List.pairwise_cons.mp h
    unfold Machine.insertOrdered
    split
    · next hlt =>
      refine List.pairwise_cons.mpr ⟨fun o ho => ?_, h⟩
      rcases List.mem_cons.mp ho with rfl | ho
      · exact hlt
      · exact hlt.trans (hx o ho)
    · next hle =>
      refine List.pairwise_cons.mpr ⟨fun o ho => ?_, ih hxs fun o ho => hnew o (List.mem_cons_of_mem _ ho)⟩
      have hne := hnew x (by simp)
      rcases mem_insertOrdered.mp ho with rfl | ho
      · exact lt_of_le_of_ne (not_lt.mp hle) hne
      · exact hx o ho

theorem mem_replaceEntry {o new : IndexEntry} (h : Rising ix) (he : e ∈ ix) :
    o ∈ replaceEntry e.start new ix ↔ o = new ∨ (o ∈ ix ∧ o ≠ e) := by
  unfold replaceEntry
  rw [List.mem_map]
  constructor
  · rintro ⟨x, hx, rfl⟩
    split
    · exact .inl rfl
    · next hne => exact .inr ⟨hx, fun heq => hne (by rw [heq])⟩
  · rintro (rfl | ⟨ho, hne⟩)
    · exact ⟨e, he, if_pos rfl⟩
    · exact ⟨o, ho, if_neg fun hs => hne (h.eq_of_start he ho hs)⟩

theorem Rising.replaceEntry (h : Rising ix) {new : IndexEntry} (hs : new.start = a) :
    Rising (replaceEntry a new ix) := by
  have hstart : ∀ x : IndexEntry, (if x.start = a then new else x).start = x.start := fun x => by
    split
    · next hx => rw [hs, hx]
    · rfl
  refine List.pairwise_map.mpr (h.imp fun {x y} hxy => ?_)
  rwa [hstart, hstart]

theorem length_replaceEntry (a : Afa) (new : IndexEntry) (ix : List IndexEntry) :
    (replaceEntry a new ix).length = ix.length := List.length_map _

end

/-! ## Events of other kinds -/

theorem Event.bit_injective : Function.Injective Event.bit := fun e f h => by
  cases e <;> cases f <;> first | rfl | (exact absurd h (by decide))

theorem single_has_of_ne {e f : Event} (h : f ≠ e) : EventSet.has e.single f = false := by
  have hbit : e.bit ≠ f.bit := fun hb => h (Event.bit_injective hb).symm
  rw [EventSet.has, Event.single, BitVec.getLsbD_ofNat, Nat.testBit_two_pow_of_ne hbit, Bool.and_false]

theorem notice_has_of_ne (c : PortContext) {e f : Event} (h : f ≠ e) :
    EventSet.has (c.notice e).events f = EventSet.has c.events f := by
  have hsingle := single_has_of_ne h
  unfold PortContext.notice
  split
  · simp_all [EventSet.has]
  · rfl

theorem notice_report (c : PortContext) (e : Event) : (c.notice e).report = c.report := by
  rw [(notice_grow c e).rest]

end Sys2Proof.Machine

namespace Sys2Proof.Machine
open Sys2Proof

-- One theorem at a time: the whole text is also compiled as one, where a thread for each theorem in flight asks for more
-- memory than the check allows.
set_option Elab.async false

/-! ## A run from reading, applied to the index (R108) -/

/-- From `s` to `v` the index and its marks alone may change; a changed index counts one and raises INDEX_CHANGED, and no
other event is raised. -/
structure IndexStep (s v : State) : Prop where
  only : v = { s with ports := v.ports, tapeMap := { s.tapeMap with
    index := v.tapeMap.index, indexFull := v.tapeMap.indexFull
    changeCount := if v.tapeMap.index = s.tapeMap.index then s.tapeMap.changeCount else s.tapeMap.changeCount + 1 } }
  quiet : v.tapeMap.index = s.tapeMap.index → v.ports = s.ports
  loud : v.tapeMap.index ≠ s.tapeMap.index → ∀ q, v.ports.get q = (s.ports.get q).notice .indexChanged

theorem IndexStep.refl (s : State) : IndexStep s s := ⟨by rw [if_pos rfl], fun _ => rfl, fun h => absurd rfl h⟩

section
variable {s : State} {ix : List IndexEntry} {e : IndexEntry} {a : Afa} {kind : MarkerKind} {n : Nat}

theorem indexStep_change (h : ix ≠ s.tapeMap.index) : IndexStep s (indexChange (setIndex ix s)) := by
  refine ⟨?_, fun hsame => absurd hsame h, fun _ q => raiseEvent_port _ _ q⟩
  have hne : (indexChange (setIndex ix s)).tapeMap.index ≠ s.tapeMap.index := h
  rw [if_neg hne]
  rfl

theorem insertEntry_of_room (h : s.tapeMap.index.length < 64) :
    insertEntry e s = indexChange (setIndex (insertOrdered e s.tapeMap.index) s) := if_pos h

theorem insertEntry_of_full (h : ¬ s.tapeMap.index.length < 64) :
    insertEntry e s = { s with tapeMap := { s.tapeMap with indexFull := true } } := if_neg h

theorem insertEntry_indexStep (e : IndexEntry) (s : State) : IndexStep s (insertEntry e s) := by
  by_cases hroom : s.tapeMap.index.length < 64
  · rw [insertEntry_of_room hroom]
    refine indexStep_change fun h => ?_
    have := congrArg List.length h
    rw [length_insertOrdered] at this
    omega
  · rw [insertEntry_of_full hroom]
    exact ⟨by dsimp only; rw [if_pos rfl], fun _ => rfl, fun h => absurd rfl h⟩

theorem applyReadRun_of_none (h : nearestEntry s.tapeMap.index a = none) :
    applyReadRun a kind n s = insertEntry ⟨a, kind, n, .read⟩ s := by simp only [applyReadRun, h]

theorem applyReadRun_of_same (h : nearestEntry s.tapeMap.index a = some e) (hk : e.kind = kind) (hn : e.number = n) :
    applyReadRun a kind n s = s := by simp only [applyReadRun, h, hk, hn, and_self, if_true]

theorem applyReadRun_of_other (h : nearestEntry s.tapeMap.index a = some e) (hne : e.kind ≠ kind ∨ e.number ≠ n) :
    applyReadRun a kind n s =
      indexChange (setIndex (replaceEntry e.start ⟨e.start, kind, n, .read⟩ s.tapeMap.index) s) := by
  have hcond : ¬ (e.kind = kind ∧ e.number = n) := fun ⟨hk, hn⟩ => hne.elim (· hk) (· hn)
  simp only [applyReadRun, h, if_neg hcond]

/-- Rewriting an entry of another kind or number changes the index. -/
theorem replaceEntry_ne (h : Rising ix) (he : e ∈ ix) (hne : e.kind ≠ kind ∨ e.number ≠ n) :
    replaceEntry e.start ⟨e.start, kind, n, .read⟩ ix ≠ ix := by
  intro hsame
  have hin : e ∈ replaceEntry e.start ⟨e.start, kind, n, .read⟩ ix := by
    rw [hsame]
    exact he
  rcases (mem_replaceEntry h he).mp hin with heq | ⟨-, hself⟩
  · exact hne.elim (· (congrArg IndexEntry.kind heq)) (· (congrArg IndexEntry.number heq))
  · exact hself rfl

theorem applyReadRun_indexStep (h : indexHeld s) (a : Afa) (kind : MarkerKind) (n : Nat) :
    IndexStep s (applyReadRun a kind n s) := by
  cases hnear : nearestEntry s.tapeMap.index a with
  | none =>
    rw [applyReadRun_of_none hnear]
    exact insertEntry_indexStep _ s
  | some e =>
    by_cases hsame : e.kind = kind ∧ e.number = n
    · rw [applyReadRun_of_same hnear hsame.1 hsame.2]
      exact .refl s
    · have hne : e.kind ≠ kind ∨ e.number ≠ n := not_and_or.mp hsame
      rw [applyReadRun_of_other hnear hne]
      exact indexStep_change (replaceEntry_ne h.2 (nearestEntry_mem hnear).1 hne)

/-- The index keeps its order and its length through a run applied to it. -/
theorem applyReadRun_indexHeld (h : indexHeld s) (a : Afa) (kind : MarkerKind) (n : Nat) :
    indexHeld (applyReadRun a kind n s) := by
  cases hnear : nearestEntry s.tapeMap.index a with
  | none =>
    rw [applyReadRun_of_none hnear]
    by_cases hroom : s.tapeMap.index.length < 64
    · rw [insertEntry_of_room hroom]
      refine ⟨?_, Rising.insertOrdered h.2 fun o ho hs => nearestEntry_far hnear o ho ?_⟩
      · show (insertOrdered _ _).length ≤ 64
        rw [length_insertOrdered]
        omega
      · have hs : o.start = a := hs
        rw [hs]
        exact ⟨Nat.le_add_right _ _, Nat.le_add_right _ _⟩
    · rw [insertEntry_of_full hroom]
      exact h
  | some e =>
    by_cases hsame : e.kind = kind ∧ e.number = n
    · rwa [applyReadRun_of_same hnear hsame.1 hsame.2]
    · rw [applyReadRun_of_other hnear (not_and_or.mp hsame)]
      refine ⟨?_, Rising.replaceEntry h.2 rfl⟩
      show (replaceEntry _ _ _).length ≤ 64
      rw [length_replaceEntry]
      exact h.1

end

/-! ## The marker debounce (R107, R109) -/

section
variable {d : Debounce} {kind : MarkerKind} {number : Nat} {start : Afa} {i : Nat} {dir : Direction}

theorem Debounce.continues_iff : d.continues kind number start i dir = true ↔
    d.kind = kind ∧ d.number = number ∧ d.start = start ∧
      match dir with | .forward => i = d.lastIndex + 1 | .reverse => i + 1 = d.lastIndex := by
  cases dir <;> simp [Debounce.continues, and_assoc]

end

/-- The debounce record that a marker pack begins. -/
def freshDebounce (kind : MarkerKind) (p : ProgramPack) (start : Afa) : Debounce :=
  ⟨kind, p.number, start, p.runIndex, 1, false⟩

/-- The debounce record after a marker pack that goes on with it. -/
def Debounce.advanced (d : Debounce) (i : Nat) : Debounce := { d with count := min 3 (d.count + 1), lastIndex := i }

section
variable {k : Option ProgramPack} {afa : Option Afa} {dir : Direction} {held : Option Debounce} {d : Debounce}
  {p : ProgramPack} {a : Afa} {kind : MarkerKind}

theorem nextDebounce_eq_none (h : k = none ∨ afa = none ∨ (∃ p, k = some p ∧ p.marker = none) ∨
    ∃ p a, k = some p ∧ afa = some a ∧ a < p.runIndex) : nextDebounce held k afa dir = none := by
  rcases h with rfl | rfl | ⟨p, rfl, hp⟩ | ⟨p, a, rfl, rfl, hlt⟩
  · rfl
  · cases k <;> rfl
  · cases afa <;> simp [nextDebounce, hp]
  · cases hm : p.marker <;> simp [nextDebounce, hm, hlt]

variable (hm : p.marker = some kind) (hle : p.runIndex ≤ a)
include hm hle

theorem nextDebounce_fresh (h : ∀ d, held = some d → d.continues kind p.number (a - p.runIndex) p.runIndex dir = false) :
    nextDebounce held (some p) (some a) dir = some (freshDebounce kind p (a - p.runIndex)) := by
  have hge : ¬ a < p.runIndex := not_lt.mpr hle
  cases held with
  | none => simp only [nextDebounce, hm, if_neg hge, freshDebounce]
  | some d => simp [nextDebounce, hm, hge, freshDebounce, h d rfl]

theorem nextDebounce_advanced (h : d.continues kind p.number (a - p.runIndex) p.runIndex dir = true) :
    nextDebounce (some d) (some p) (some a) dir = some (d.advanced p.runIndex) := by
  have hge : ¬ a < p.runIndex := not_lt.mpr hle
  simp only [nextDebounce, hm, if_neg hge, h, if_true, Debounce.advanced]

end

/-- A state with another debounce record. -/
def State.withDebounce (s : State) (d : Option Debounce) : State := { s with tapeMap := { s.tapeMap with debounce := d } }

section
variable {k : Option ProgramPack} {afa : Option Afa} {dir : Direction} {s : State} {d : Debounce}

theorem updateDebounce_of_none (h : nextDebounce s.tapeMap.debounce k afa dir = none) :
    updateDebounce k afa dir s = s.withDebounce none := by simp only [updateDebounce, h, State.withDebounce]

theorem updateDebounce_unconfirmed (h : nextDebounce s.tapeMap.debounce k afa dir = some d)
    (hc : ¬ (d.count = 3 ∧ d.applied = false)) : updateDebounce k afa dir s = s.withDebounce (some d) := by
  simp only [updateDebounce, h, if_neg hc, State.withDebounce]

/-- Confirmed: the run is applied to the index, and in PLAY MARKER_SEEN is raised. -/
theorem updateDebounce_confirmed (h : nextDebounce s.tapeMap.debounce k afa dir = some d)
    (hc : d.count = 3 ∧ d.applied = false) : updateDebounce k afa dir s =
      if s.transport.mode = .play then
        raiseEvent .markerSeen (applyReadRun d.start d.kind d.number (s.withDebounce (some { d with applied := true })))
      else applyReadRun d.start d.kind d.number (s.withDebounce (some { d with applied := true })) := by
  have hmode : ∀ a k n u, (applyReadRun a k n u).transport = u.transport := fun a k n u => by rw [applyReadRun_only]
  simp only [updateDebounce, h, if_pos hc, hmode, State.withDebounce]

end

/-! ### A confirmed run -/

/-- `t` is `v` with MARKER_SEEN raised in PLAY and no event added in another mode. -/
structure MarkerNoted (v t : State) : Prop where
  only : t = { v with ports := t.ports }
  play : v.transport.mode = .play → ∀ q, t.ports.get q = (v.ports.get q).notice .markerSeen
  other : v.transport.mode ≠ .play → t.ports = v.ports

theorem markerNoted_ite (v : State) : MarkerNoted v (if v.transport.mode = .play then raiseEvent .markerSeen v else v) := by
  split
  · next h => exact ⟨rfl, fun _ q => raiseEvent_port _ _ q, fun hne => absurd h hne⟩
  · next h => exact ⟨rfl, fun hp => absurd hp h, fun _ => rfl⟩

section
variable {s v t : State} {start : Afa} {kind : MarkerKind} {n : Nat} {d : Option Debounce}

theorem MarkerNoted.tapeMap (h : MarkerNoted v t) : t.tapeMap = v.tapeMap := by rw [h.only]

/-- An event other than MARKER_SEEN is pending just when it was. -/
theorem MarkerNoted.has_of_ne (h : MarkerNoted v t) {e : Event} (he : e ≠ .markerSeen) (q : Port) :
    EventSet.has (t.ports.get q).events e = EventSet.has (v.ports.get q).events e := by
  by_cases hp : v.transport.mode = .play
  · rw [h.play hp, notice_has_of_ne _ he]
  · rw [h.other hp]

theorem IndexStep.report (h : IndexStep s v) (q : Port) : (v.ports.get q).report = (s.ports.get q).report := by
  by_cases hi : v.tapeMap.index = s.tapeMap.index
  · rw [h.quiet hi]
  · rw [h.loud hi, notice_report]

theorem IndexStep.has_of_ne (h : IndexStep s v) {e : Event} (he : e ≠ .indexChanged) (q : Port) :
    EventSet.has (v.ports.get q).events e = EventSet.has (s.ports.get q).events e := by
  by_cases hi : v.tapeMap.index = s.tapeMap.index
  · rw [h.quiet hi]
  · rw [h.loud hi, notice_has_of_ne _ he]

theorem IndexStep.transport (h : IndexStep s v) : v.transport = s.transport := by rw [h.only]

/-- INDEX_CHANGED is raised just when the index changed. -/
theorem IndexStep.indexChanged (h : IndexStep s v) (g : MarkerNoted v t) (q : Port) :
    (t.tapeMap.index ≠ s.tapeMap.index → EventSet.has (s.ports.get q).report .indexChanged = true →
      EventSet.has (t.ports.get q).events .indexChanged = true) ∧
    (t.tapeMap.index = s.tapeMap.index →
      EventSet.has (t.ports.get q).events .indexChanged = EventSet.has (s.ports.get q).events .indexChanged) := by
  rw [g.tapeMap, g.has_of_ne (by decide)]
  exact ⟨fun hi hq => by rw [h.loud hi]; exact notice_has _ _ hq, fun hi => by rw [h.quiet hi]⟩

/-- MARKER_SEEN is raised just in PLAY. -/
theorem IndexStep.markerSeen (h : IndexStep s v) (g : MarkerNoted v t) (q : Port) :
    (s.transport.mode = .play → EventSet.has (s.ports.get q).report .markerSeen = true →
      EventSet.has (t.ports.get q).events .markerSeen = true) ∧
    (s.transport.mode ≠ .play →
      EventSet.has (t.ports.get q).events .markerSeen = EventSet.has (s.ports.get q).events .markerSeen) := by
  rw [← h.transport, ← h.has_of_ne (e := .markerSeen) (by decide), ← h.report]
  exact ⟨fun hp hq => by rw [g.play hp]; exact notice_has _ _ hq, fun hp => by rw [g.other hp]⟩

/-- A run within 2 of no entry, with room, is inserted. -/
theorem applyReadRun_inserted (hfar : ∀ o ∈ s.tapeMap.index, ¬ (o.start ≤ start + 2 ∧ start ≤ o.start + 2))
    (hroom : s.tapeMap.index.length < 64) :
    (applyReadRun start kind n s).tapeMap.indexFull = s.tapeMap.indexFull ∧
      ∀ e, e ∈ (applyReadRun start kind n s).tapeMap.index ↔ e = ⟨start, kind, n, .read⟩ ∨ e ∈ s.tapeMap.index := by
  rw [applyReadRun_of_none (nearestEntry_eq_none hfar), insertEntry_of_room hroom]
  exact ⟨rfl, fun _ => mem_insertOrdered⟩

theorem applyReadRun_full (hfar : ∀ o ∈ s.tapeMap.index, ¬ (o.start ≤ start + 2 ∧ start ≤ o.start + 2))
    (hfull : s.tapeMap.index.length = 64) :
    (applyReadRun start kind n s).tapeMap.index = s.tapeMap.index ∧
      (applyReadRun start kind n s).tapeMap.indexFull = true := by
  rw [applyReadRun_of_none (nearestEntry_eq_none hfar), insertEntry_of_full (by omega)]
  exact ⟨rfl, rfl⟩

/-- A run within 2 of an entry rewrites the nearest, unless it already says the same. -/
theorem applyReadRun_nearest (hheld : indexHeld s) {e : IndexEntry} (he : e ∈ s.tapeMap.index)
    (hnear : e.start ≤ start + 2 ∧ start ≤ e.start + 2)
    (hleast : ∀ o ∈ s.tapeMap.index, e.dist start < o.dist start ∨ (e.dist start = o.dist start ∧ e.start ≤ o.start)) :
    (applyReadRun start kind n s).tapeMap.indexFull = s.tapeMap.indexFull ∧
      (e.kind = kind → e.number = n → (applyReadRun start kind n s).tapeMap.index = s.tapeMap.index) ∧
      (e.kind ≠ kind ∨ e.number ≠ n → ∀ o, o ∈ (applyReadRun start kind n s).tapeMap.index ↔
        o = ⟨e.start, kind, n, .read⟩ ∨ (o ∈ s.tapeMap.index ∧ o ≠ e)) := by
  have hfound := Rising.nearestEntry_eq hheld.2 he hnear hleast
  refine ⟨?_, fun hk hn => by rw [applyReadRun_of_same hfound hk hn], fun hne o => ?_⟩
  · by_cases hsame : e.kind = kind ∧ e.number = n
    · rw [applyReadRun_of_same hfound hsame.1 hsame.2]
    · rw [applyReadRun_of_other hfound (not_and_or.mp hsame)]
      rfl
  · rw [applyReadRun_of_other hfound hne]
    exact mem_replaceEntry hheld.2 he

/-- A run applied to the index of `s` from a state that has another debounce record. -/
theorem IndexStep.only_of_debounce (h : IndexStep (s.withDebounce d) v) (g : MarkerNoted v t) :
    t = { s with ports := t.ports, tapeMap := { s.tapeMap with
      debounce := d, index := t.tapeMap.index, indexFull := t.tapeMap.indexFull
      changeCount := if t.tapeMap.index = s.tapeMap.index then s.tapeMap.changeCount
        else s.tapeMap.changeCount + 1 } } := by
  have hv : v = { s with ports := v.ports, tapeMap := v.tapeMap } :=
    h.only.trans (congrArg (fun m => ({ s with ports := v.ports, tapeMap := m } : State))
      (congrArg State.tapeMap h.only).symm)
  have ht : t = { s with ports := t.ports, tapeMap := v.tapeMap } :=
    g.only.trans (congrArg (fun x : State => { x with ports := t.ports }) hv)
  have htape : t.tapeMap = { s.tapeMap with
      debounce := d, index := t.tapeMap.index, indexFull := t.tapeMap.indexFull
      changeCount := if t.tapeMap.index = s.tapeMap.index then s.tapeMap.changeCount
        else s.tapeMap.changeCount + 1 } := by
    rw [g.tapeMap]
    exact congrArg State.tapeMap h.only
  rw [← htape, g.tapeMap]
  exact ht

end

end Sys2Proof.Machine

namespace Sys2Proof.Machine
open Sys2Proof

-- One theorem at a time: the whole text is also compiled as one, where a thread for each theorem in flight asks for more
-- memory than the check allows.
set_option Elab.async false

/-! ## What a tick's work, after the transport's own, leaves alone -/

/-- The claims, the settings, the edit list, the sources' records and the SERVO record stand. -/
structure TickBase (s t : State) : Prop where
  claims : t.claims = s.claims := by rfl
  settings : t.settings = s.settings := by rfl
  editList : t.editList = s.editList := by rfl
  pending : t.pending = s.pending := by rfl
  recordRate : t.formatter.recordRate = s.formatter.recordRate := by rfl
  defaultSource : t.formatter.defaultSource = s.formatter.defaultSource := by rfl
  analogRights : t.formatter.analogRights = s.formatter.analogRights := by rfl
  writeEnable : t.formatter.writeEnable = s.formatter.writeEnable := by rfl
  digital : t.rights.digital = s.rights.digital := by rfl
  lock : t.rights.lock = s.rights.lock := by rfl
  history : t.rights.history = s.rights.history := by rfl
  accepted : t.rights.accepted = s.rights.accepted := by rfl
  servo : t.faults.records.servo = s.faults.records.servo := by rfl

/-- The part of the tape map that the PROGRAM packs and the written runs change. -/
def TapeMap.program (m : TapeMap) : Option Debounce × List IndexEntry × Bool × Byte :=
  (m.debounce, m.index, m.indexFull, m.changeCount)

/-- The program index with its debounce and the frame position at the sequencer stand too. -/
structure TickHold (s t : State) : Prop extends TickBase s t where
  program : t.tapeMap.program = s.tapeMap.program := by rfl
  lastPosition : t.seq.lastPosition = s.seq.lastPosition := by rfl

section
variable {s t u : State}

theorem TickBase.trans (h : TickBase s t) (k : TickBase t u) : TickBase s u :=
  ⟨k.claims.trans h.claims, k.settings.trans h.settings, k.editList.trans h.editList, k.pending.trans h.pending,
    k.recordRate.trans h.recordRate, k.defaultSource.trans h.defaultSource, k.analogRights.trans h.analogRights,
    k.writeEnable.trans h.writeEnable, k.digital.trans h.digital, k.lock.trans h.lock, k.history.trans h.history,
    k.accepted.trans h.accepted, k.servo.trans h.servo⟩

theorem TickHold.trans (h : TickHold s t) (k : TickHold t u) : TickHold s u :=
  ⟨h.toTickBase.trans k.toTickBase, k.program.trans h.program, k.lastPosition.trans h.lastPosition⟩

theorem TickHold.refl (s : State) : TickHold s s := {}

theorem WorkFrame.tickBase (h : WorkFrame s t) (servo : t.faults.records.servo = s.faults.records.servo) :
    TickBase s t :=
  ⟨h.claims, h.settings, h.editList, h.pending, h.recordRate, h.defaultSource, h.analogRights, h.writeEnable, h.digital,
    h.lock, h.history, h.accepted, servo⟩

/-- An operation of the sequencer's frame that leaves the SERVO record. -/
theorem SeqFrame.tickHold {k : FaultKind} (h : SeqFrame s t) (r : RecFrame k s t) (hk : FaultKind.servo ≠ k) :
    TickHold s t :=
  ⟨h.work.tickBase (r.get .servo hk (by decide)), by rw [h.tapeMap], h.lastPosition⟩

end

/-! ### The sequencer's work, and INPUT's record alone -/

section
variable (s : State)

theorem seqRefused_recFrame (kind : ErrorKind) (d : ErrorDetail) : RecFrame .input s (seqRefused kind d s) := by
  unfold seqRefused
  split
  · exact .refl _ s
  · split
    · exact (failEntry_recFrame _ _ _ _).start rfl
    · exact .refl _ s

theorem recordError_recFrame (kind : ErrorKind) (ph : Phase) (k : Fin 32) (d : ErrorDetail) :
    RecFrame .input s (recordError kind ph k d s) := (RecFrame.refl _ s).stop (by rw [recordError_faults])

theorem seqLaterStop_recFrame (kind : ErrorKind) (d : ErrorDetail) : RecFrame .input s (seqLaterStop kind d s) := by
  unfold seqLaterStop
  split
  · exact .refl _ s
  · next k _ _ =>
    split
    · exact ((recordError_recFrame (cutRequest s) kind .run (nextEntry k) d).start (s := s) rfl).stop rfl
    · exact .refl _ s

theorem closeRequest_faults (g : FrameNo) : (closeRequest g s).faults = s.faults := by
  unfold closeRequest
  split <;> rfl

theorem openRequest_faults (sp : Span) : (openRequest sp s).faults = s.faults := by
  unfold openRequest
  split <;> rfl

theorem fadeOutReport_recFrame (g : FrameNo) : RecFrame .input s (fadeOutReport g s) := by
  unfold fadeOutReport
  repeat' split
  · exact complete_recFrame s
  · exact (RecFrame.refl _ s).stop (by rw [closeRequest_faults])
  · exact .refl _ s

theorem markRunReport_recFrame (g : FrameNo) : RecFrame .input s (markRunReport g s) := by
  unfold markRunReport
  repeat' split
  · exact (RecFrame.refl _ s).stop (by show (closeRequest g s).faults.records = _; rw [closeRequest_faults])
  · exact .refl _ s
  · exact .refl _ s

theorem gateClosedReport_recFrame : RecFrame .input s (gateClosedReport s) := by
  unfold gateClosedReport
  split
  · exact complete_recFrame s
  · exact .refl _ s

theorem openEntry_recFrame (e : EditEntry) (fp : Option Afa) (st : PosState) (o : Nat) :
    RecFrame .input s (openEntry e fp st o s) := by
  unfold openEntry
  simp only
  refine RecFrame.stop (u := s) (.refl _ s) ?_
  repeat' split
  all_goals first
    | rfl
    | exact congrArg (fun f => f.records) (openRequest_faults _ _)

theorem inArrival_recFrame (k : Fin 32) (e : EditEntry) (fp : Option Afa) (st : PosState) (o : Nat) :
    RecFrame .input s (inArrival k e fp st o s) := by
  unfold inArrival
  repeat' split
  · exact openEntry_recFrame s e fp st o
  · exact seqStop_recFrame _ _ _ s
  · exact openEntry_recFrame s e fp st o

theorem armedPosition_recFrame (fp : Option Afa) (st : PosState) (d : Bool) :
    RecFrame .input s (armedPosition fp st d s) := by
  unfold armedPosition
  repeat' split
  all_goals first
    | exact .refl _ s
    | exact inArrival_recFrame s _ _ _ _ _
    | exact seqStop_recFrame _ _ _ s

theorem recordingPosition_recFrame (fp : Option Afa) : RecFrame .input s (recordingPosition fp s) := by
  unfold recordingPosition
  repeat' split
  all_goals exact (RecFrame.refl _ s).stop rfl

end

/-! ### The steps due and the end of the period (R22) -/

section
variable (s : State)

theorem timeoutEntry_servo (w : WrittenFrame) : (timeoutEntry w s).faults.records.servo = s.faults.records.servo := by
  unfold timeoutEntry
  simp only
  repeat' split
  · rfl
  · exact (evaluate_recFrame .confirm _ _).get .servo (by decide) (by decide)
  · rfl

theorem writtenTimeout_servo : (writtenTimeout s).faults.records.servo = s.faults.records.servo := by
  unfold writtenTimeout
  generalize s.formatter.written.filter (overdue s) = l
  induction l generalizing s with
  | nil => rfl
  | cons w l ih => exact (ih _).trans (timeoutEntry_servo s w)

theorem closeGate_servo : (closeGate s).faults.records.servo = s.faults.records.servo := by
  unfold closeGate
  refine ((gateClosedReport_recFrame _).get .servo (by decide) (by decide)).trans ?_
  exact (reselect_recFrame .input _).get .servo (by decide) (by decide)

theorem normalClose_servo : (normalClose s).faults.records.servo = s.faults.records.servo := by
  unfold normalClose
  split
  · exact closeGate_servo s
  · rfl

theorem forcedClose_servo : (forcedClose s).faults.records.servo = s.faults.records.servo := by
  unfold forcedClose
  split
  · exact closeGate_servo s
  · rfl

theorem gateTest_servo : (gateTest s).faults.records.servo = s.faults.records.servo := by
  unfold gateTest
  repeat' split
  · rfl
  · exact (reselect_recFrame .input _).get .servo (by decide) (by decide)
  · exact (seqRefused_recFrame _ _ _).get .servo (by decide) (by decide)
  · rfl

theorem fadeOutEnd_servo : (fadeOutEnd s).faults.records.servo = s.faults.records.servo := by
  unfold fadeOutEnd
  split
  · exact (fadeOutReport_recFrame _ _).get .servo (by decide) (by decide)
  · rfl

theorem runEnd_servo : (runEnd s).faults.records.servo = s.faults.records.servo := by
  unfold runEnd
  split
  · exact (markRunReport_recFrame _ _).get .servo (by decide) (by decide)
  · rfl

theorem buildComplete_faults : (buildComplete s).faults = s.faults := by
  unfold buildComplete
  repeat' split
  all_goals rfl

theorem expireCandidate_faults : (expireCandidate s).faults = s.faults := by
  unfold expireCandidate
  split <;> rfl

theorem endSwitch_faults : (endSwitch s).faults = s.faults := by
  unfold endSwitch
  repeat' split
  all_goals rfl

theorem txRecord_faults : (txRecord s).faults = s.faults := by
  unfold txRecord
  split <;> rfl

theorem settleFades_faults : (settleFades s).faults = s.faults := rfl

theorem dropUnchecked_records : (dropUnchecked s).faults.records = s.faults.records := rfl

theorem settleDue_servo : (settleDue s).faults.records.servo = s.faults.records.servo := by
  unfold settleDue
  rw [settleRepair_faults, endSwitch_faults, txRecord_faults, gateTest_servo, forcedClose_servo, normalClose_servo,
    fadeOutEnd_servo, settleFades_faults, buildComplete_faults, runEnd_servo, expireCandidate_faults, writtenTimeout_servo,
    dropUnchecked_records]

theorem trackASent_servo : (trackASent s).faults.records.servo = s.faults.records.servo := by
  unfold trackASent
  split
  · rw [handWritten_faults]
    rfl
  · rfl

theorem writeComplete_servo : (writeComplete s).faults.records.servo = s.faults.records.servo := by
  unfold writeComplete
  split <;> rfl

theorem beforeTick_tickBase : TickBase s (beforeTick s) := by
  refine (beforeTick_workFrame s).tickBase ?_
  unfold beforeTick finishSending
  rw [forcedClose_servo, writeComplete_servo, forcedClose_servo, trackASent_servo, settleDue_servo]

end

end Sys2Proof.Machine

namespace Sys2Proof.Machine
open Sys2Proof

-- One theorem at a time: the whole text is also compiled as one, where a thread for each theorem in flight asks for more
-- memory than the check allows.
set_option Elab.async false

/-! ## The blocks that take a tick's completions -/

section
variable (s : State)

theorem raiseEvent_tickHold (e : Event) : TickHold s (raiseEvent e s) := {}

theorem conditionTo_tickHold {k : FaultKind} (hk : FaultKind.servo ≠ k) (c : Option FaultDetail) :
    TickHold s (conditionTo k c s) := (conditionTo_seqFrame k c s).tickHold (conditionTo_recFrame k c s) hk

theorem evaluate_tickHold {k : FaultKind} (hk : FaultKind.servo ≠ k) (c : Option FaultDetail) :
    TickHold s (evaluate k c s) := (evaluate_seqFrame k c s).tickHold (evaluate_recFrame k c s) hk

theorem seqForcedCloseAll_tickHold (kind : ErrorKind) (d : ErrorDetail) : TickHold s (seqForcedCloseAll kind d s) :=
  (seqForcedCloseAll_seqFrame kind d s).tickHold (seqForcedCloseAll_recFrame kind d s) (by decide)

theorem positionReport_tickHold (d : FaultDetail) : TickHold s (positionReport d s) := by
  have htag : ∀ tag, TickHold s { s with faults := { s.faults with positionTag := tag } } := fun _ => {}
  unfold positionReport
  split
  · exact .refl s
  · exact (htag _).trans (evaluate_tickHold _ (by decide) _)

theorem reportJump_tickHold : TickHold s (reportJump s) := by
  have hcounted : ∀ (u : State) c, TickHold u { u with faults := { u.faults with counters := c } } := fun _ _ => {}
  exact (raiseEvent_tickHold s _).trans <| (hcounted _ _).trans <| (positionReport_tickHold _ _).trans
    (seqForcedCloseAll_tickHold _ _ _)

theorem takeRightsPack_tickHold (k : Option RightsPack) : TickHold s (takeRightsPack k s) := by
  rw [takeRightsPack_only k s]
  exact {}

theorem clogTally_tickHold (path : ReadPath) (t : Tally) : TickHold s (clogTally path t s) := by
  rw [clogTally_only path t s]
  exact {}

theorem verifyStep_tickHold (path : ReadPath) (scan : Option Afa) (j : Bool) (t : Tally) :
    TickHold s (verifyStep path scan j t s) := by
  rw [verifyStep_only path scan j t s]
  exact {}

theorem rateTally_tickHold (t : Tally) : TickHold s (rateTally t s) := by
  have hwindow : ∀ w, TickHold s { s with faults := { s.faults with window := w } } := fun _ => {}
  unfold rateTally
  simp only
  split
  · exact .refl s
  · exact (hwindow _).trans (evaluate_tickHold _ (by decide) _)

theorem preTally_tickHold (r : TickResult) : TickHold s (preTally r s) := by
  unfold preTally
  split
  · exact (evaluate_tickHold s (by decide) _).trans <| (rateTally_tickHold _ _).trans (clogTally_tickHold _ _ _)
  · exact .refl s
  · exact .refl s

theorem verifyResult_tickHold (path : ReadPath) (r : TickResult) (scan : Option Afa) (j : Bool) :
    TickHold s (verifyResult path r scan j s) := by
  unfold verifyResult
  split
  · exact verifyStep_tickHold s _ _ _ _
  · exact .refl s
  · exact .refl s

theorem keepOldFrame_tickHold (r : TickResult) (fp : Option Afa) (st : PosState) :
    TickHold s (keepOldFrame r fp st s) := {}

theorem withPosition_tickHold (p : PositionRecord) : TickHold s (s.withPosition p) := {}

theorem decoderTick_tickHold (path : ReadPath) (r : TickResult) : TickHold s (decoderTick path r s) := by
  cases path <;> cases r <;> exact {}

/-- The sequencer takes the frame position, which is then its last. -/
theorem seqFramePosition_tickHold (fp : Option Afa) (st : PosState) (d : Bool) :
    TickHold { s with seq := { s.seq with lastPosition := fp } } (seqFramePosition fp st d s) := by
  unfold seqFramePosition
  simp only
  split
  · exact (armedPosition_seqFrame _ _ _ _).tickHold (armedPosition_recFrame _ _ _ _) (by decide)
  · exact (recordingPosition_seqFrame _ _).tickHold (recordingPosition_recFrame _ _) (by decide)
  all_goals exact .refl _

theorem confirmTally_tickHold (t : Tally) : TickHold s (confirmTally t s) := by
  have hnote : TickHold s (noteConf s) := by
    unfold noteConf
    split <;> exact {}
  have hremoved : ∀ (u : State) l, TickHold u { u with formatter := { u.formatter with written := l } } := fun _ _ => {}
  unfold confirmTally
  simp only
  refine hnote.trans ?_
  repeat' split
  · exact .refl _
  · exact hremoved _ _
  · exact (hremoved _ _).trans (conditionTo_tickHold _ (by decide) _)
  · exact (hremoved _ _).trans (evaluate_tickHold _ (by decide) _)

theorem confTick_tickHold : TickHold s (confTick s) := by
  rw [confTick_eq]
  refine (decoderTick_tickHold s .conf (decoderResult .conf s)).trans ?_
  unfold confUsers
  split
  · exact (confirmTally_tickHold _ _).trans <| (clogTally_tickHold _ _ _).trans (verifyStep_tickHold _ _ _ _ _)
  · exact .refl _
  · exact .refl _

/-! ### The front and the end of a tick -/

theorem buildAtTick_tickHold : TickHold s (buildAtTick s) := by
  unfold buildAtTick
  split <;> exact {}

theorem tapeMapTick_tickHold : TickHold s (tapeMapTick s) := by
  have hmoved : TickHold s { s with tapeMap := { s.tapeMap with
      periodValue := s.tapeMap.pos.afa, pos := (s.tapeMap.pos.tick s.transport.dir).1 } } := {}
  unfold tapeMapTick
  simp only
  refine hmoved.trans ?_
  split
  · exact positionReport_tickHold _ _
  · exact .refl _

theorem positionTick_tickHold : TickHold s (positionTick s) := by
  have htag : ∀ tag, TickHold s { s with faults := { s.faults with positionTag := tag } } := fun _ => {}
  unfold positionTick
  repeat' split
  · exact (htag _).trans (conditionTo_tickHold _ (by decide) _)
  · exact .refl s
  · exact .refl s

theorem tickBack_tickHold : TickHold s (tickBack s) := by
  have hblend : ∀ u, TickHold u (tickBlend u) := fun _ => {}
  have hclock : ∀ u, TickHold u (tickClock u) := fun _ => {}
  exact (tapeMapTick_tickHold s).trans <| (hblend _).trans <| (positionTick_tickHold _).trans (hclock _)

theorem beginBuild_tickHold (f : FrameNo) (sp : Span) (o : OldFrame) : TickHold s (beginBuild f sp o s) :=
  ⟨(beginBuild_workFrame f sp o s).tickBase rfl, rfl, rfl⟩

theorem seqRefused_tickHold (kind : ErrorKind) (d : ErrorDetail) : TickHold s (seqRefused kind d s) :=
  (seqRefused_seqFrame kind d s).tickHold (seqRefused_recFrame s kind d) (by decide)

theorem buildStop_tickHold (sp : Span) (kind : ErrorKind) (d : ErrorDetail) : TickHold s (buildStop sp kind d s) := by
  have hdiscarded : ∀ p c b r, TickHold s { s with formatter := { s.formatter with
      pendingOpen := p, closePoint := c, build := b, run := r } } := fun _ _ _ _ => {}
  unfold buildStop
  split
  · exact (hdiscarded _ _ _ _).trans (seqRefused_tickHold _ _ _)
  · have hclose : RecFrame .input s (closeRequest (writtenFrame s) s) :=
      (RecFrame.refl _ s).stop (by rw [closeRequest_faults])
    exact ((closeRequest_seqFrame _ s).trans (seqLaterStop_seqFrame _ _ _)).tickHold
      (hclose.trans (seqLaterStop_recFrame _ _ _)) (by decide)

theorem buildStart_tickHold : TickHold s (buildStart s) := by
  unfold buildStart
  simp only
  repeat' split
  · exact .refl s
  · exact buildStop_tickHold s _ _ _
  · exact buildStop_tickHold s _ _ _
  · exact beginBuild_tickHold s _ _ _

theorem startSending_tickHold : TickHold s (startSending s) := by
  unfold startSending
  simp only
  split <;> exact {}

/-- From the CONF decoder to the end of a tick. -/
theorem fromConf_tickHold : TickHold s (startSending (buildStart (tickBack (confTick s)))) :=
  (confTick_tickHold s).trans <| (tickBack_tickHold _).trans <| (buildStart_tickHold _).trans (startSending_tickHold _)

end

/-! ## The program index at a tick (R107) -/

section
variable {s t : State}

theorem program_eq_iff : s.tapeMap.program = t.tapeMap.program ↔ s.tapeMap.debounce = t.tapeMap.debounce ∧
    s.tapeMap.index = t.tapeMap.index ∧ s.tapeMap.indexFull = t.tapeMap.indexFull ∧
    s.tapeMap.changeCount = t.tapeMap.changeCount := by
  simp [TapeMap.program]

theorem applyReadRun_program_congr (h : s.tapeMap.program = t.tapeMap.program) (a : Afa) (k : MarkerKind) (n : Nat) :
    (applyReadRun a k n s).tapeMap.program = (applyReadRun a k n t).tapeMap.program := by
  obtain ⟨hd, hi, hf, hc⟩ := program_eq_iff.mp h
  have hchange : ∀ ix, (indexChange (setIndex ix s)).tapeMap.program = (indexChange (setIndex ix t)).tapeMap.program :=
    fun ix => by simp [TapeMap.program, indexChange, setIndex, hd, hf, hc]
  have hinsert : ∀ e, (insertEntry e s).tapeMap.program = (insertEntry e t).tapeMap.program := fun e => by
    unfold insertEntry
    rw [hi]
    split
    · exact hchange _
    · simp [TapeMap.program, hd, hi, hc]
  unfold applyReadRun
  rw [hi]
  split
  · exact hinsert _
  · split
    · exact h
    · exact hchange _

/-- What a PROGRAM pack does to the program index is told by the index and the debounce alone. -/
theorem updateDebounce_program_congr (h : s.tapeMap.program = t.tapeMap.program) (k : Option ProgramPack)
    (a : Option Afa) (dir : Direction) :
    (updateDebounce k a dir s).tapeMap.program = (updateDebounce k a dir t).tapeMap.program := by
  obtain ⟨hd, hi, hf, hc⟩ := program_eq_iff.mp h
  have hrecord : ∀ d, (s.withDebounce d).tapeMap.program = (t.withDebounce d).tapeMap.program := fun d => by
    simp [TapeMap.program, State.withDebounce, hi, hf, hc]
  cases hnext : nextDebounce s.tapeMap.debounce k a dir with
  | none =>
    rw [updateDebounce_of_none hnext, updateDebounce_of_none (hd ▸ hnext)]
    exact hrecord _
  | some d =>
    by_cases hconfirm : d.count = 3 ∧ d.applied = false
    · rw [updateDebounce_confirmed hnext hconfirm, updateDebounce_confirmed (hd ▸ hnext) hconfirm]
      have hite : ∀ (c : Prop) [Decidable c] (u : State),
          (if c then raiseEvent .markerSeen u else u).tapeMap = u.tapeMap := fun c _ u => by split <;> rfl
      rw [hite, hite]
      exact applyReadRun_program_congr (hrecord _) _ _ _
    · rw [updateDebounce_unconfirmed hnext hconfirm, updateDebounce_unconfirmed (hd ▸ hnext) hconfirm]
      exact hrecord _

end

end Sys2Proof.Machine

namespace Sys2Proof.Machine
open Sys2Proof

-- One theorem at a time: the whole text is also compiled as one, where a thread for each theorem in flight asks for more
-- memory than the check allows.
set_option Elab.async false

/-! ## A changed index is announced (R106) -/

section
variable {s : State}

theorem applyReadRun_loud (a : Afa) (k : MarkerKind) (n : Nat)
    (h : (applyReadRun a k n s).tapeMap.index ≠ s.tapeMap.index) (q : Port) :
    (applyReadRun a k n s).ports.get q = (s.ports.get q).notice .indexChanged := by
  cases hnear : nearestEntry s.tapeMap.index a with
  | none =>
    rw [applyReadRun_of_none hnear] at h ⊢
    exact (insertEntry_indexStep _ s).loud h q
  | some e =>
    by_cases hsame : e.kind = k ∧ e.number = n
    · rw [applyReadRun_of_same hnear hsame.1 hsame.2] at h
      exact absurd rfl h
    · rw [applyReadRun_of_other hnear (not_and_or.mp hsame)]
      exact raiseEvent_port _ _ q

theorem updateDebounce_loud (k : Option ProgramPack) (a : Option Afa) (dir : Direction)
    (h : (updateDebounce k a dir s).tapeMap.index ≠ s.tapeMap.index) (q : Port)
    (hq : EventSet.has (s.ports.get q).report .indexChanged = true) :
    EventSet.has ((updateDebounce k a dir s).ports.get q).events .indexChanged = true := by
  cases hnext : nextDebounce s.tapeMap.debounce k a dir with
  | none =>
    rw [updateDebounce_of_none hnext] at h
    exact absurd rfl h
  | some d =>
    by_cases hconfirm : d.count = 3 ∧ d.applied = false
    · rw [updateDebounce_confirmed hnext hconfirm] at h ⊢
      generalize hv : applyReadRun d.start d.kind d.number (s.withDebounce (some { d with applied := true })) = v at h ⊢
      have hmode : v.transport.mode = s.transport.mode := by rw [← hv, applyReadRun_only]; rfl
      have hnoted : MarkerNoted v (if s.transport.mode = .play then raiseEvent .markerSeen v else v) := by
        rw [← hmode]
        exact markerNoted_ite v
      rw [hnoted.tapeMap] at h
      rw [hnoted.has_of_ne (by decide), ← hv]
      rw [← hv] at h
      rw [applyReadRun_loud _ _ _ h]
      exact notice_has _ _ hq
    · rw [updateDebounce_unconfirmed hnext hconfirm] at h
      exact absurd rfl h

end

/-! ## The PRE result at the tape map -/

/-- The frame position that a PRE result brings (R103). -/
def arrivalPosition (r : TickResult) (s : State) : Option Afa :=
  framePositionOf r.packs.position (s.tapeMap.pos.handle r.packs.position).2 (s.tapeMap.pos.handle r.packs.position).1

/-- The state after the POSITION pack of a PRE result. -/
def arrivalMoved (r : TickResult) (s : State) : State :=
  let u := s.withPosition (s.tapeMap.pos.handle r.packs.position).1
  if (s.tapeMap.pos.handle r.packs.position).2 = .jumped then reportJump u else u

section
variable (r : TickResult) (s : State)

theorem arrivalMoved_tickHold : TickHold s (arrivalMoved r s) := by
  unfold arrivalMoved
  simp only
  refine (withPosition_tickHold s (s.tapeMap.pos.handle r.packs.position).1).trans ?_
  split
  · exact reportJump_tickHold _
  · exact .refl _

theorem arrivalMoved_tickRights (q : ReadPath) : TickRights q s (arrivalMoved r s) := by
  have hpos : ∀ p, TickRights q s (s.withPosition p) := fun _ => .of_eq
  unfold arrivalMoved
  simp only
  refine (hpos (s.tapeMap.pos.handle r.packs.position).1).trans ?_
  split
  · exact (reportJump_tickKeep _).rights q
  · exact (TickKeep.refl _).rights q

theorem beforeRightsPack_eq : beforeRightsPack r s =
    keepOldFrame r (arrivalPosition r s) (s.tapeMap.pos.handle r.packs.position).1.state
      (tapeMapRest r.packs (blankNote r (arrivalMoved r s)) (arrivalPosition r s) (arrivalMoved r s)) := rfl

theorem afterRightsPack_hold (s0 : State) :
    (afterRightsPack r s0 s).tapeMap.program = s.tapeMap.program ∧
      (afterRightsPack r s0 s).seq.lastPosition = arrivalPosition r s0 := by
  have htally := preTally_tickHold s r
  have hposition := seqFramePosition_tickHold (preTally r s) (arrivalPosition r s0)
    (s0.tapeMap.pos.handle r.packs.position).1.state r.completed
  have hverify := verifyResult_tickHold (seqFramePosition (arrivalPosition r s0)
    (s0.tapeMap.pos.handle r.packs.position).1.state r.completed (preTally r s)) .pre r (arrivalPosition r s0)
    ((s0.tapeMap.pos.handle r.packs.position).2 == .jumped)
  exact ⟨hverify.program.trans (hposition.program.trans htally.program),
    hverify.lastPosition.trans hposition.lastPosition⟩

theorem tapeMapRest_program (packs : FramePacks) (b : Bool) (fp : Option Afa) : (tapeMapRest packs b fp s).tapeMap.program =
    (updateDebounce packs.program (debounceAfa packs.position fp) s.transport.dir s).tapeMap.program :=
  updateDebounce_program_congr
    (s := s.withPosition ((s.tapeMap.pos.edit packs.edit).blank b)) (t := s) rfl _ _ _

/-- The program index after a PRE result is that of `updateDebounce` with the result's PROGRAM pack. -/
theorem tapeMapArrival_hold :
    (tapeMapArrival r s).tapeMap.program = (updateDebounce r.packs.program
        (debounceAfa r.packs.position (arrivalPosition r s)) s.transport.dir s).tapeMap.program ∧
      (tapeMapArrival r s).seq.lastPosition = arrivalPosition r s := by
  rw [tapeMapArrival_eq]
  obtain ⟨hprogram, hlast⟩ := afterRightsPack_hold r (takeRightsPack r.packs.rights (beforeRightsPack r s)) s
  refine ⟨hprogram.trans ((takeRightsPack_tickHold _ _).program.trans ?_), hlast⟩
  rw [beforeRightsPack_eq, (keepOldFrame_tickHold _ _ _ _).program]
  have hdir : (arrivalMoved r s).transport.dir = s.transport.dir := by rw [(arrivalMoved_tickRights r s .pre).transport]
  rw [tapeMapRest_program, hdir]
  exact updateDebounce_program_congr (arrivalMoved_tickHold r s).program _ _ _

/-- An index that a PRE result changes is announced at each port that asks for it. -/
theorem tapeMapArrival_loud (h : (tapeMapArrival r s).tapeMap.index ≠ s.tapeMap.index) (q : Port)
    (hq : EventSet.has (s.ports.get q).report .indexChanged = true) :
    EventSet.has ((tapeMapArrival r s).ports.get q).events .indexChanged = true := by
  have hmoved := (arrivalMoved_tickRights r s .pre).ports q
  have hindex : (arrivalMoved r s).tapeMap.index = s.tapeMap.index :=
    (program_eq_iff.mp (arrivalMoved_tickHold r s).program).2.1
  rw [tapeMapArrival_eq] at h ⊢
  have hafter := (afterRightsPack_tickRights r s (takeRightsPack r.packs.rights (beforeRightsPack r s))).ports q
  have hrights := (takeRightsPack_core .pre r.packs.rights (beforeRightsPack r s)).ports q
  have hindex' := (program_eq_iff.mp (afterRightsPack_hold r (takeRightsPack r.packs.rights (beforeRightsPack r s)) s).1).2.1
  have hindex'' := (program_eq_iff.mp (takeRightsPack_tickHold (beforeRightsPack r s) r.packs.rights).program).2.1
  rw [hindex', hindex'', beforeRightsPack_eq, ← hindex] at h
  refine (hrights.trans hafter).grows _ ?_
  rw [beforeRightsPack_eq]
  refine updateDebounce_loud (s := (arrivalMoved r s).withPosition _) _ _ _ h q ?_
  show EventSet.has ((arrivalMoved r s).ports.get q).report .indexChanged = true
  rw [hmoved.rest]
  exact hq

end

/-! ## The program index at a whole tick -/

section
variable (dir : Direction) (us : Nat) {s : State}

theorem preTick_of_loaded {s : State} (h : s.transport.mode ≠ .unloaded) :
    preTick s = tapeMapArrival (decoderResult .pre s) (decoderTick .pre (decoderResult .pre s) s) := by
  unfold preTick
  simp only [decoderTick_transport, if_neg h]

theorem afterTransport_tapeMap (t : Transport) (s : State) : (afterTransport t s).tapeMap = s.tapeMap := by
  have hverify : (verifyRange t s).tapeMap = s.tapeMap := by rw [verifyRange_only]
  exact ((windowLoss_seqFrame t _).trans (evaluateServo_seqFrame _)).tapeMap.trans hverify

/-- A tick with nothing due before it comes to the PRE decoder with the tape map as it was. -/
theorem atPreDecoder_tapeMap (hb : beforeTick s = s) : (atPreDecoder dir us s).tapeMap = s.tapeMap := by
  unfold atPreDecoder tickFront tickTransport
  rw [hb]
  have hbuild : ∀ u, (buildAtTick u).tapeMap = u.tapeMap := fun u => by
    unfold buildAtTick
    split <;> rfl
  rw [hbuild]
  exact afterTransport_tapeMap _ _

/-- What a tick with nothing due before it leaves of the program index, and the frame position it hands on. -/
theorem frameTick_program (hloaded : s.transport.mode ≠ .unloaded) (hb : beforeTick s = s) :
    let t := frameTick dir us s
    let packs := (decoderResult .pre (s.withTransport t.transport)).packs
    t.tapeMap.program =
        (updateDebounce packs.program (debounceAfa packs.position t.seq.lastPosition) dir s).tapeMap.program ∧
      (t.tapeMap.index ≠ s.tapeMap.index → ∀ q, EventSet.has (s.ports.get q).report .indexChanged = true →
        EventSet.has (t.ports.get q).events .indexChanged = true) := by
  intro t packs
  have hpacks : (decoderResult .pre (atPreDecoder dir us s)).packs = packs := by rw [decoderResult_atPreDecoder]
  have hkeep := (atPreDecoder_tickKeep dir us s).rights .pre
  have htape := atPreDecoder_tapeMap dir us hb
  generalize hw : atPreDecoder dir us s = w at hpacks hkeep htape
  have hwloaded : w.transport.mode ≠ .unloaded := by rw [hkeep.transport]; exact hloaded
  have ht : t = startSending (buildStart (tickBack (confTick (preTick w)))) := by rw [← hw]; exact frameTick_eq dir us s
  have hend := fromConf_tickHold (preTick w)
  have hports := (confTick_to_end (preTick w)).1
  rw [← ht] at hend
  rw [preTick_of_loaded hwloaded] at hend hports ht
  generalize decoderResult .pre w = r at hpacks hend hports ht
  have hdecoder := decoderTick_tickHold w .pre r
  have hdtape := decoderTick_tapeMap .pre r w
  have hdports := decoderTick_ports .pre r w
  have hdtransport := decoderTick_transport .pre r w
  generalize decoderTick .pre r w = v at *
  obtain ⟨hprogram, hlast⟩ := tapeMapArrival_hold r v
  have hdir : v.transport.dir = dir := by rw [hdtransport, hkeep.transport]; rfl
  have hprog : v.tapeMap.program = s.tapeMap.program := by rw [hdtape, htape]
  rw [hpacks, hdir] at hprogram
  refine ⟨?_, fun hne q hq => ?_⟩
  · rw [hend.lastPosition, hlast, hend.program, hprogram]
    exact updateDebounce_program_congr hprog _ _ _
  · rw [(program_eq_iff.mp hend.program).2.1, ← (program_eq_iff.mp hprog).2.1] at hne
    rw [ht]
    refine (hports q).grows _ (tapeMapArrival_loud r v hne q ?_)
    rw [hdports, (hkeep.ports q).rest]
    exact hq

end

end Sys2Proof.Machine

namespace Sys2Proof.Machine
open Sys2Proof

-- One theorem at a time: the whole text is also compiled as one, where a thread for each theorem in flight asks for more
-- memory than the check allows.
set_option Elab.async false

/-! ## Requests that the port may send (R183) -/

section
variable {p : Port} {s : State} (op : Byte) {body : State → State × ResultCode × Payload}

theorem request_open (h : waitsForRise s p = false) :
    request p op .openClass body s = respond p op (body s).2.1 (body s).2.2 (body s).1 := by
  simp [request, h, admits]

theorem request_edit (h : waitsForRise s p = false) (hclaim : s.claims.edit = some p) :
    request p op .editClass body s = respond p op (body s).2.1 (body s).2.2 (body s).1 := by
  simp [request, h, admits, hclaim]

theorem request_transport (h : waitsForRise s p = false) (hclaim : s.claims.transport = some p) :
    request p op .transportClass body s = respond p op (body s).2.1 (body s).2.2 (body s).1 := by
  simp [request, h, admits, hclaim]

end

/-! ## READ POSITION, READ INDEX, CLEAR INDEX and the candidate's expiry -/

section
variable {p : Port} {s : State}

theorem projectedInRange_iff (c : JumpCandidate) : projectedInRange c = true ↔ 0 ≤ c.projected ∧ c.projected ≤ 1048575 := by
  rw [projectedInRange, Bool.and_eq_true, decide_eq_true_iff, decide_eq_true_iff]
  exact Iff.rfl

theorem heldCandidate_eq_some {r : PositionRecord} {c : JumpCandidate} :
    heldCandidate r = some c ↔ r.candidate = some c ∧ c.age < 9 := by
  simp [heldCandidate, Option.filter_eq_some_iff]

theorem positionView_candidateHeld :
    (positionView s).candidateHeld = true ↔ ∃ c, s.tapeMap.pos.candidate = some c ∧ c.age < 9 := by
  simp only [positionView, Option.isSome_iff_exists, heldCandidate_eq_some]

theorem positionView_candidateInRange : (positionView s).candidateInRange = true ↔
    ∃ c, s.tapeMap.pos.candidate = some c ∧ c.age < 9 ∧ 0 ≤ c.projected ∧ c.projected ≤ 1048575 := by
  simp only [positionView, Option.any_eq_true, heldCandidate_eq_some, projectedInRange_iff, and_assoc]

theorem positionView_candidateAfa_of_not (h : (positionView s).candidateInRange = false) :
    (positionView s).candidateAfa = none := by
  have hany : (heldCandidate s.tapeMap.pos).any projectedInRange = false := h
  show ((heldCandidate s.tapeMap.pos).filter projectedInRange).map _ = none
  rw [Option.any_eq_false] at hany
  rw [Option.map_eq_none_iff, Option.filter_eq_none_iff]
  simpa using hany

theorem positionView_candidateAfa {c : JumpCandidate} (hc : s.tapeMap.pos.candidate = some c)
    (h : (positionView s).candidateInRange = true) : (positionView s).candidateAfa = some c.projected.toNat := by
  obtain ⟨c', hc', hage, hlow, hhigh⟩ := positionView_candidateInRange.mp h
  obtain rfl : c' = c := Option.some.inj (hc'.symm.trans hc)
  have hheld : heldCandidate s.tapeMap.pos = some c' := heldCandidate_eq_some.mpr ⟨hc, hage⟩
  have hrange : projectedInRange c' = true := (projectedInRange_iff c').mpr ⟨hlow, hhigh⟩
  show ((heldCandidate s.tapeMap.pos).filter projectedInRange).map _ = _
  rw [hheld, Option.filter_some, if_pos hrange, Option.map_some]

theorem readPosition_of_range {page : Byte} (h : 1 < page.toNat) (s : State) :
    readPosition page s = (s, .range, .zeros) := by
  have hne : ∀ b : Byte, b.toNat ≤ 1 → page ≠ b := fun b hb heq => by rw [heq] at h; omega
  unfold readPosition
  rw [if_neg (hne 0 (by decide)), if_neg (hne 1 (by decide))]

theorem emptyIndex_of_nil (h : s.tapeMap.index = []) : emptyIndex s =
    { s with tapeMap := { s.tapeMap with index := [], indexFull := false, debounce := none } } := by
  simp [emptyIndex, h]

theorem emptyIndex_of_ne (h : s.tapeMap.index ≠ []) : emptyIndex s =
    raiseEvent .indexChanged { s with tapeMap := { s.tapeMap with
      index := [], indexFull := false, debounce := none, changeCount := s.tapeMap.changeCount + 1 } } := by
  simp [emptyIndex, h, indexChange]

theorem expireCandidate_of_none (h : s.tapeMap.pos.candidate = none) : expireCandidate s = s := by
  simp [expireCandidate, candidateDue, h]

theorem expireCandidate_of_some {c : JumpCandidate} (h : s.tapeMap.pos.candidate = some c) : expireCandidate s =
    if 9 ≤ c.age then { s with tapeMap := { s.tapeMap with pos := { s.tapeMap.pos with candidate := none } } } else s := by
  simp [expireCandidate, candidateDue, h]

end

/-! ## A marker pack at the debounce -/

section
variable {p : ProgramPack} {a : Afa} {kind : MarkerKind} {dir : Direction} {s : State} {d : Debounce}

variable (hm : p.marker = some kind) (hle : p.runIndex ≤ a)
include hm hle

/-- A marker pack that does not go on with the record held begins it anew. -/
theorem updateDebounce_fresh (h : ∀ d, s.tapeMap.debounce = some d →
      d.continues kind p.number (a - p.runIndex) p.runIndex dir = false) :
    updateDebounce (some p) (some a) dir s = s.withDebounce (some (freshDebounce kind p (a - p.runIndex))) :=
  updateDebounce_unconfirmed (nextDebounce_fresh hm hle h) fun hc => absurd hc.1 (show (1 : Nat) ≠ 3 by decide)

variable (hd : s.tapeMap.debounce = some d)
  (hgo : d.continues kind p.number (a - p.runIndex) p.runIndex dir = true)
include hd hgo

/-- One that goes on with it, but is not its third, or comes after the run was applied, is counted alone. -/
theorem updateDebounce_counted (h : d.count < 2 ∨ d.applied = true) :
    updateDebounce (some p) (some a) dir s = s.withDebounce (some (d.advanced p.runIndex)) := by
  refine updateDebounce_unconfirmed (by rw [hd]; exact nextDebounce_advanced hm hle hgo) fun hc => ?_
  obtain ⟨hcount, happlied⟩ := hc
  have hcount : min 3 (d.count + 1) = 3 := hcount
  have happlied : d.applied = false := happlied
  rcases h with hlt | hyes
  · omega
  · rw [hyes] at happlied
    cases happlied

/-- The third in a row applies the run. -/
theorem updateDebounce_third (hcount : 2 ≤ d.count) (happlied : d.applied = false) :
    ∃ v, v = applyReadRun (a - p.runIndex) kind p.number
        (s.withDebounce (some { d.advanced p.runIndex with applied := true })) ∧
      MarkerNoted v (updateDebounce (some p) (some a) dir s) := by
  obtain ⟨hkind, hnumber, hstart, -⟩ := Debounce.continues_iff.mp hgo
  refine ⟨_, rfl, ?_⟩
  have hthird : (d.advanced p.runIndex).count = 3 := by
    show min 3 (d.count + 1) = 3
    omega
  rw [updateDebounce_confirmed (d := d.advanced p.runIndex) (by rw [hd]; exact nextDebounce_advanced hm hle hgo)
    ⟨hthird, happlied⟩]
  have hrun : ∀ u, applyReadRun (d.advanced p.runIndex).start (d.advanced p.runIndex).kind
      (d.advanced p.runIndex).number u = applyReadRun (a - p.runIndex) kind p.number u := fun u => by
    rw [← hstart, ← hkind, ← hnumber]
    rfl
  rw [hrun]
  generalize hv : applyReadRun (a - p.runIndex) kind p.number
    (s.withDebounce (some { d.advanced p.runIndex with applied := true })) = v
  have hmode : v.transport.mode = s.transport.mode := by rw [← hv, applyReadRun_only]; rfl
  rw [← hmode]
  exact markerNoted_ite v

end

/-- Settles O57: each request by its own body, the debounce by the packs that begin it, go on with it and confirm a run
(`updateDebounce_fresh`, `updateDebounce_counted`, `updateDebounce_third`), the tick by `frameTick_program`. -/
theorem tapeMapRequests : Obligations.TapeMapRequests := by
  unfold Obligations.TapeMapRequests
  refine ⟨fun p s hrise => ⟨⟨⟨positionView s, ?page0, rfl, rfl, rfl, rfl, rfl, rfl, rfl, rfl, positionView_candidateHeld,
      positionView_candidateInRange, positionView_candidateAfa_of_not, fun c => positionView_candidateAfa⟩,
      ⟨transportView s, ?page1, rfl, rfl, rfl, rfl, rfl, rfl, decodeRange_iff _, writeWindow_iff _⟩,
      fun page hpage => ?pages⟩, fun k => ⟨fun hk => ⟨none, ?refused⟩, fun e hk he => ?found, fun hk hlen => ?absent⟩,
      fun hclaim => ⟨fun hnil => ?clearNone, fun hne => ?clear⟩,
      fun c hc => ⟨fun hage => ?expired, fun hage => ?young⟩, fun hc => ?noCandidate⟩,
    fun k afa dir s => ⟨fun hother => ?empty, fun p a kind hk ha hm hle => ⟨fun hnot => ?fresh,
      fun d hd hgo => ⟨fun hcount => ?counted, fun hcount happlied hheld => ?third⟩⟩⟩,
    fun dir us s hloaded hb => ⟨frameTick dir us s, rfl, ?tick⟩⟩
  case page0 => exact congrArg _ (request_open _ hrise)
  case page1 => exact congrArg _ (request_open _ hrise)
  case pages =>
    refine congrArg _ ((request_open _ hrise).trans ?_)
    rw [readPosition_of_range hpage]
  case refused =>
    refine congrArg _ ((request_open _ hrise).trans ?_)
    have hge : ¬ k.toNat < 64 := by omega
    simp only [readIndex, if_neg hge]
  case found =>
    refine congrArg _ ((request_open _ hrise).trans ?_)
    have hlt : k.toNat < 64 := by omega
    simp only [readIndex, if_pos hlt, he]
  case absent =>
    refine congrArg _ ((request_open _ hrise).trans ?_)
    have hlt : k.toNat < 64 := by omega
    simp only [readIndex, if_pos hlt, List.getElem?_eq_none hlen]
  case clearNone =>
    refine congrArg _ ((request_edit _ hrise hclaim).trans ?_)
    rw [clearIndex, emptyIndex_of_nil hnil]
  case clear =>
    refine congrArg _ ((request_edit _ hrise hclaim).trans ?_)
    rw [clearIndex, emptyIndex_of_ne hne]
  case expired => exact congrArg _ ((expireCandidate_of_some hc).trans (if_pos hage))
  case young => exact congrArg _ ((expireCandidate_of_some hc).trans (if_neg (by omega)))
  case noCandidate => exact congrArg _ (expireCandidate_of_none hc)
  case empty => exact updateDebounce_of_none (nextDebounce_eq_none hother)
  case fresh =>
    subst hk ha
    exact updateDebounce_fresh hm hle fun d hd => Bool.eq_false_iff.mpr fun hgo => hnot d hd (Debounce.continues_iff.mp hgo)
  case counted =>
    subst hk ha
    exact updateDebounce_counted hm hle hd (Debounce.continues_iff.mpr hgo) hcount
  case third =>
    subst hk ha
    obtain ⟨v, hv, hnoted⟩ := updateDebounce_third hm hle hd (Debounce.continues_iff.mpr hgo) hcount happlied
    generalize hs1 : s.withDebounce (some { d.advanced p.runIndex with applied := true }) = s1 at hv
    have hheld1 : indexHeld s1 := by rw [← hs1]; exact hheld
    have hstep : IndexStep s1 v := hv ▸ applyReadRun_indexStep hheld1 _ _ _
    have hindex : s1.tapeMap.index = s.tapeMap.index := by rw [← hs1]; rfl
    have hfull : s1.tapeMap.indexFull = s.tapeMap.indexFull := by rw [← hs1]; rfl
    have hports : s1.ports = s.ports := by rw [← hs1]; rfl
    have htransport : s1.transport = s.transport := by rw [← hs1]; rfl
    have honly := (hs1 ▸ hstep).only_of_debounce hnoted
    have hchanged := hstep.indexChanged hnoted
    have hseen := hstep.markerSeen hnoted
    have htape := hnoted.tapeMap
    rw [hindex, hports] at hchanged
    rw [hports, htransport] at hseen
    generalize updateDebounce (some p) (some a) dir s = t at *
    refine ⟨honly, ?held, fun hne q => (hchanged q).1 hne, fun heq q => (hchanged q).2 heq,
      fun hplay q => (hseen q).1 hplay, fun hplay q => (hseen q).2 hplay, fun hfar hroom => ?inserted,
      fun hfar hlen => ?full, fun e he hnear hleast => ?nearest⟩
    case held =>
      have := hv ▸ applyReadRun_indexHeld hheld1 (a - p.runIndex) kind p.number
      unfold indexHeld at this ⊢
      rwa [htape]
    case inserted =>
      rw [← hindex] at hfar hroom
      rw [htape, hv, ← hindex, ← hfull]
      exact applyReadRun_inserted hfar hroom
    case full =>
      rw [← hindex] at hfar hlen
      rw [htape, hv, ← hindex]
      exact applyReadRun_full hfar hlen
    case nearest =>
      rw [← hindex] at he hleast
      rw [htape, hv, ← hindex, ← hfull]
      refine applyReadRun_nearest hheld1 he hnear fun o ho => ?_
      rw [IndexEntry.dist_eq, IndexEntry.dist_eq]
      exact hleast o ho
  case tick =>
    have hprogram := frameTick_program dir us hloaded hb
    generalize frameTick dir us s = t at hprogram ⊢
    obtain ⟨hprogram, hevent⟩ := hprogram
    intro packs afa u
    have hafa : afa = debounceAfa packs.position t.seq.lastPosition := by
      unfold debounceAfa
      show (match packs.position with | some k => some k.afa | none => _) = _
      cases packs.position <;> rfl
    have hu : t.tapeMap.program = u.tapeMap.program := by
      refine hprogram.trans ?_
      show _ = (updateDebounce packs.program afa dir _).tapeMap.program
      rw [hafa]
      exact updateDebounce_program_congr (s := s) (t := s.withTransport t.transport) rfl _ _ _
    obtain ⟨hdebounce, hindex, hfull, hcount⟩ := program_eq_iff.mp hu
    exact ⟨hdebounce, hindex, hfull, hcount, hevent⟩

end Sys2Proof.Machine

namespace Sys2Proof.Machine
open Sys2Proof

-- One theorem at a time: the whole text is also compiled as one, where a thread for each theorem in flight asks for more
-- memory than the check allows.
set_option Elab.async false

/-! ## A condition evaluated (R159) -/

theorem or_appliesAction (m : FaultMode) (a : Bool) :
    (a || appliesAction m) = (decide (m = .latched ∨ m = .auto) || a) := by
  cases m <;> cases a <;> decide

section
variable (k : FaultKind) (c : Option FaultDetail) (s : State)

theorem endAction_get : (endAction k s).faults.records.get k = { s.faults.records.get k with action := false } := by
  unfold endAction
  simp only
  split
  · exact setRecord_get _ _ _
  · next h =>
    have h : (s.faults.records.get k).action = false := by simpa using h
    rw [← h]

theorem faultRaise_get (d : FaultDetail) (h : (s.faults.records.get k).mode ≠ .off) :
    (faultRaise k d s).faults.records.get k = { s.faults.records.get k with
      count := min 255 ((s.faults.records.get k).count + 1), detail := d
      firstAfa := if (s.faults.records.get k).seen then (s.faults.records.get k).firstAfa else knownAfa s
      seen := true, action := (s.faults.records.get k).action || appliesAction (s.faults.records.get k).mode } := by
  unfold faultRaise
  simp only [if_neg h]
  exact setRecord_get _ _ _

/-- A kind's record after its condition was evaluated (R159). -/
theorem conditionTo_get : (conditionTo k c s).faults.records.get k =
    (s.faults.records.get k).under c (knownAfa s) := by
  unfold conditionTo FaultRecord.under
  cases c with
  | some d =>
    simp only
    by_cases hkeep : (s.faults.records.get k).mode = .off ∨ (s.faults.records.get k).present = true
    · rw [if_pos hkeep, if_pos hkeep.symm]
    · rw [if_neg hkeep, if_neg fun h => hkeep h.symm]
      have hon : ((setRecord k { s.faults.records.get k with present := true } s).faults.records.get k).mode ≠ .off := by
        rw [setRecord_get]
        exact fun h => hkeep (.inl h)
      rw [faultRaise_get _ _ _ hon, setRecord_get]
      simp only [or_appliesAction]
      rfl
  | none =>
    simp only
    by_cases hpresent : (s.faults.records.get k).present = true
    · by_cases hauto : (s.faults.records.get k).mode = .auto
      · simp only [hpresent, hauto, if_true, and_self]
        rw [endAction_get, setRecord_get]
      · simp only [hpresent, hauto, if_true, and_false, if_false]
        exact setRecord_get _ _ _
    · have hgone : (s.faults.records.get k).present = false := by simpa using hpresent
      simp only [hpresent, false_and, if_false, Bool.false_eq_true]
      rw [← hgone]

/-- A condition that is found and was not before raises FAULT_RAISED, except in OFF (R159). -/
theorem conditionTo_raises (hc : c.isSome = true) (hgone : (s.faults.records.get k).present = false)
    (hon : (s.faults.records.get k).mode ≠ .off) (q : Port)
    (hq : EventSet.has (s.ports.get q).report .faultRaised = true) :
    EventSet.has ((conditionTo k c s).ports.get q).events .faultRaised = true := by
  obtain ⟨d, rfl⟩ := Option.isSome_iff_exists.mp hc
  have hraise : ¬ ((s.faults.records.get k).mode = .off ∨ (s.faults.records.get k).present = true) := by
    rw [hgone]
    exact fun h => h.elim hon (by simp)
  have hon' : ((setRecord k { s.faults.records.get k with present := true } s).faults.records.get k).mode ≠ .off := by
    rwa [setRecord_get]
  have hset := setRecord_seqFrame k { s.faults.records.get k with present := true } s
  unfold conditionTo faultRaise
  simp only [if_neg hraise, if_neg hon']
  exact raised_has (hset.trans (setRecord_seqFrame _ _ _)) _ q hq

end

/-- A condition of no kind but INPUT changes more of its record than its evaluation. -/
theorem evaluate_get {k : FaultKind} (hk : k ≠ .input) (c : Option FaultDetail) (s : State) :
    (evaluate k c s).faults.records.get k = (s.faults.records.get k).under c (knownAfa s) := by
  unfold evaluate
  simp only
  split
  · rw [(applyAction_recFrame k _).get k hk hk, conditionTo_get]
  · exact conditionTo_get k c s

/-! ## The SERVO condition (R161) -/

theorem servoCondition_eq (x : Transport) : servoCondition x =
    if x.mode = .play ∨ x.mode = .record then
      if x.lock = false then some .servoNoLock
      else if x.stalled then some .servoStalled
      else if x.ratio < 850 ∨ 1150 < x.ratio then some .servoSpeed else none
    else none := by
  unfold servoCondition
  cases x.lock <;> rfl

section
variable {s : State}

/-- With no write under way an evaluation of SERVO is the fault monitor's alone. -/
theorem evaluateServo_of_not_writing (h : writingEntry s = false) :
    evaluateServo s = conditionTo .servo (servoCondition s.transport) s := by
  have hwriting := writingEntry_congr (conditionTo_seq .servo (servoCondition s.transport) s)
    (conditionTo_seqFrame .servo (servoCondition s.transport) s).editList
  unfold evaluateServo evaluate
  simp only
  split
  · exact seqForcedClose_of_not_writing (hwriting.trans h) _ _
  · rfl

/-- A SERVO condition that was there already brings no action. -/
theorem evaluateServo_of_present (h : s.faults.records.servo.present = true) :
    evaluateServo s = conditionTo .servo (servoCondition s.transport) s := by
  have hno : raisedWithAction .servo s (conditionTo .servo (servoCondition s.transport) s) = false := by
    unfold raisedWithAction
    show (!s.faults.records.servo.present && _ && _) = false
    rw [h]
    rfl
  unfold evaluateServo evaluate
  simp only [hno, Bool.false_eq_true, if_false]

/-- A SERVO condition found in LATCHED or AUTO closes by force (R138). -/
theorem evaluateServo_of_action (hgone : s.faults.records.servo.present = false)
    (hmode : s.faults.records.servo.mode = .latched ∨ s.faults.records.servo.mode = .auto)
    (hc : (servoCondition s.transport).isSome = true) :
    evaluateServo s = seqForcedClose .transport .absent (conditionTo .servo (servoCondition s.transport) s) := by
  have hrecord := conditionTo_get .servo (servoCondition s.transport) s
  obtain ⟨d, hd⟩ := Option.isSome_iff_exists.mp hc
  have hrecord : (conditionTo .servo (servoCondition s.transport) s).faults.records.get .servo =
      s.faults.records.servo.under (some d) (knownAfa s) := by
    rw [conditionTo_get, hd]
    rfl
  have hstart : ¬ (s.faults.records.servo.present = true ∨ s.faults.records.servo.mode = .off) := by
    rcases hmode with h | h <;> simp [hgone, h]
  have hyes : raisedWithAction .servo s (conditionTo .servo (servoCondition s.transport) s) = true := by
    unfold raisedWithAction
    rw [hrecord]
    simp only [FaultRecord.under, if_neg hstart]
    show (!s.faults.records.servo.present && true && appliesAction s.faults.records.servo.mode) = true
    rcases hmode with h | h <;> rw [hgone, h] <;> rfl
  unfold evaluateServo evaluate
  simp only [hyes, if_true]
  rfl

end

/-! ## A change at the transport interface: the loss of the window, then SERVO -/

section
variable (t : Transport) (s : State)

theorem verifyRange_records : (verifyRange t s).faults.records = s.faults.records := by rw [verifyRange_only]

/-- The SERVO record after a change at the transport interface. -/
theorem afterTransport_servo : (afterTransport t s).faults.records.servo =
    s.faults.records.servo.under (servoCondition s.transport) (knownAfa s) := by
  have hloss := windowLoss_seqFrame t (verifyRange t s)
  have hrange := verifyRange_faultOnly t s
  have htape : (verifyRange t s).tapeMap = s.tapeMap := by rw [verifyRange_only]
  have hknown : knownAfa (windowLoss t (verifyRange t s)) = knownAfa s := by
    unfold knownAfa
    rw [hloss.tapeMap, htape]
  have hrecord : (windowLoss t (verifyRange t s)).faults.records.servo = s.faults.records.servo :=
    ((windowLoss_recFrame t _).get .servo (by decide) (by decide)).trans (by rw [verifyRange_records]; rfl)
  refine (evaluate_get (k := .servo) (by decide) _ (windowLoss t (verifyRange t s))).trans ?_
  rw [hknown, hloss.transport, hrange.transport]
  exact congrArg (fun r => FaultRecord.under r (servoCondition s.transport) (knownAfa s)) hrecord

theorem windowLoss_of_closed (h : s.formatter.gate = .closed) : windowLoss t s = s := by
  unfold windowLoss
  exact if_neg fun hc => by simp [h] at hc

theorem windowLoss_of_unloaded (h : s.transport.mode = .unloaded) : windowLoss t s = s := by
  unfold windowLoss
  exact if_neg fun hc => hc.2.2.2 h

end

/-! ## A forced close of the entry that writes (R51, R137) -/

/-- The gate stays OPEN to the track boundary, the frames marked and built are discarded, and both channels of the blend unit
are cut and released. -/
structure ForcedShut (t : State) : Prop where
  gate : t.formatter.gate = .opened
  closePoint : t.formatter.closePoint = some .forced
  pendingOpen : t.formatter.pendingOpen = none
  openSpan : t.formatter.openSpan = none
  build : t.formatter.build = none
  ready : t.formatter.ready = none
  run : t.formatter.run = none
  blend : ∀ ch, t.blend.get ch = ⟨0, 0, none, none, false⟩

section
variable {s t : State} {k : Fin 32}

theorem forcedCloseRequest_opened (h : s.formatter.gate = .opened) : forcedCloseRequest s =
    { s with formatter := { s.formatter with
      closePoint := some .forced, openSpan := none, pendingOpen := none, build := none, ready := none, run := none } } := by
  simp only [forcedCloseRequest, h]

theorem forcedCloseRequest_closed (h : s.formatter.gate = .closed) (hp : s.formatter.pendingOpen.isSome = true) :
    forcedCloseRequest s = { s with formatter := { s.formatter with
      pendingOpen := none, closePoint := none, openSpan := none, build := none, ready := none, run := none } } := by
  simp only [forcedCloseRequest, h, hp, if_true]

/-- The walk after a forced close with the gate OPEN. -/
theorem WalkFrame.forcedShut (h : WalkFrame (cutRequest (forcedCloseRequest s)) t) (hopen : s.formatter.gate = .opened)
    (hblend : ∀ ch, t.blend.get ch = ⟨0, 0, none, none, false⟩) :
    ForcedShut t ∧ t.formatter.sending = s.formatter.sending := by
  have hf : t.formatter = _ := h.formatter
  rw [forcedCloseRequest_opened hopen] at hf
  refine ⟨⟨?_, ?_, ?_, ?_, ?_, ?_, ?_, hblend⟩, ?_⟩
  · rw [hf]
    exact hopen
  all_goals rw [hf]; rfl

/-- The walk after a forced close with an open pending. -/
theorem WalkFrame.openDiscarded (h : WalkFrame (cutRequest (forcedCloseRequest s)) t) (hclosed : s.formatter.gate = .closed)
    (hpending : s.formatter.pendingOpen.isSome = true) : t.formatter.gate = .closed ∧
      t.formatter.pendingOpen = none ∧ t.formatter.build = none ∧ t.formatter.ready = none := by
  have hf : t.formatter = _ := h.formatter
  rw [forcedCloseRequest_closed hclosed hpending] at hf
  refine ⟨?_, ?_, ?_, ?_⟩
  · rw [hf]
    exact hclosed
  all_goals rw [hf]; rfl

theorem forcedCloseRequest_seq (s : State) : (cutRequest (forcedCloseRequest s)).seq = s.seq := by
  show (forcedCloseRequest s).seq = _
  unfold forcedCloseRequest
  simp only
  repeat' split
  all_goals rfl

theorem forcedCloseRequest_knownAfa (s : State) : knownAfa (cutRequest (forcedCloseRequest s)) = knownAfa s := by
  unfold knownAfa
  rw [((forcedCloseRequest_seqFrame s).trans (cutRequest_seqFrame _)).tapeMap]

/-- The forced close of the entry that writes. -/
theorem seqForcedClose_writing (hw : writingEntry s = true) (hheld : s.seq.held = some k) (hg : gateInPlay s = true)
    (kind : ErrorKind) (d : ErrorDetail) :
    seqForcedClose kind d s = failEntry kind d k (cutRequest (forcedCloseRequest s)) := by
  obtain ⟨hstate, k', hk', hreal⟩ := (writingEntry_iff s).mp hw
  obtain rfl : k' = k := Option.some.inj (hk'.symm.trans hheld)
  unfold seqForcedClose
  simp only [heldEntry_of_held hheld]
  exact if_pos ⟨(inWrite_iff s).mpr hstate, hg, hreal⟩

theorem forcedFail_seq {kind : ErrorKind} (hkind : kind ≠ .unloaded) (d : ErrorDetail) (k : Fin 32) (s : State) :
    (failEntry kind d k (cutRequest (forcedCloseRequest s))).seq =
      s.seq.failed k ⟨kind, .run, k + 1, d, knownAfa s⟩ := by
  rw [failEntry_seq_of_ne d hkind, forcedCloseRequest_seq, forcedCloseRequest_knownAfa]

theorem forcedFail_blend (kind : ErrorKind) (d : ErrorDetail) (hheld : s.seq.held = some k) (ch : Channel) :
    (failEntry kind d k (cutRequest (forcedCloseRequest s))).blend.get ch = ⟨0, 0, none, none, false⟩ :=
  failEntry_blend_get kind d (by rw [forcedCloseRequest_seq]; exact hheld) k ch

theorem forcedFail_forcedShut (kind : ErrorKind) (d : ErrorDetail) (hheld : s.seq.held = some k)
    (hopen : s.formatter.gate = .opened) :
    ForcedShut (failEntry kind d k (cutRequest (forcedCloseRequest s))) ∧
      (failEntry kind d k (cutRequest (forcedCloseRequest s))).formatter.sending = s.formatter.sending :=
  (failEntry_walkFrame kind d k _).forcedShut hopen (forcedFail_blend kind d hheld)

theorem FaultOnly.blend (h : FaultOnly s t) : t.blend = s.blend := by rw [h]

/-- Work of the fault monitor leaves a forced close as it is. -/
theorem ForcedShut.of_faultOnly (h : ForcedShut s) (f : FaultOnly s t) : ForcedShut t := by
  obtain ⟨gate, closePoint, pendingOpen, openSpan, build, ready, run, blend⟩ := h
  rw [← f.formatter] at gate closePoint pendingOpen openSpan build ready run
  rw [← f.blend] at blend
  exact ⟨gate, closePoint, pendingOpen, openSpan, build, ready, run, blend⟩

theorem writingEntry_of_faultOnly (f : FaultOnly s t) : writingEntry t = writingEntry s :=
  writingEntry_congr f.seq f.editList

end

end Sys2Proof.Machine

namespace Sys2Proof.Machine
open Sys2Proof

-- One theorem at a time: the whole text is also compiled as one, where a thread for each theorem in flight asks for more
-- memory than the check allows.
set_option Elab.async false

/-! ## The loss of the write window (R28, R138) -/

/-- The first cause that applies of a lost write window, but for the normal end of an ASSEMBLE (R138). -/
def lossCause (x : Transport) : ErrorKind × ErrorDetail :=
  if x.mode ≠ .record then (.transport, .notRecord)
  else if x.lock = false then (.transport, .noLock)
  else if x.prot then (.tapeProtected, .absent)
  else (.transport, .speed)

theorem lossCause_ne_unloaded (x : Transport) : (lossCause x).1 ≠ .unloaded := by
  unfold lossCause
  repeat' split
  all_goals simp

theorem lossCause_speed {x : Transport} (hmode : x.mode = .record) (hlock : x.lock = true) (hprot : x.prot = false) :
    lossCause x = (.transport, .speed) := by
  simp [lossCause, hmode, hlock, hprot]

section
variable {t : Transport} {s : State} {k : Fin 32}

/-- The write window held before is lost while the gate is OPEN and a tape is loaded. -/
structure WindowLost (t : Transport) (s : State) : Prop where
  before : writeWindow t = true
  after : writeWindow s.transport = false
  opened : s.formatter.gate = .opened
  loaded : s.transport.mode ≠ .unloaded

theorem WindowLost.windowLoss_eq (h : WindowLost t s) : windowLoss t s =
    if s.transport.mode ≠ .record then leftRecord s
    else if s.transport.lock = false then seqForcedClose .transport .noLock s
    else if s.transport.prot then seqForcedClose .tapeProtected .absent s
    else seqForcedClose .transport .speed s := if_pos ⟨h.before, h.after, h.opened, h.loaded⟩

theorem WindowLost.of_faultOnly {u : State} (h : WindowLost t s) (f : FaultOnly s u) : WindowLost t u :=
  ⟨h.before, by rw [f.transport]; exact h.after, by rw [f.formatter]; exact h.opened, by rw [f.transport]; exact h.loaded⟩

theorem WindowLost.gateInPlay (h : WindowLost t s) : gateInPlay s = true := by simp [Machine.gateInPlay, h.opened]

variable (h : WindowLost t s) (hw : writingEntry s = true) (hheld : s.seq.held = some k)
include h hw hheld

/-- A lost window closes the writing entry by force, unless it is an ASSEMBLE and the mode leaves RECORD. -/
theorem WindowLost.fails (haction : s.transport.mode = .record ∨ entryAction s.editList[k] ≠ .assemble) :
    windowLoss t s = failEntry (lossCause s.transport).1 (lossCause s.transport).2 k
      (cutRequest (forcedCloseRequest s)) := by
  have hclose := seqForcedClose_writing hw hheld h.gateInPlay
  rw [h.windowLoss_eq]
  unfold lossCause
  split
  · next hmode =>
    have hother : ¬ (inWrite s = true ∧ entryAction s.editList[k] = .assemble) :=
      fun hc => haction.elim hmode (· hc.2)
    unfold leftRecord
    simp only [heldEntry_of_held hheld, if_neg hother]
    exact hclose _ _
  · repeat' split
    all_goals exact hclose _ _

/-- An ASSEMBLE ends normally when the mode leaves RECORD (R133). -/
theorem WindowLost.completes (hmode : s.transport.mode ≠ .record) (haction : entryAction s.editList[k] = .assemble) :
    windowLoss t s = complete (cutRequest (forcedCloseRequest s)) := by
  have hwrite : inWrite s = true := (inWrite_iff s).mpr ((writingEntry_iff s).mp hw).1
  rw [h.windowLoss_eq, if_pos hmode]
  unfold leftRecord
  simp only [heldEntry_of_held hheld, hwrite, haction, and_self, if_true]
  rfl

end

/-! ## The whole change at the transport interface -/

theorem verifyRange_seqFields (t : Transport) (s : State) :
    knownAfa (verifyRange t s) = knownAfa s ∧ (verifyRange t s).tapeMap = s.tapeMap := by
  have htape : (verifyRange t s).tapeMap = s.tapeMap := by rw [verifyRange_only]
  exact ⟨by unfold knownAfa; rw [htape], htape⟩

theorem afterTransport_frame (t : Transport) (s : State) : SeqFrame (verifyRange t s) (afterTransport t s) :=
  (windowLoss_seqFrame t _).trans (evaluateServo_seqFrame _)

section
variable {t : Transport} {s : State} {k : Fin 32}

/-- An entry that a loss of the write window closed by force. -/
structure LossTaken (k : Fin 32) (cause : ErrorKind × ErrorDetail) (s v : State) : Prop where
  seq : v.seq = s.seq.failed k ⟨cause.1, .run, k + 1, cause.2, knownAfa s⟩
  shut : ForcedShut v
  sending : v.formatter.sending = s.formatter.sending
  event : ∀ q, EventSet.has (s.ports.get q).report .seqFault = true → EventSet.has (v.ports.get q).events .seqFault = true

/-- The SERVO condition comes after the loss, and finds no write. -/
theorem afterTransport_eq_of_not_writing (h : writingEntry (windowLoss t (verifyRange t s)) = false) :
    FaultOnly (windowLoss t (verifyRange t s)) (afterTransport t s) := by
  unfold afterTransport
  rw [evaluateServo_of_not_writing h]
  exact conditionTo_faultOnly _ _ _

theorem verifyRange_ports (t : Transport) (s : State) (q : Port) :
    ((verifyRange t s).ports.get q).report = (s.ports.get q).report := by
  have h := ((verifyRange_tickKeep t s).rights .pre).ports q
  rw [h.rest]

theorem afterTransport_fails (h : WindowLost t s) (hw : writingEntry s = true) (hheld : s.seq.held = some k)
    (haction : s.transport.mode = .record ∨ entryAction s.editList[k] ≠ .assemble) :
    LossTaken k (lossCause s.transport) s (afterTransport t s) := by
  have hfault := verifyRange_faultOnly t s
  have hknown := (verifyRange_seqFields t s).1
  have hreport := verifyRange_ports t s
  have hafter := afterTransport_eq_of_not_writing (t := t) (s := s)
  have hports := (evaluateServo_seqFrame (windowLoss t (verifyRange t s))).ports
  have hu : windowLoss t (verifyRange t s) = failEntry (lossCause s.transport).1 (lossCause s.transport).2 k
      (cutRequest (forcedCloseRequest (verifyRange t s))) := by
    rw [← hfault.transport]
    refine (h.of_faultOnly hfault).fails ((writingEntry_of_faultOnly hfault).trans hw) (by rwa [hfault.seq]) ?_
    rwa [hfault.transport, hfault.editList]
  have hheld' : (verifyRange t s).seq.held = some k := by rwa [hfault.seq]
  have hopen' : (verifyRange t s).formatter.gate = .opened := by rw [hfault.formatter]; exact h.opened
  have hseq := forcedFail_seq (lossCause_ne_unloaded s.transport) (lossCause s.transport).2 k (verifyRange t s)
  obtain ⟨hshut, hsending⟩ := forcedFail_forcedShut (lossCause s.transport).1 (lossCause s.transport).2 hheld' hopen'
  have hevent := failEntry_event (lossCause s.transport).1 (lossCause s.transport).2 k
    (cutRequest (forcedCloseRequest (verifyRange t s)))
  have hclose : SeqFrame (verifyRange t s) (cutRequest (forcedCloseRequest (verifyRange t s))) :=
    (forcedCloseRequest_seqFrame _).trans (cutRequest_seqFrame _)
  rw [← hu] at hseq hshut hsending hevent
  have hfaulted : (windowLoss t (verifyRange t s)).seq.state = .fault := by rw [hseq]; rfl
  have hdone := hafter (not_writing_of_state (by simp [hfaulted]) (by simp [hfaulted]))
  refine ⟨?_, hshut.of_faultOnly hdone, ?_, fun q hq => (hports q).grows _ (hevent q ?_)⟩
  · rw [hdone.seq, hseq, hfault.seq, hknown]
  · rw [hdone.formatter, hsending, hfault.formatter]
  · rw [(hclose.ports q).rest, hreport]
    exact hq

/-- A SERVO action with an open pending closes the writing entry by force (R138). -/
theorem afterTransport_pendingOpen (hclosed : s.formatter.gate = .closed) (hpending : s.formatter.pendingOpen.isSome = true)
    (hw : writingEntry s = true) (hheld : s.seq.held = some k) (hc : (servoCondition s.transport).isSome = true)
    (hgone : s.faults.records.servo.present = false)
    (hmode : s.faults.records.servo.mode = .latched ∨ s.faults.records.servo.mode = .auto) :
    let v := afterTransport t s
    v.seq = s.seq.failed k ⟨.transport, .run, k + 1, .absent, knownAfa s⟩ ∧ v.formatter.gate = .closed ∧
      v.formatter.pendingOpen = none ∧ v.formatter.build = none ∧ v.formatter.ready = none ∧
      ∀ ch, v.blend.get ch = ⟨0, 0, none, none, false⟩ := by
  intro v
  have hrange := verifyRange_faultOnly t s
  have hknown := (verifyRange_seqFields t s).1
  have hrecords := verifyRange_records t s
  have hv : v = evaluateServo (verifyRange t s) :=
    congrArg evaluateServo (windowLoss_of_closed t _ (by rw [hrange.formatter]; exact hclosed))
  generalize verifyRange t s = u at hrange hknown hrecords hv
  rw [evaluateServo_of_action (by rwa [hrecords]) (by rwa [hrecords]) (by rwa [hrange.transport])] at hv
  have hcond := conditionTo_faultOnly .servo (servoCondition u.transport) u
  have hcondAfa : knownAfa (conditionTo .servo (servoCondition u.transport) u) = knownAfa u := by
    unfold knownAfa
    rw [(conditionTo_seqFrame _ _ u).tapeMap]
  generalize conditionTo .servo (servoCondition u.transport) u = x at hcond hcondAfa hv
  have hboth := hrange.trans hcond
  have hxheld : x.seq.held = some k := by rw [hboth.seq]; exact hheld
  have hxclosed : x.formatter.gate = .closed := by rw [hboth.formatter]; exact hclosed
  have hxpending : x.formatter.pendingOpen.isSome = true := by rw [hboth.formatter]; exact hpending
  rw [seqForcedClose_writing ((writingEntry_of_faultOnly hboth).trans hw) hxheld
    (by simp [gateInPlay, hxpending])] at hv
  have hseq := forcedFail_seq (kind := .transport) (by decide) .absent k x
  have hblend := forcedFail_blend (kind := .transport) (d := .absent) hxheld
  obtain ⟨hgate, hopen, hbuild, hready⟩ := (failEntry_walkFrame .transport .absent k _).openDiscarded hxclosed hxpending
  rw [hv]
  exact ⟨by rw [hseq, hboth.seq, hcondAfa, hknown], hgate, hopen, hbuild, hready, hblend⟩

/-- With the gate CLOSED and the SERVO condition there already the sequencer and the blend unit stand. -/
theorem afterTransport_present (hclosed : s.formatter.gate = .closed) (hpresent : s.faults.records.servo.present = true) :
    FaultOnly s (afterTransport t s) := by
  have hrange := verifyRange_faultOnly t s
  have hrecords := verifyRange_records t s
  unfold afterTransport
  rw [windowLoss_of_closed t _ (by rw [hrange.formatter]; exact hclosed),
    evaluateServo_of_present (by rwa [hrecords])]
  exact hrange.trans (conditionTo_faultOnly _ _ _)

/-- A SERVO condition newly found raises FAULT_RAISED, except in OFF. -/
theorem afterTransport_raises (hc : (servoCondition s.transport).isSome = true)
    (hgone : s.faults.records.servo.present = false) (hon : s.faults.records.servo.mode ≠ .off) (q : Port)
    (hq : EventSet.has (s.ports.get q).report .faultRaised = true) :
    EventSet.has ((afterTransport t s).ports.get q).events .faultRaised = true := by
  have hloss := windowLoss_seqFrame t (verifyRange t s)
  have hrecord : (windowLoss t (verifyRange t s)).faults.records.get .servo = s.faults.records.servo :=
    ((windowLoss_recFrame t _).get .servo (by decide) (by decide)).trans (by rw [verifyRange_records]; rfl)
  have htransport : (windowLoss t (verifyRange t s)).transport = s.transport := by
    rw [hloss.transport, (verifyRange_faultOnly t s).transport]
  have hreport : EventSet.has ((windowLoss t (verifyRange t s)).ports.get q).report .faultRaised = true := by
    rw [(hloss.ports q).rest]
    show EventSet.has ((verifyRange t s).ports.get q).report .faultRaised = true
    rwa [verifyRange_ports]
  unfold afterTransport
  generalize windowLoss t (verifyRange t s) = u at hrecord htransport hreport
  have hraised := conditionTo_raises .servo (servoCondition u.transport) u (by rwa [htransport])
    (by rwa [hrecord]) (by rwa [hrecord]) q hreport
  unfold evaluateServo evaluate
  simp only
  split
  · exact ((applyAction_seqFrame .servo _).ports q).grows _ hraised
  · exact hraised

end

end Sys2Proof.Machine

namespace Sys2Proof.Machine
open Sys2Proof

-- One theorem at a time: the whole text is also compiled as one, where a thread for each theorem in flight asks for more
-- memory than the check allows.
set_option Elab.async false

/-! ## The rest of a tick after a forced close: the sequencer is in FAULT with no entry held -/

/-- The sequencer is as `q` in FAULT but for its last frame position, and a forced close has shut the formatter. -/
structure Halted (q : Sequencer) (s : State) : Prop extends ForcedShut s where
  seq : s.seq = { q with lastPosition := s.seq.lastPosition }
  state : s.seq.state = .fault
  held : s.seq.held = none

/-- What a forced close is told by stands, and of the sequencer all but the last frame position. -/
structure HaltKept (s t : State) : Prop where
  seq : t.seq = { s.seq with lastPosition := t.seq.lastPosition } := by rfl
  gate : t.formatter.gate = s.formatter.gate := by rfl
  closePoint : t.formatter.closePoint = s.formatter.closePoint := by rfl
  pendingOpen : t.formatter.pendingOpen = s.formatter.pendingOpen := by rfl
  openSpan : t.formatter.openSpan = s.formatter.openSpan := by rfl
  build : t.formatter.build = s.formatter.build := by rfl
  ready : t.formatter.ready = s.formatter.ready := by rfl
  run : t.formatter.run = s.formatter.run := by rfl
  blend : t.blend = s.blend := by rfl

section
variable {q : Sequencer} {s t : State}

theorem Halted.keep (h : Halted q s) (k : HaltKept s t) : Halted q t where
  seq := by rw [k.seq, h.seq]
  state := by rw [k.seq]; exact h.state
  held := by rw [k.seq]; exact h.held
  gate := k.gate.trans h.gate
  closePoint := k.closePoint.trans h.closePoint
  pendingOpen := k.pendingOpen.trans h.pendingOpen
  openSpan := k.openSpan.trans h.openSpan
  build := k.build.trans h.build
  ready := k.ready.trans h.ready
  run := k.run.trans h.run
  blend := by rw [k.blend]; exact h.blend

theorem Halted.faultOnly (h : Halted q s) (f : FaultOnly s t) : Halted q t := by
  refine h.keep ?_
  rw [f]
  exact {}

theorem Halted.not_writing (h : Halted q s) : writingEntry s = false :=
  not_writing_of_state (by simp [h.state]) (by simp [h.state])

/-- No fault action reaches a sequencer in FAULT. -/
theorem Halted.applyAction (h : Halted q s) (k : FaultKind) : applyAction k s = s := by
  have hclose := seqForcedClose_of_not_writing h.not_writing
  unfold Machine.applyAction
  cases k
  case position =>
    simp only [h.state]
    exact hclose _ _
  case servo => exact hclose _ _
  case confirm => exact hclose _ _
  case input => exact hclose _ _
  all_goals rfl

theorem Halted.evaluate (h : Halted q s) (k : FaultKind) (c : Option FaultDetail) : Halted q (evaluate k c s) := by
  have hcond := h.faultOnly (conditionTo_faultOnly k c s)
  unfold Machine.evaluate
  simp only
  split
  · rw [hcond.applyAction]
    exact hcond
  · exact hcond

theorem Halted.positionReport (h : Halted q s) (d : FaultDetail) : Halted q (positionReport d s) := by
  have htag : ∀ tag, Halted q { s with faults := { s.faults with positionTag := tag } } := fun _ => h.keep {}
  unfold Machine.positionReport
  split
  · exact h
  · exact (htag _).evaluate _ _

theorem Halted.reportJump (h : Halted q s) : Halted q (reportJump s) := by
  have hcounted : ∀ {u : State} c, Halted q u → Halted q { u with faults := { u.faults with counters := c } } :=
    fun _ hu => hu.keep {}
  have hreported := (hcounted (u := raiseEvent .positionJump s) { s.faults.counters with
    jumps := s.faults.counters.jumps + 1 } (h.keep {})).positionReport (.positionJump s.tapeMap.pos.afa)
  have hjump : ∀ {u : State}, Halted q u → Halted q (seqJump u) := fun {u} hu => by
    have hnone : heldEntry u = none := by simp [heldEntry, hu.held]
    unfold seqJump seqForcedCloseAll
    simp only [hnone]
    exact hu
  exact hjump hreported

/-! ### The blocks of a tick -/

theorem Halted.decoderTick (h : Halted q s) (path : ReadPath) (r : TickResult) : Halted q (decoderTick path r s) := by
  refine h.keep ?_
  cases path <;> cases r <;> exact {}

theorem Halted.arrivalMoved (h : Halted q s) (r : TickResult) : Halted q (arrivalMoved r s) := by
  have hmoved : ∀ p, Halted q (s.withPosition p) := fun _ => h.keep {}
  unfold Machine.arrivalMoved
  simp only
  split
  · exact (hmoved _).reportJump
  · exact hmoved _

theorem Halted.tapeMapRest (h : Halted q s) (packs : FramePacks) (b : Bool) (fp : Option Afa) :
    Halted q (tapeMapRest packs b fp s) := by
  rw [tapeMapRest_only packs b fp s]
  exact h.keep {}

theorem Halted.takeRightsPack (h : Halted q s) (k : Option RightsPack) : Halted q (takeRightsPack k s) := by
  rw [takeRightsPack_only k s]
  exact h.keep {}

theorem Halted.clogTally (h : Halted q s) (path : ReadPath) (t : Tally) : Halted q (clogTally path t s) := by
  rw [clogTally_only path t s]
  exact h.keep {}

theorem Halted.verifyStep (h : Halted q s) (path : ReadPath) (scan : Option Afa) (j : Bool) (t : Tally) :
    Halted q (verifyStep path scan j t s) := by
  rw [verifyStep_only path scan j t s]
  exact h.keep {}

theorem Halted.rateTally (h : Halted q s) (t : Tally) : Halted q (rateTally t s) := by
  have hwindow : ∀ w, Halted q { s with faults := { s.faults with window := w } } := fun _ => h.keep {}
  unfold Machine.rateTally
  simp only
  split
  · exact h
  · exact (hwindow _).evaluate _ _

theorem Halted.preTally (h : Halted q s) (r : TickResult) : Halted q (preTally r s) := by
  unfold Machine.preTally
  split
  · exact ((h.evaluate _ _).rateTally _).clogTally _ _
  · exact h
  · exact h

theorem Halted.seqFramePosition (h : Halted q s) (fp : Option Afa) (st : PosState) (d : Bool) :
    Halted q (seqFramePosition fp st d s) := by
  have hmoved : Halted q { s with seq := { s.seq with lastPosition := fp } } := h.keep {}
  unfold Machine.seqFramePosition
  simp only
  split
  · next hstate => exact absurd (h.state.symm.trans hstate) (by decide)
  · next hstate => exact absurd (h.state.symm.trans hstate) (by decide)
  all_goals exact hmoved

theorem Halted.verifyResult (h : Halted q s) (path : ReadPath) (r : TickResult) (scan : Option Afa) (j : Bool) :
    Halted q (verifyResult path r scan j s) := by
  unfold Machine.verifyResult
  split
  · exact h.verifyStep _ _ _ _
  · exact h
  · exact h

theorem Halted.keepOldFrame (h : Halted q s) (r : TickResult) (fp : Option Afa) (st : PosState) :
    Halted q (keepOldFrame r fp st s) := h.keep {}

theorem Halted.beforeRightsPack (h : Halted q s) (r : TickResult) : Halted q (beforeRightsPack r s) := by
  rw [beforeRightsPack_eq]
  exact ((h.arrivalMoved r).tapeMapRest _ _ _).keepOldFrame _ _ _

theorem Halted.afterRightsPack (h : Halted q s) (r : TickResult) (s0 : State) : Halted q (afterRightsPack r s0 s) :=
  ((h.preTally r).seqFramePosition _ _ _).verifyResult _ _ _ _

theorem Halted.preTick (h : Halted q s) : Halted q (preTick s) := by
  have hdecoder := h.decoderTick .pre (decoderResult .pre s)
  unfold Machine.preTick
  simp only
  split
  · exact hdecoder.keepOldFrame _ _ _
  · rw [tapeMapArrival_eq]
    exact ((hdecoder.beforeRightsPack _).takeRightsPack _).afterRightsPack _ _

theorem Halted.confirmTally (h : Halted q s) (t : Tally) : Halted q (confirmTally t s) := by
  have hnote : Halted q (noteConf s) := by
    unfold noteConf
    split
    · exact h
    · exact h.keep {}
  have hremoved : ∀ {u : State} l, Halted q u → Halted q { u with formatter := { u.formatter with written := l } } :=
    fun _ hu => hu.keep {}
  unfold Machine.confirmTally
  simp only
  repeat' split
  · exact hnote
  · exact hremoved _ hnote
  · exact (hremoved _ hnote).faultOnly (conditionTo_faultOnly _ _ _)
  · exact (hremoved _ hnote).evaluate _ _

theorem Halted.confTick (h : Halted q s) : Halted q (confTick s) := by
  have hdecoder := h.decoderTick .conf (decoderResult .conf s)
  rw [confTick_eq]
  unfold confUsers
  split
  · exact ((hdecoder.confirmTally _).clogTally _ _).verifyStep _ _ _ _
  · exact hdecoder
  · exact hdecoder

/-- The channels of a released blend unit hold no fade that a tick could count down. -/
theorem Halted.tickBlend (h : Halted q s) : Halted q (tickBlend s) := by
  refine h.keep { blend := ?_ }
  have hl : s.blend.left = ⟨0, 0, none, none, false⟩ := h.blend .left
  have hr : s.blend.right = ⟨0, 0, none, none, false⟩ := h.blend .right
  show { s.blend with left := s.blend.left.tick, right := s.blend.right.tick } = s.blend
  have htick : BlendChannel.tick ⟨0, 0, none, none, false⟩ = ⟨0, 0, none, none, false⟩ := rfl
  rw [hl, hr, htick, ← hl]
  nth_rw 2 [hl]
  rw [← hr]

theorem Halted.tapeMapTick (h : Halted q s) : Halted q (tapeMapTick s) := by
  have hmoved : Halted q { s with tapeMap := { s.tapeMap with
      periodValue := s.tapeMap.pos.afa, pos := (s.tapeMap.pos.tick s.transport.dir).1 } } := h.keep {}
  unfold Machine.tapeMapTick
  simp only
  split
  · exact hmoved.positionReport _
  · exact hmoved

theorem Halted.positionTick (h : Halted q s) : Halted q (positionTick s) := by
  have htag : ∀ tag, Halted q { s with faults := { s.faults with positionTag := tag } } := fun _ => h.keep {}
  unfold Machine.positionTick
  repeat' split
  · exact (htag _).faultOnly (conditionTo_faultOnly _ _ _)
  · exact h
  · exact h

theorem Halted.tickBack (h : Halted q s) : Halted q (tickBack s) := by
  have hclock : ∀ {u : State}, Halted q u → Halted q (tickClock u) := fun hu => hu.keep {}
  exact hclock h.tapeMapTick.tickBlend.positionTick

/-- No frame is marked, so that none is built. -/
theorem Halted.buildStart (h : Halted q s) : buildStart s = s := by
  have hmarked : markedSpan s (blendedFrame s) = none := by
    unfold markedSpan
    simp only [h.pendingOpen, h.openSpan]
    rw [h.gate]
  unfold Machine.buildStart
  simp only [hmarked]

theorem Halted.startSending (h : Halted q s) : Halted q (startSending s) := by
  unfold Machine.startSending
  simp only
  split
  · exact h.keep { ready := h.ready.symm }
  · exact h

theorem Halted.buildAtTick (h : Halted q s) : buildAtTick s = s := by
  simp only [Machine.buildAtTick, h.build]

/-- From the rights unit to the end of a tick. -/
theorem Halted.tickRest (h : Halted q s) :
    Halted q (Machine.startSending (Machine.buildStart (Machine.tickBack (Machine.confTick (Machine.preTick
      (Machine.buildAtTick (tickRights s))))))) := by
  have hrights : Halted q (tickRights s) := h.keep {}
  rw [hrights.buildAtTick]
  have hback := hrights.preTick.confTick.tickBack
  rw [hback.buildStart]
  exact hback.startSending

end

end Sys2Proof.Machine

namespace Sys2Proof.Machine
open Sys2Proof

-- One theorem at a time: the whole text is also compiled as one, where a thread for each theorem in flight asks for more
-- memory than the check allows.
set_option Elab.async false

/-! ## What a whole tick leaves alone (R22) -/

/-- A tick from the rights unit to its end. -/
def tickRest (s : State) : State :=
  startSending (buildStart (tickBack (confTick (preTick (buildAtTick (tickRights s))))))

section
variable (s : State)

theorem tapeMapRest_tickBase (packs : FramePacks) (b : Bool) (fp : Option Afa) : TickBase s (tapeMapRest packs b fp s) := by
  rw [tapeMapRest_only packs b fp s]
  exact {}

theorem seqFramePosition_tickBase (fp : Option Afa) (st : PosState) (d : Bool) :
    TickBase s (seqFramePosition fp st d s) := by
  have hmoved : TickBase s { s with seq := { s.seq with lastPosition := fp } } := {}
  exact hmoved.trans (seqFramePosition_tickHold s fp st d).toTickBase

theorem beforeRightsPack_tickBase (r : TickResult) : TickBase s (beforeRightsPack r s) := by
  rw [beforeRightsPack_eq]
  exact (arrivalMoved_tickHold r s).toTickBase.trans <| (tapeMapRest_tickBase _ _ _ _).trans
    (keepOldFrame_tickHold _ _ _ _).toTickBase

theorem afterRightsPack_tickBase (r : TickResult) (s0 : State) : TickBase s (afterRightsPack r s0 s) :=
  (preTally_tickHold s r).toTickBase.trans <| (seqFramePosition_tickBase _ _ _ _).trans
    (verifyResult_tickHold _ _ _ _ _).toTickBase

theorem preTick_tickBase : TickBase s (preTick s) := by
  have hdecoder := (decoderTick_tickHold s .pre (decoderResult .pre s)).toTickBase
  unfold preTick
  simp only
  refine hdecoder.trans ?_
  split
  · exact (keepOldFrame_tickHold _ _ _ _).toTickBase
  · rw [tapeMapArrival_eq]
    exact (beforeRightsPack_tickBase _ _).trans <| (takeRightsPack_tickHold _ _).toTickBase.trans
      (afterRightsPack_tickBase _ _ _)

theorem tickRest_tickBase : TickBase s (tickRest s) := by
  have hrights : TickBase s (tickRights s) := {}
  exact hrights.trans <| (buildAtTick_tickHold _).toTickBase.trans <| (preTick_tickBase _).trans
    (fromConf_tickHold _).toTickBase

theorem tickRest_ports (p : Port) : PortGrow (s.ports.get p) ((tickRest s).ports.get p) := by
  have hfront := (((tickRights_tickKeep s).trans (buildAtTick_tickKeep _)).rights .pre).ports p
  have hpre := (preTick_core (buildAtTick (tickRights s))).ports p
  rw [decoderTick_ports] at hpre
  exact hfront.trans (hpre.trans ((confTick_to_end _).1 p))

end

/-- The SERVO record after its condition was evaluated (R161). -/
def servoAfter (s : State) (x : Transport) : FaultRecord := s.faults.records.servo.under (servoCondition x) (knownAfa s)

section
variable {s u : State}

theorem TickBase.setServo (h : TickBase s u) (r : FaultRecord) :
    TickBase (setRecord .servo r s) (setRecord .servo r u) :=
  ⟨h.claims, h.settings, h.editList, h.pending, h.recordRate, h.defaultSource, h.analogRights, h.writeEnable, h.digital,
    h.lock, h.history, h.accepted, rfl⟩

end

theorem afterTransport_tickBase (t : Transport) (s : State) :
    TickBase (setRecord .servo (servoAfter s s.transport) s) (afterTransport t s) := by
  have hrange : TickBase s (verifyRange t s) := by
    rw [verifyRange_only]
    exact {}
  have h := afterTransport_frame t s
  exact ⟨h.claims.trans hrange.claims, h.settings.trans hrange.settings, h.editList.trans hrange.editList,
    h.pending.trans hrange.pending, h.recordRate.trans hrange.recordRate, h.defaultSource.trans hrange.defaultSource,
    h.analogRights.trans hrange.analogRights, h.writeEnable.trans hrange.writeEnable, h.digital.trans hrange.digital,
    h.lock.trans hrange.lock, h.history.trans hrange.history, h.accepted.trans hrange.accepted,
    afterTransport_servo t s⟩

section
variable (dir : Direction) (us : Nat) (s : State)

theorem frameTick_eq_tickRest : frameTick dir us s = tickRest (tickTransport dir us (beforeTick s)) := rfl

theorem frameTick_tickBase :
    TickBase (setRecord .servo (servoAfter s (frameTick dir us s).transport) s) (frameTick dir us s) := by
  have hbefore := beforeTick_tickBase s
  have hwork := beforeTick_workFrame s
  have htransport := frameTick_transport dir us s
  have hrest := tickRest_tickBase (tickTransport dir us (beforeTick s))
  rw [← frameTick_eq_tickRest] at hrest
  generalize frameTick dir us s = t at htransport hrest
  generalize beforeTick s = b at hbefore hwork hrest
  have hknown : knownAfa b = knownAfa s := by
    unfold knownAfa
    rw [hwork.posState, hwork.posAfa]
  have hservo : servoAfter b (b.transport.atTick dir us) = servoAfter s t.transport := by
    unfold servoAfter
    rw [hbefore.servo, hknown, htransport, hwork.transport]
  have hmoved : TickBase b (b.withTransport (b.transport.atTick dir us)) := {}
  have hstart := (hbefore.trans hmoved).setServo (servoAfter b (b.transport.atTick dir us))
  have hafter : TickBase (setRecord .servo (servoAfter b (b.transport.atTick dir us))
      (b.withTransport (b.transport.atTick dir us))) (tickTransport dir us b) := afterTransport_tickBase _ _
  rw [← hservo]
  exact hstart.trans (hafter.trans hrest)

end

/-! ## The sample clock at a tick (R29, R30) -/

section
variable (dir : Direction) (us : Nat) (s : State)

theorem clockRate_of_rate {r : Rate} (hmode : s.transport.mode = .play ∨ s.transport.mode = .record)
    (hr : s.tapeMap.pos.rate = some r) : clockRate s = r := by
  unfold clockRate
  rcases hmode with h | h <;> rw [h, hr]

theorem clockRate_of_none (h : (s.transport.mode ≠ .play ∧ s.transport.mode ≠ .record) ∨ s.tapeMap.pos.rate = none) :
    clockRate s = s.formatter.recordRate := by
  unfold clockRate
  split
  · next hmode hr => exact h.elim (fun hno => absurd hmode hno.1) fun hno => by rw [hno] at hr; cases hr
  · next hmode hr => exact h.elim (fun hno => absurd hmode hno.2) fun hno => by rw [hno] at hr; cases hr
  · rfl

/-- The clock after a tick is found by the state after it. -/
theorem frameTick_clock : (frameTick dir us s).clock =
    ⟨clockRate (frameTick dir us s), clockFollows (frameTick dir us s).transport, 0⟩ := by
  rw [frameTick_eq]
  generalize confTick (atConfDecoder dir us s) = x
  show (startSending (buildStart (tickClock (positionTick (tickBlend (tapeMapTick x)))))).clock = _
  have hend : ∀ u, (startSending (buildStart u)).clock = u.clock ∧
      (startSending (buildStart u)).transport = u.transport ∧
      (startSending (buildStart u)).tapeMap.pos.rate = u.tapeMap.pos.rate ∧
      (startSending (buildStart u)).formatter.recordRate = u.formatter.recordRate := fun u => by
    have h := (buildStart_workFrame u).trans (startSending_workFrame _)
    exact ⟨h.clock, h.transport, h.posRate, h.recordRate⟩
  show _ = SampleClock.mk (clockRate (startSending (buildStart (tickClock (positionTick (tickBlend (tapeMapTick x)))))))
    (clockFollows (startSending (buildStart (tickClock (positionTick (tickBlend (tapeMapTick x)))))).transport) 0
  generalize positionTick (tickBlend (tapeMapTick x)) = y
  obtain ⟨hclock, htransport, hrate, hrecord⟩ := hend (tickClock y)
  have hfound : clockRate (startSending (buildStart (tickClock y))) = clockRate y := by
    unfold clockRate
    rw [htransport, hrate, hrecord]
    rfl
  rw [hclock, hfound, htransport]
  rfl

theorem clockFollows_iff {x : Transport} (h : x.stalled = false) :
    clockFollows x = true ↔ 875 ≤ x.ratio ∧ x.ratio ≤ 1125 := by
  simp [clockFollows, h]

end

/-! ## The window lost at a tick (R138) -/

section
variable {dir : Direction} {us : Nat} {s : State} {k : Fin 32}

/-- A tick whose speed or direction loses the write window of a writing entry leaves it closed by force. -/
theorem frameTick_halted (hb : beforeTick s = s) (hopen : s.formatter.gate = .opened)
    (hold : writeWindow s.transport = true) (hnew : writeWindow (s.transport.atTick dir us) = false)
    (hw : writingEntry s = true) (hheld : s.seq.held = some k) :
    Halted (s.seq.failed k ⟨.transport, .run, k + 1, .speed, knownAfa s⟩) (frameTick dir us s) ∧
      ∀ q, EventSet.has (s.ports.get q).report .seqFault = true →
        EventSet.has ((frameTick dir us s).ports.get q).events .seqFault = true := by
  obtain ⟨hmode, hlock, hprot, -⟩ := (writeWindow_iff _).mp hold
  have hlost : WindowLost s.transport (s.withTransport (s.transport.atTick dir us)) :=
    ⟨hold, hnew, hopen, fun h => by have h : s.transport.mode = .unloaded := h; simp [hmode] at h⟩
  have htaken := afterTransport_fails (k := k) hlost hw hheld (.inl hmode)
  have hcause : lossCause (s.transport.atTick dir us) = (.transport, .speed) := lossCause_speed hmode hlock hprot
  have htaken : LossTaken k (.transport, .speed) (s.withTransport (s.transport.atTick dir us)) (tickTransport dir us s) :=
    hcause ▸ htaken
  have heq : frameTick dir us s = tickRest (tickTransport dir us s) := by rw [frameTick_eq_tickRest, hb]
  have hstart : Halted (s.seq.failed k ⟨.transport, .run, k + 1, .speed, knownAfa s⟩) (tickTransport dir us s) := by
    refine ⟨htaken.shut, ?_, by rw [htaken.seq]; rfl, by rw [htaken.seq]; rfl⟩
    rw [htaken.seq]
    rfl
  rw [heq]
  exact ⟨hstart.tickRest, fun q hq => (tickRest_ports _ q).grows _ (htaken.event q hq)⟩

end

end Sys2Proof.Machine

namespace Sys2Proof.Machine
open Sys2Proof

-- One theorem at a time: the whole text is also compiled as one, where a thread for each theorem in flight asks for more
-- memory than the check allows.
set_option Elab.async false

/-! ## A change at the transport interface as one equation -/

/-- What a change at the transport interface may touch. -/
theorem afterTransport_only (x : Transport) (s : State) :
    let t := afterTransport x s
    t = { s with
      ports := t.ports, formatter := t.formatter, blend := t.blend, monitor := t.monitor, outputs := t.outputs
      seq := t.seq, rights := t.rights, faults := t.faults } := by
  intro t
  have h : SeqFrame (verifyRange x s) t := afterTransport_frame x s
  have hrange := verifyRange_only x s
  generalize verifyRange x s = u at h hrange
  rw [hrange] at h
  rw [← h.claims, ← h.transport, ← h.clock, ← h.preDecoder, ← h.confDecoder, ← h.preRepair, ← h.confRepair, ← h.settings,
    ← h.tapeMap, ← h.editList, ← h.pending]

/-- What stands of the blocks that it may touch. -/
theorem afterTransport_stands (x : Transport) (s : State) :
    let t := afterTransport x s
    t.faults.counters = s.faults.counters ∧ t.rights.digital = s.rights.digital ∧ t.rights.tape = s.rights.tape ∧
      t.formatter.recordRate = s.formatter.recordRate ∧ t.formatter.writeEnable = s.formatter.writeEnable ∧
      t.formatter.written = s.formatter.written := by
  intro t
  have h : SeqFrame (verifyRange x s) t := afterTransport_frame x s
  have hrange := verifyRange_only x s
  generalize verifyRange x s = u at h hrange
  rw [hrange] at h
  exact ⟨h.counters, h.digital, h.tape, h.recordRate, h.writeEnable, h.written⟩

/-! ## The entries into the tick history -/

theorem historyEntry_eq (us : Nat) : historyEntry us = if us < 1 then 1 else if 65535 < us then 65535 else us := by
  unfold historyEntry
  split
  · omega
  · split <;> omega

theorem atTick_eq (x : Transport) (dir : Direction) (us : Nat) : x.atTick dir us =
    let e := if us < 1 then 1 else if 65535 < us then 65535 else us
    let h : History := ⟨x.history.e2, x.history.e3, x.history.e4, e⟩
    { x with tick := x.tick + 1, dir := dir, history := h, stalled := false, ratio := speedRatio false h } := by
  unfold Transport.atTick
  rw [historyEntry_eq]
  rfl

theorem writeWindow_eq_false_iff (x : Transport) : writeWindow x = false ↔ ¬ (x.mode = .record ∧ x.lock = true ∧
    x.prot = false ∧ x.stalled = false ∧ x.dir = .forward ∧ 990 ≤ x.ratio ∧ x.ratio ≤ 1010) := by
  rw [← writeWindow_iff, Bool.not_eq_true]

theorem servoCondition_isSome_of_stalled {x : Transport} (hmode : x.mode = .play ∨ x.mode = .record)
    (h : x.stalled = true) : (servoCondition x).isSome = true := by
  rw [servoCondition_eq, if_pos hmode]
  split
  · rfl
  · rfl

/-- The stopped clock of a stall loses the write window. -/
theorem writeWindow_atStall (x : Transport) : writeWindow x.atStall = false := by
  simp [writeWindow, Transport.atStall, writeSpeed]

/-- Settles O18: the tick by `frameTick_transport`, `frameTick_clock`, `frameTick_tickBase` and `frameTick_halted`, the stall
timeout by the cases of a change at the transport interface (`afterTransport_fails`, `afterTransport_pendingOpen`,
`afterTransport_present`). -/
theorem ticksAndStalls : Obligations.TicksAndStalls := by
  unfold Obligations.TicksAndStalls
  intro servo window afa failed
  have hservo : ∀ x, servo x = servoCondition x := fun x => (servoCondition_eq x).symm
  have hwindow : ∀ x, window x ↔ writeWindow x = true := fun x => (writeWindow_iff x).symm
  refine ⟨fun dir us s => ⟨frameTick dir us s, rfl, ?tick⟩, fun s => ⟨stallTimeout s, rfl, ?stall⟩⟩
  case tick =>
    have hbase := frameTick_tickBase dir us s
    have hclock := frameTick_clock dir us s
    have htransport := frameTick_transport dir us s
    have hhalted := @frameTick_halted dir us s
    generalize frameTick dir us s = t at hbase hclock htransport hhalted
    have hrecord : t.formatter.recordRate = s.formatter.recordRate := hbase.recordRate
    have hmode : t.transport.mode = s.transport.mode := by rw [htransport]; rfl
    have hrunning : t.transport.stalled = false := by rw [htransport]; rfl
    refine ⟨htransport.trans (atTick_eq _ _ _), ?next, ?following, ?rate, ?recordRate, hbase.claims, hbase.settings,
      hbase.editList, hbase.pending, hrecord, hbase.defaultSource, hbase.analogRights, hbase.writeEnable, hbase.digital,
      hbase.lock, hbase.history, hbase.accepted, ?servo, ?lost⟩
    case next => rw [hclock]
    case following =>
      rw [hclock]
      exact clockFollows_iff hrunning
    case rate =>
      intro r hmoving hr
      rw [← hmode] at hmoving
      rw [hclock]
      exact clockRate_of_rate _ hmoving hr
    case recordRate =>
      intro h
      rw [← hmode] at h
      rw [hclock, ← hrecord]
      exact clockRate_of_none _ h
    case servo =>
      rw [hservo]
      exact hbase.servo
    case lost =>
      intro k hb hopen hold hnew hw hheld
      rw [hwindow] at hold
      rw [hwindow, htransport, Bool.not_eq_true] at hnew
      obtain ⟨hhalt, hevent⟩ := hhalted hb hopen hold hnew hw hheld
      exact ⟨hhalt.seq, hhalt.gate, hhalt.closePoint, hhalt.pendingOpen, hhalt.openSpan, hhalt.build, hhalt.ready,
        hhalt.run, hhalt.blend, hevent⟩
  case stall =>
    have htransport := stallTimeout_transport s
    have honly := afterTransport_only s.transport (s.withTransport s.transport.atStall)
    have hstands := afterTransport_stands s.transport (s.withTransport s.transport.atStall)
    have hrecord := afterTransport_servo s.transport (s.withTransport s.transport.atStall)
    have hraises := afterTransport_raises (t := s.transport) (s := s.withTransport s.transport.atStall)
    have hpresent := afterTransport_present (t := s.transport) (s := s.withTransport s.transport.atStall)
    have hfails := fun k => afterTransport_fails (t := s.transport) (s := s.withTransport s.transport.atStall) (k := k)
    have hpending := fun k => afterTransport_pendingOpen (t := s.transport) (s := s.withTransport s.transport.atStall) (k := k)
    have hdef : stallTimeout s = afterTransport s.transport (s.withTransport s.transport.atStall) := rfl
    rw [← hdef] at honly hstands hrecord hraises hpresent
    simp only [← hdef] at hfails hpending
    generalize stallTimeout s = t at *
    obtain ⟨hcounters, hdigital, htape, hrate, henable, hwritten⟩ := hstands
    refine ⟨htransport, ?only, hcounters, hdigital, htape, hrate, henable, hwritten, ?servo, ?raises, ?lost, ?pending, ?held⟩
    case only =>
      rw [htransport]
      exact honly
    case servo =>
      rw [hservo, htransport]
      exact hrecord
    case raises =>
      intro hgone hon hc q hq
      rw [hservo, htransport] at hc
      exact hraises hc hgone hon q hq
    case lost =>
      intro k hopen hold hw hheld
      rw [hwindow] at hold
      obtain ⟨hmode, hlock, hprot, -⟩ := (writeWindow_iff _).mp hold
      have hlost : WindowLost s.transport (s.withTransport s.transport.atStall) :=
        ⟨hold, writeWindow_atStall _, hopen, fun h => absurd (hmode.symm.trans h) (by decide)⟩
      have htaken := hfails k hlost hw hheld (.inl hmode)
      have hcause : lossCause s.transport.atStall = (.transport, .speed) := lossCause_speed hmode hlock hprot
      have hseq := htaken.seq
      have hshut := htaken.shut
      rw [show lossCause (s.withTransport s.transport.atStall).transport = (.transport, .speed) from hcause] at hseq
      exact ⟨hseq, hshut.gate, hshut.closePoint, hshut.pendingOpen, hshut.openSpan, hshut.build, hshut.ready, hshut.run,
        htaken.sending, hshut.blend⟩
    case pending =>
      intro k hclosed hopen hw hheld hmode haction hgone
      exact hpending k hclosed hopen hw hheld (servoCondition_isSome_of_stalled hmode rfl) hgone haction
    case held =>
      intro hclosed hthere
      have h := hpresent hclosed hthere
      exact ⟨h.seq, h.blend⟩

end Sys2Proof.Machine

namespace Sys2Proof.Machine
open Sys2Proof

-- One theorem at a time: the whole text is also compiled as one, where a thread for each theorem in flight asks for more
-- memory than the check allows.
set_option Elab.async false

/-! ## What a mode report, and the tape unload it may be, leaves alone (R19, R20) -/

/-- The claims, the settings, the edit list, the sources, the counters and the thresholds stand; events may be added at the
ports. -/
structure ModeKept (s t : State) : Prop where
  ports : ∀ q, PortGrow (s.ports.get q) (t.ports.get q) := by exact fun _ => .refl _
  claims : t.claims = s.claims := by rfl
  clock : t.clock = s.clock := by rfl
  settings : t.settings = s.settings := by rfl
  editList : t.editList = s.editList := by rfl
  preRepair : t.preRepair = s.preRepair := by rfl
  confRepair : t.confRepair = s.confRepair := by rfl
  pending : t.pending = s.pending := by rfl
  recordRate : t.formatter.recordRate = s.formatter.recordRate := by rfl
  defaultSource : t.formatter.defaultSource = s.formatter.defaultSource := by rfl
  analogRights : t.formatter.analogRights = s.formatter.analogRights := by rfl
  writeEnable : t.formatter.writeEnable = s.formatter.writeEnable := by rfl
  written : t.formatter.written = s.formatter.written := by rfl
  counters : t.faults.counters = s.faults.counters := by rfl
  high : t.faults.high = s.faults.high := by rfl
  low : t.faults.low = s.faults.low := by rfl
  window : t.faults.window = s.faults.window := by rfl
  digital : t.rights.digital = s.rights.digital := by rfl
  lock : t.rights.lock = s.rights.lock := by rfl

section
variable {s t u : State}

theorem ModeKept.refl (s : State) : ModeKept s s := {}

theorem ModeKept.trans (h : ModeKept s t) (k : ModeKept t u) : ModeKept s u :=
  ⟨fun q => (h.ports q).trans (k.ports q), k.claims.trans h.claims, k.clock.trans h.clock, k.settings.trans h.settings,
    k.editList.trans h.editList, k.preRepair.trans h.preRepair, k.confRepair.trans h.confRepair,
    k.pending.trans h.pending, k.recordRate.trans h.recordRate, k.defaultSource.trans h.defaultSource,
    k.analogRights.trans h.analogRights, k.writeEnable.trans h.writeEnable, k.written.trans h.written,
    k.counters.trans h.counters, k.high.trans h.high, k.low.trans h.low, k.window.trans h.window,
    k.digital.trans h.digital, k.lock.trans h.lock⟩

theorem SeqFrame.modeKept (h : SeqFrame s t) : ModeKept s t :=
  ⟨h.ports, h.claims, h.clock, h.settings, h.editList, h.preRepair, h.confRepair, h.pending, h.recordRate,
    h.defaultSource, h.analogRights, h.writeEnable, h.written, h.counters, h.high, h.low, h.window, h.digital, h.lock⟩

end

section
variable (s : State)

theorem raiseEvent_modeKept (e : Event) : ModeKept s (raiseEvent e s) := (raiseEvent_seqFrame e s).modeKept

theorem verifyRange_modeKept (t : Transport) : ModeKept s (verifyRange t s) := by
  have hset : ∀ v, ModeKept s (setVerify v s) := fun _ => {}
  unfold verifyRange
  simp only
  split
  · exact (hset _).trans (raiseEvent_modeKept _ _)
  · exact .refl s

theorem afterTransport_modeKept (t : Transport) : ModeKept s (afterTransport t s) :=
  (verifyRange_modeKept s t).trans (afterTransport_frame t s).modeKept

theorem takeMode_modeKept (m : Mode) (lock prot : Bool) : ModeKept s (takeMode m lock prot s) := by
  have hmoved : ∀ x, ModeKept s (s.withTransport x) := fun _ => {}
  unfold takeMode
  simp only
  split
  · exact hmoved _
  · exact (hmoved _).trans (raiseEvent_modeKept _ _)

theorem tapeMapUnload_modeKept : ModeKept s (tapeMapUnload s) := by
  have hmap : ∀ (u : State) m, ModeKept u { u with tapeMap := m } := fun _ _ => {}
  unfold tapeMapUnload emptyIndex indexChange
  simp only
  split
  · exact (hmap _ _).trans (hmap _ _)
  · exact ((hmap _ _).trans (hmap _ _)).trans ((hmap _ _).trans (raiseEvent_modeKept _ _))

/-- The sequencer at a tape unload, with the frame position gone. -/
theorem seqUnload_seqFrame : SeqFrame { s with seq := { s.seq with lastPosition := none } } (seqUnload s) := by
  unfold seqUnload
  simp only
  split
  · exact .refl _
  · exact seqForcedCloseAll_seqFrame _ _ _
  · exact seqForcedCloseAll_seqFrame _ _ _
  · exact seqStop_seqFrame _ _ _ _
  · exact seqStop_seqFrame _ _ _ _
  · split
    · constructor <;> first | rfl | exact fun _ => .refl _
    · exact recordError_seqFrame _ _ _ _ _

theorem seqUnload_recFrame : RecFrame .input s (seqUnload s) := by
  unfold seqUnload
  simp only
  split
  · exact (RecFrame.refl _ s).stop rfl
  · exact (seqForcedCloseAll_recFrame _ _ _).start rfl
  · exact (seqForcedCloseAll_recFrame _ _ _).start rfl
  · exact (seqStop_recFrame _ _ _ _).start rfl
  · exact (seqStop_recFrame _ _ _ _).start rfl
  · split
    · exact (RecFrame.refl _ s).stop rfl
    · exact (recordError_recFrame _ _ _ _ _).start rfl

theorem rightsUnload_modeKept : ModeKept s (rightsUnload s) := by
  have hcandidate : ModeKept s { s with rights := { s.rights with candidate := none } } := {}
  have htape : ∀ (u : State) t, ModeKept u (refreshWord { u with rights := { u.rights with tape := t } }) :=
    fun _ _ => {}
  unfold rightsUnload setTapeRights
  split
  · exact hcandidate
  · exact hcandidate.trans ((htape _ _).trans (raiseEvent_modeKept _ _))

theorem clearHead_modeKept (p : ReadPath) (t : Track) : ModeKept s (clearHead p t s) := {}

theorem endHeadAction_modeKept (p : ReadPath) (t : Track) : ModeKept s (endHeadAction p t s) := by
  have hset : ∀ c, ModeKept s (setHead p t c s) := fun _ => {}
  unfold endHeadAction
  simp only
  split
  · exact (hset _).trans (raiseEvent_modeKept _ _)
  · exact .refl s

theorem stopScan_modeKept (c : StopCause) : ModeKept s (stopScan c s) := by
  have hset : ∀ v, ModeKept s (setVerify v s) := fun _ => {}
  exact (hset _).trans (raiseEvent_modeKept _ _)

end

/-- A head cleared, its action ended (R170). -/
def unloadHead (p : ReadPath) (t : Track) (s : State) : State := endHeadAction p t (clearHead p t s)

/-- The tag of the last POSITION report forgotten. -/
def untagged (s : State) : State := { s with faults := { s.faults with positionTag := none } }

/-- The fault monitor at a tape unload, up to the heads. -/
def unloadConditions (s : State) : State := conditionTo .uncorr none (conditionTo .position none (untagged s))

/-- The verify scan at a tape unload. -/
def unloadScan (s : State) : State := if scanRuns s.faults.verify then stopScan .unload s else s

theorem faultUnload_eq (s : State) : faultUnload s = unloadScan (eachHead unloadHead (unloadConditions s)) := rfl

section
variable (s : State)

theorem eachHead_unloadHead_modeKept : ModeKept s (eachHead unloadHead s) := by
  have hone : ∀ p t u, ModeKept u (unloadHead p t u) := fun p t u =>
    (clearHead_modeKept u p t).trans (endHeadAction_modeKept _ p t)
  exact (hone .pre .a s).trans <| (hone .pre .b _).trans <| (hone .conf .a _).trans (hone .conf .b _)

theorem unloadConditions_modeKept : ModeKept s (unloadConditions s) := by
  have htag : ModeKept s (untagged s) := {}
  exact htag.trans (((conditionTo_seqFrame _ _ _).trans (conditionTo_seqFrame _ _ _)).modeKept)

theorem unloadScan_modeKept : ModeKept s (unloadScan s) := by
  unfold unloadScan
  split
  · exact stopScan_modeKept s _
  · exact .refl s

theorem faultUnload_modeKept : ModeKept s (faultUnload s) := by
  rw [faultUnload_eq]
  exact (unloadConditions_modeKept s).trans <| (eachHead_unloadHead_modeKept _).trans (unloadScan_modeKept _)

theorem tapeUnload_modeKept : ModeKept s (tapeUnload s) := by
  have hposition : ∀ u : State, ModeKept u { u with seq := { u.seq with lastPosition := none } } := fun _ => {}
  have hdecoders : ∀ u, ModeKept u (decodersUnload u) := fun _ => {}
  exact (tapeMapUnload_modeKept s).trans <| ((hposition _).trans (seqUnload_seqFrame _).modeKept).trans <|
    (hdecoders _).trans <| (rightsUnload_modeKept _).trans (faultUnload_modeKept _)

/-! ### The fault records and the transport at a tape unload -/

theorem tapeMapUnload_faults : (tapeMapUnload s).faults = s.faults := by
  unfold tapeMapUnload emptyIndex
  simp only
  split <;> rfl

theorem rightsUnload_faults : (rightsUnload s).faults = s.faults := by
  unfold rightsUnload setTapeRights
  split <;> rfl

/-- The records at the fault monitor's part of the unload, INPUT's apart, are those before it. -/
theorem beforeFaultUnload_get {k : FaultKind} (hk : k ≠ .input) :
    (rightsUnload (decodersUnload (seqUnload (tapeMapUnload s)))).faults.records.get k = s.faults.records.get k := by
  rw [rightsUnload_faults]
  show (seqUnload (tapeMapUnload s)).faults.records.get k = _
  rw [(seqUnload_recFrame _).get k hk hk, tapeMapUnload_faults]

theorem unloadHead_get {k : FaultKind} (hk : k ≠ .clog) (p : ReadPath) (t : Track) :
    (unloadHead p t s).faults.records.get k = s.faults.records.get k := by
  have hset : ∀ c u, (setHead p t c u).faults.records.get k = u.faults.records.get k := fun c u =>
    FaultRecords.get_set_of_ne _ _ _ _ hk
  unfold unloadHead endHeadAction
  simp only
  split
  · exact (hset _ _).trans (hset _ _)
  · exact hset _ _

theorem eachHead_unloadHead_get {k : FaultKind} (hk : k ≠ .clog) :
    (eachHead unloadHead s).faults.records.get k = s.faults.records.get k := by
  unfold eachHead
  rw [unloadHead_get _ hk, unloadHead_get _ hk, unloadHead_get _ hk, unloadHead_get _ hk]

theorem unloadScan_records : (unloadScan s).faults.records = s.faults.records := by
  unfold unloadScan
  split <;> rfl

theorem unloadConditions_get_of_ne {k : FaultKind} (hp : k ≠ .position) (hu : k ≠ .uncorr) (hi : k ≠ .input) :
    (unloadConditions s).faults.records.get k = s.faults.records.get k := by
  unfold unloadConditions
  rw [(conditionTo_recFrame .uncorr none _).get k hu hi, (conditionTo_recFrame .position none _).get k hp hi, untagged]

/-- A kind's record after the fault monitor's part of the unload, CLOG's apart. -/
theorem faultUnload_get {k : FaultKind} (hk : k ≠ .clog) :
    (faultUnload s).faults.records.get k = (unloadConditions s).faults.records.get k := by
  rw [faultUnload_eq, unloadScan_records, eachHead_unloadHead_get _ hk]

theorem tapeUnload_servo : (tapeUnload s).faults.records.servo = s.faults.records.servo := by
  have h := faultUnload_get (rightsUnload (decodersUnload (seqUnload (tapeMapUnload s)))) (k := .servo) (by decide)
  rw [unloadConditions_get_of_ne _ (by decide) (by decide) (by decide), beforeFaultUnload_get _ (by decide)] at h
  exact h

theorem rightsUnload_transport : (rightsUnload s).transport = s.transport := by
  unfold rightsUnload setTapeRights
  split <;> rfl

theorem tapeMapUnload_transport : (tapeMapUnload s).transport = s.transport := by
  unfold tapeMapUnload emptyIndex
  simp only
  split <;> rfl

theorem tapeUnload_transport : (tapeUnload s).transport = s.transport := by
  unfold tapeUnload
  rw [(faultUnload_faultOnly _).transport, rightsUnload_transport]
  show (seqUnload (tapeMapUnload s)).transport = _
  rw [(seqUnload_seqFrame _).transport]
  exact tapeMapUnload_transport s

/-! ## The mode record taken (R19) -/

theorem takeMode_only (m : Mode) (lock prot : Bool) :
    let t := takeMode m lock prot s
    t = { s with ports := t.ports, transport := { s.transport with mode := m, lock := lock, prot := prot } } := by
  unfold takeMode
  simp only
  split <;> rfl

theorem takeMode_event {m : Mode} (lock prot : Bool) (h : m ≠ s.transport.mode) (q : Port)
    (hq : EventSet.has (s.ports.get q).report .modeChanged = true) :
    EventSet.has ((takeMode m lock prot s).ports.get q).events .modeChanged = true := by
  unfold takeMode
  simp only [if_neg h, raiseEvent_port]
  exact notice_has _ _ hq

end

section
variable {s : State} {m : Mode} (lock prot : Bool)

theorem modeChange_loaded (h : m ≠ .unloaded ∨ s.transport.mode = .unloaded) :
    modeChange m lock prot s = afterTransport s.transport (takeMode m lock prot s) := by
  rw [modeChange_eq, if_neg fun hc => h.elim (· hc.1) hc.2]

theorem modeChange_unload (h : s.transport.mode ≠ .unloaded) :
    modeChange .unloaded lock prot s = afterTransport s.transport (tapeUnload (takeMode .unloaded lock prot s)) := by
  rw [modeChange_eq, if_pos ⟨rfl, h⟩]

variable (m s) in
theorem modeChange_transport : (modeChange m lock prot s).transport =
    { s.transport with mode := m, lock := lock, prot := prot } := by
  rw [modeChange_eq, afterTransport_transport]
  split
  · rw [tapeUnload_transport, takeMode_only]
  · rw [takeMode_only]

variable (m s) in
theorem modeChange_modeKept : ModeKept (takeMode m lock prot s) (modeChange m lock prot s) := by
  rw [modeChange_eq]
  refine ModeKept.trans ?_ (afterTransport_modeKept _ _)
  split
  · exact tapeUnload_modeKept _
  · exact .refl _

variable (m s) in
/-- SERVO's record after a mode report (R161). -/
theorem modeChange_servo : (modeChange m lock prot s).faults.records.servo = s.faults.records.servo.under
    (servoCondition { s.transport with mode := m, lock := lock, prot := prot }) (knownAfa s) := by
  have hnone : ∀ (r : FaultRecord) (x : Transport) a b, x.mode = .unloaded →
      r.under (servoCondition x) a = r.under (servoCondition x) b := fun r x a b hx => by
    rw [servoCondition_eq, hx]
    rfl
  rw [modeChange_eq, afterTransport_servo]
  split
  · next h =>
    rw [tapeUnload_transport, tapeUnload_servo, takeMode_only]
    exact hnone _ _ _ _ h.1
  · rw [takeMode_only]
    rfl

end

end Sys2Proof.Machine

namespace Sys2Proof.Machine
open Sys2Proof

-- One theorem at a time: the whole text is also compiled as one, where a thread for each theorem in flight asks for more
-- memory than the check allows.
set_option Elab.async false

/-! ## A fetch writes nothing and leaves the blend unit alone (R123) -/

section
variable {s : State}

theorem giveUp_blend_of_none (h : s.seq.held = none) : (giveUp s).blend = s.blend := by
  rw [giveUp_blend, h]
  rfl

theorem recordError_blend (kind : ErrorKind) (ph : Phase) (k : Fin 32) (d : ErrorDetail) (s : State) :
    (recordError kind ph k d s).blend = s.blend := by
  unfold recordError
  split <;> rfl

theorem seqStop_blend (h : s.seq.held = none) (kind : ErrorKind) (d : ErrorDetail) (k : Fin 32) :
    (seqStop kind d k s).blend = s.blend := by
  have hheld := (recordError_held kind d .fetch k { s with seq := { s.seq with state := .fault, pointer := k } }).trans h
  exact (giveUp_blend_of_none hheld).trans (recordError_blend _ _ _ _ _)

theorem takeEntry_blend (k : Fin 32) (s : State) : (takeEntry k s).blend = s.blend := by
  unfold takeEntry
  rw [reselect_blend, afterSourceChange_blend]

/-- A fetch from a sequencer that holds no entry ends without a write, the blend unit as it was. -/
theorem fetchFrom_still (n : Nat) : ∀ {s : State}, inWrite s = false → s.seq.held = none →
    inWrite (fetchFrom n s) = false ∧ (fetchFrom n s).blend = s.blend := by
  have hstop : ∀ {u : State} kind d k, u.seq.held = none →
      inWrite (seqStop kind d k u) = false ∧ (seqStop kind d k u).blend = u.blend := fun kind d k hu =>
    ⟨by simp [inWrite, seqStop_seq], seqStop_blend hu kind d k⟩
  have hfound : ∀ {u : State} p, u.seq.held = none →
      inWrite (fetchFound p u) = false ∧ (fetchFound p u).blend = u.blend := fun {u} p hu => by
    unfold fetchFound
    simp only
    split
    · exact hstop (u := { u with seq := { u.seq with guard := 0 } }) _ _ _ hu
    · exact ⟨by simp [inWrite, takeEntry_seq], takeEntry_blend _ _⟩
  induction n with
  | zero => exact fun hidle _ => ⟨hidle, rfl⟩
  | succ n ih =>
    intro s hidle hheld
    have hpass : ∀ p q, inWrite (fetchPass p q (fetchFrom n) s) = false ∧
        (fetchPass p q (fetchFrom n) s).blend = s.blend := fun p q => by
      unfold fetchPass
      simp only
      split
      · exact hstop (u := { s with seq := { s.seq with guard := s.seq.guard + 1 } }) _ _ _ hheld
      · split
        · exact ⟨rfl, rfl⟩
        · exact ih (s := { s with seq := { s.seq with guard := s.seq.guard + 1, pointer := q } }) hidle hheld
    rw [fetchFrom_succ]
    split
    · exact hpass _ _
    · exact hpass _ _
    all_goals exact hfound _ hheld

end

/-! ## The completion of an entry (R131) -/

/-- The sequencer after entry `k` was given up, in a state of its own. -/
def Sequencer.ended (q : Sequencer) (st : SeqState) (k : Fin 32) : Sequencer :=
  { q with state := st, pointer := k, held := none, kept := false, holdPending := false, abortPending := false }

/-- An entry given up, with nothing pending. -/
def entryEnded (k : Fin 32) (s : State) : State :=
  clearPending (giveUp { s with seq := { s.seq with state := .idle, pointer := k } })

section
variable {s : State} {k : Fin 32}

theorem endWalk_seq (c : CloseKind) (k : Fin 32) (s : State) :
    (endWalk c k s).seq = { s.seq with state := .idle, lastClose := some (c, k) } := rfl

theorem entryEnded_seq (k : Fin 32) (s : State) : (entryEnded k s).seq = s.seq.ended .idle k := by
  unfold entryEnded
  show { (giveUp _).seq with holdPending := false, abortPending := false } = _
  rw [giveUp_seq]
  rfl

theorem complete_eq (h : s.seq.held = some k) : complete s =
    if s.seq.error.isSome then raiseEvent .seqFault (setSeqState .fault (entryEnded k s))
    else if s.seq.abortPending then endWalk .aborted k (entryEnded k s)
    else if s.editList[k].endFlag then endWalk .complete k (entryEnded k s)
    else if s.seq.holdPending then
      { entryEnded k s with seq := { (entryEnded k s).seq with state := .held, pointer := nextEntry k } }
    else fetch { entryEnded k s with seq := { (entryEnded k s).seq with pointer := nextEntry k } } := by
  unfold complete
  simp only [heldEntry_of_held h]
  rfl

/-- A completion ends the write, both channels of the blend unit released. -/
theorem complete_still (h : s.seq.held = some k) : inWrite (complete s) = false ∧
    ∀ ch, (complete s).blend.get ch = ⟨0, 0, none, none, false⟩ := by
  have hblend : ∀ ch, (entryEnded k s).blend.get ch = ⟨0, 0, none, none, false⟩ :=
    giveUp_blend_get (s := { s with seq := { s.seq with state := .idle, pointer := k } }) h
  have hended := entryEnded_seq k s
  rw [complete_eq h]
  repeat' split
  · exact ⟨rfl, hblend⟩
  · exact ⟨rfl, hblend⟩
  · exact ⟨rfl, hblend⟩
  · exact ⟨rfl, hblend⟩
  · obtain ⟨hidle, hsame⟩ := fetchFrom_still 34
      (s := { entryEnded k s with seq := { (entryEnded k s).seq with pointer := nextEntry k } })
      (by simp [inWrite, hended, Sequencer.ended]) (by simp [hended, Sequencer.ended])
    refine ⟨hidle, fun ch => ?_⟩
    show (fetchFrom 34 _).blend.get ch = _
    rw [hsame]
    exact hblend ch

/-- The sequencer after the completion of entry `k` of the sequencer `q`, whose end flag is `flag`. -/
structure CompletedSeq (q : Sequencer) (k : Fin 32) (flag : Bool) (s : State) (r : Sequencer) : Prop where
  error : q.error.isSome = true → r = q.ended .fault k
  abort : q.error = none → q.abortPending = true → r = { q.ended .idle k with lastClose := some (.aborted, k) }
  endFlag : q.error = none → q.abortPending = false → flag = true →
    r = { q.ended .idle k with lastClose := some (.complete, k) }
  hold : q.error = none → q.abortPending = false → flag = false → q.holdPending = true → r = q.ended .held (k + 1)
  fetch : q.error = none → q.abortPending = false → flag = false → q.holdPending = false →
    ∃ u, r = (Machine.fetch u).seq ∧ u.seq = q.ended .idle (k + 1) ∧ u.editList = s.editList ∧ u.tapeMap = s.tapeMap ∧
      u.formatter.recordRate = s.formatter.recordRate

theorem complete_seq (h : s.seq.held = some k) :
    CompletedSeq s.seq k s.editList[k].endFlag s (complete s).seq := by
  have hended := entryEnded_seq k s
  have hframe : SeqFrame s (entryEnded k s) := by
    have hstart : SeqFrame s { s with seq := { s.seq with state := .idle, pointer := k } } := by
      constructor <;> first | rfl | exact fun _ => .refl _
    exact (hstart.trans (giveUp_seqFrame _)).trans (clearPending_seqFrame _)
  rw [complete_eq h]
  generalize entryEnded k s = v at hended hframe
  refine ⟨fun he => ?_, fun he ha => ?_, fun he ha hf => ?_, fun he ha hf hh => ?_, fun he ha hf hh => ?_⟩
  · rw [if_pos he]
    show { v.seq with state := .fault } = _
    rw [hended]
    rfl
  all_goals
    have he' : ¬ s.seq.error.isSome = true := by simp [he]
    rw [if_neg he']
  · rw [if_pos ha]
    rw [endWalk_seq, hended]
    rfl
  all_goals rw [if_neg (by simp [ha])]
  · rw [if_pos hf]
    rw [endWalk_seq, hended]
    rfl
  all_goals rw [if_neg (by rw [hf]; decide)]
  · rw [if_pos hh, hended]
    rfl
  · rw [if_neg (by simp [hh])]
    refine ⟨_, rfl, ?_, hframe.editList, hframe.tapeMap, hframe.recordRate⟩
    show { v.seq with pointer := nextEntry k } = _
    rw [hended]
    rfl

end

/-! ## The normal end of an ASSEMBLE at the transport interface (R133) -/

section
variable {t : Transport} {s : State} {k : Fin 32}

theorem afterTransport_completes (h : WindowLost t s) (hw : writingEntry s = true) (hheld : s.seq.held = some k)
    (hmode : s.transport.mode ≠ .record) (haction : entryAction s.editList[k] = .assemble) :
    let v := afterTransport t s
    (ForcedShut v ∧ v.formatter.sending = s.formatter.sending) ∧
      CompletedSeq s.seq k s.editList[k].endFlag s v.seq := by
  intro v
  have hrange := verifyRange_faultOnly t s
  have htape := (verifyRange_seqFields t s).2
  have hdone := afterTransport_eq_of_not_writing (t := t) (s := s)
  have hv : v = afterTransport t s := rfl
  rw [← hv] at hdone
  rw [(h.of_faultOnly hrange).completes ((writingEntry_of_faultOnly hrange).trans hw) (by rwa [hrange.seq])
    (by rwa [hrange.transport]) (by rwa [hrange.editList])] at hdone
  clear_value v
  generalize verifyRange t s = u at hrange htape hdone
  have huheld : (cutRequest (forcedCloseRequest u)).seq.held = some k := by
    rw [forcedCloseRequest_seq, hrange.seq]
    exact hheld
  obtain ⟨hidle, hblend⟩ := complete_still huheld
  have hdone := hdone (by simp [writingEntry, hidle])
  have huopen : u.formatter.gate = .opened := by rw [hrange.formatter]; exact h.opened
  obtain ⟨hshut, hsending⟩ := (complete_walkFrame (cutRequest (forcedCloseRequest u))).forcedShut huopen hblend
  refine ⟨⟨hshut.of_faultOnly hdone, by rw [hdone.formatter, hsending, hrange.formatter]⟩, ?_⟩
  have hclose := (forcedCloseRequest_seqFrame u).trans (cutRequest_seqFrame _)
  have hseq := complete_seq huheld
  rw [forcedCloseRequest_seq, hrange.seq, hclose.editList, hrange.editList, ← hdone.seq] at hseq
  obtain ⟨herror, habort, hflag, hhold, hfetch⟩ := hseq
  refine ⟨herror, habort, hflag, hhold, fun he ha hf hh => ?_⟩
  obtain ⟨x, hx, hxseq, hxlist, hxtape, hxrate⟩ := hfetch he ha hf hh
  exact ⟨x, hx, hxseq, by rw [hxlist, hclose.editList, hrange.editList], by rw [hxtape, hclose.tapeMap, htape],
    by rw [hxrate, hclose.recordRate, hrange.formatter]⟩

end

end Sys2Proof.Machine

namespace Sys2Proof.Machine
open Sys2Proof

-- One theorem at a time: the whole text is also compiled as one, where a thread for each theorem in flight asks for more
-- memory than the check allows.
set_option Elab.async false

/-! ## The codes of a mode report (R18, R19) -/

theorem modeOfCode_eq (m : Byte) : modeOfCode m = [Mode.unloaded, .stop, .play, .record, .cue, .wind][m.toNat]? := by
  unfold modeOfCode
  generalize m.toNat = n
  rcases n with _ | _ | _ | _ | _ | _ | n <;> rfl

theorem yesNoOfCode_of_le {c : Byte} (h : c.toNat ≤ 1) : yesNoOfCode c = some (decide (c = 0)) := by
  have hc : c = 0 ∨ c = 1 := by
    rcases Nat.le_one_iff_eq_zero_or_eq_one.mp h with h | h
    · exact .inl (BitVec.eq_of_toNat_eq h)
    · exact .inr (BitVec.eq_of_toNat_eq h)
  rcases hc with rfl | rfl <;> rfl

theorem yesNoOfCode_of_gt {c : Byte} (h : 1 < c.toNat) : yesNoOfCode c = none := by
  unfold yesNoOfCode
  split
  · omega
  · omega
  · rfl

section
variable {m l r : Byte} {s : State}

theorem modeReport_of_range (h : 5 < m.toNat ∨ 1 < l.toNat ∨ 1 < r.toNat) :
    modeReport m l r s = (s, .range, .zeros) := by
  unfold modeReport
  rcases h with hm | hl | hr
  · have hnone : modeOfCode m = none := by
      rw [modeOfCode_eq]
      exact List.getElem?_eq_none (by show 6 ≤ m.toNat; omega)
    simp only [hnone]
  · cases modeOfCode m <;> simp only [yesNoOfCode_of_gt hl]
  · cases modeOfCode m <;> cases yesNoOfCode l <;> simp only [yesNoOfCode_of_gt hr]

theorem modeReport_of_mode {mode : Mode} (hm : modeOfCode m = some mode) (hl : l.toNat ≤ 1) (hr : r.toNat ≤ 1) :
    modeReport m l r s = (modeChange mode (decide (l = 0)) (decide (r = 0)) s, .ok,
      .modeRecord mode (decide (l = 0)) (decide (r = 0))) := by
  unfold modeReport
  simp only [hm, yesNoOfCode_of_le hl, yesNoOfCode_of_le hr]

end

section
variable {s : State} {k : Fin 32} {m : Mode} {lock prot : Bool}

/-! ## A mode report that keeps the tape loaded -/

/-- What such a report leaves of the tape map, the decoders, the tape rights and the heads. -/
theorem modeChange_loaded_stands (h : m ≠ .unloaded ∨ s.transport.mode = .unloaded) :
    let t := modeChange m lock prot s
    t.tapeMap = s.tapeMap ∧ t.preDecoder = s.preDecoder ∧ t.confDecoder = s.confDecoder ∧
      t.rights.tape = s.rights.tape ∧ t.faults.heads = s.faults.heads := by
  intro t
  have ht : t = afterTransport s.transport (takeMode m lock prot s) := modeChange_loaded lock prot h
  have hframe := afterTransport_frame s.transport (takeMode m lock prot s)
  rw [← ht] at hframe
  clear_value t
  rw [verifyRange_only, takeMode_only] at hframe
  exact ⟨hframe.tapeMap, hframe.preDecoder, hframe.confDecoder, hframe.tape, hframe.heads⟩

/-- The window of the report lost at the state that took its mode record. -/
theorem takeMode_windowLost (hopen : s.formatter.gate = .opened) (hold : writeWindow s.transport = true)
    (hloaded : m ≠ .unloaded) (hcause : m ≠ .record ∨ lock = false ∨ prot = true) :
    WindowLost s.transport (takeMode m lock prot s) := by
  rw [takeMode_only]
  refine ⟨hold, ?_, hopen, hloaded⟩
  rw [writeWindow_eq_false_iff]
  rintro ⟨hmode, hlock, hprot, -⟩
  have hmode : m = .record := hmode
  have hlock : lock = true := hlock
  have hprot : prot = false := hprot
  rcases hcause with h | h | h
  · exact h hmode
  · rw [hlock] at h; cases h
  · rw [hprot] at h; cases h

theorem takeMode_writing (m : Mode) (lock prot : Bool) (s : State) :
    writingEntry (takeMode m lock prot s) = writingEntry s := by
  rw [takeMode_only]
  rfl

theorem takeMode_seq (m : Mode) (lock prot : Bool) (s : State) : (takeMode m lock prot s).seq = s.seq := by
  rw [takeMode_only]

theorem takeMode_editList (m : Mode) (lock prot : Bool) (s : State) :
    (takeMode m lock prot s).editList = s.editList := by
  rw [takeMode_only]

theorem takeMode_formatter (m : Mode) (lock prot : Bool) (s : State) :
    (takeMode m lock prot s).formatter = s.formatter := by
  rw [takeMode_only]

theorem takeMode_knownAfa (m : Mode) (lock prot : Bool) (s : State) :
    knownAfa (takeMode m lock prot s) = knownAfa s := by
  rw [takeMode_only]
  rfl

theorem takeMode_transport (m : Mode) (lock prot : Bool) (s : State) :
    (takeMode m lock prot s).transport = { s.transport with mode := m, lock := lock, prot := prot } := by
  rw [takeMode_only]

theorem takeMode_records (m : Mode) (lock prot : Bool) (s : State) :
    (takeMode m lock prot s).faults = s.faults := by
  rw [takeMode_only]

/-- The first cause of a window lost by a report (R138). -/
theorem lossCause_report (x : Transport) (hcause : m ≠ .record ∨ lock = false ∨ prot = true) :
    lossCause { x with mode := m, lock := lock, prot := prot } =
      if m ≠ .record then (.transport, .notRecord) else if lock = false then (.transport, .noLock)
        else (.tapeProtected, .absent) := by
  unfold lossCause
  by_cases hm : m = .record
  · cases lock
    · simp [hm]
    · have hprot : prot = true := by simpa [hm] using hcause
      simp [hm, hprot]
  · simp [hm]

section
variable (hopen : s.formatter.gate = .opened) (hold : writeWindow s.transport = true) (hloaded : m ≠ .unloaded)
  (hcause : m ≠ .record ∨ lock = false ∨ prot = true) (hw : writingEntry s = true) (hheld : s.seq.held = some k)
include hopen hold hloaded hcause hw hheld

/-- A report that loses the window of a writing entry closes it by force. -/
theorem modeChange_fails (haction : m = .record ∨ entryAction s.editList[k] ≠ .assemble) :
    LossTaken k (if m ≠ .record then (.transport, .notRecord) else if lock = false then (.transport, .noLock)
      else (.tapeProtected, .absent)) s (modeChange m lock prot s) := by
  have hlost := takeMode_windowLost hopen hold hloaded hcause
  have hports := (takeMode_modeKept s m lock prot).ports
  have htransport := takeMode_transport m lock prot s
  have htaken := afterTransport_fails (k := k) hlost ((takeMode_writing m lock prot s).trans hw)
    (by rwa [takeMode_seq]) (by rw [htransport, takeMode_editList]; exact haction)
  rw [htransport, lossCause_report _ hcause, ← modeChange_loaded lock prot (.inl hloaded)] at htaken
  refine ⟨?_, htaken.shut, ?_, fun q hq => htaken.event q ?_⟩
  · rw [htaken.seq, takeMode_seq, takeMode_knownAfa]
  · rw [htaken.sending, takeMode_formatter]
  · rw [(hports q).rest]
    exact hq

/-- A report that takes the mode out of RECORD ends an ASSEMBLE normally. -/
theorem modeChange_completes (hmode : m ≠ .record) (haction : entryAction s.editList[k] = .assemble) :
    (ForcedShut (modeChange m lock prot s) ∧
      (modeChange m lock prot s).formatter.sending = s.formatter.sending) ∧
      CompletedSeq s.seq k s.editList[k].endFlag s (modeChange m lock prot s).seq := by
  have hlost := takeMode_windowLost hopen hold hloaded hcause
  have htransport := takeMode_transport m lock prot s
  have h := afterTransport_completes (k := k) hlost ((takeMode_writing m lock prot s).trans hw)
    (by rwa [takeMode_seq]) (by rw [htransport]; exact hmode) (by rwa [takeMode_editList])
  rw [← modeChange_loaded lock prot (.inl hloaded), takeMode_seq, takeMode_editList, takeMode_formatter] at h
  obtain ⟨hshut, hseq⟩ := h
  refine ⟨hshut, hseq.error, hseq.abort, hseq.endFlag, hseq.hold, fun he ha hf hh => ?_⟩
  obtain ⟨u, hu, huseq, hulist, hutape, hurate⟩ := hseq.fetch he ha hf hh
  rw [takeMode_only] at hulist hutape hurate
  exact ⟨u, hu, huseq, hulist, hutape, hurate⟩

end

/-- A report whose SERVO action finds an open pending closes the writing entry by force (R138). -/
theorem modeChange_pendingOpen (hclosed : s.formatter.gate = .closed) (hpending : s.formatter.pendingOpen.isSome = true)
    (hw : writingEntry s = true) (hheld : s.seq.held = some k)
    (hc : (servoCondition { s.transport with mode := m, lock := lock, prot := prot }).isSome = true)
    (hgone : s.faults.records.servo.present = false)
    (hmode : s.faults.records.servo.mode = .latched ∨ s.faults.records.servo.mode = .auto) :
    let v := modeChange m lock prot s
    v.seq = s.seq.failed k ⟨.transport, .run, k + 1, .absent, knownAfa s⟩ ∧ v.formatter.gate = .closed ∧
      v.formatter.pendingOpen = none ∧ v.formatter.build = none ∧ v.formatter.ready = none ∧
      ∀ ch, v.blend.get ch = ⟨0, 0, none, none, false⟩ := by
  have hloaded : m ≠ .unloaded := fun h => by
    rw [servoCondition_eq, if_neg (by rw [h]; simp)] at hc
    cases hc
  have h := afterTransport_pendingOpen (t := s.transport) (s := takeMode m lock prot s) (k := k)
    (by rwa [takeMode_formatter]) (by rwa [takeMode_formatter]) ((takeMode_writing m lock prot s).trans hw)
    (by rwa [takeMode_seq]) (by rwa [takeMode_transport]) (by rwa [takeMode_records]) (by rwa [takeMode_records])
  rwa [← modeChange_loaded lock prot (.inl hloaded), takeMode_seq, takeMode_knownAfa] at h

end

/-- Settles O20: the refusal by the codes, the frame by `modeChange_modeKept`, the lost window by `modeChange_fails` and
`modeChange_completes`, the open pending by `modeChange_pendingOpen`. -/
theorem modeReportTaken : Obligations.ModeReportTaken := by
  unfold Obligations.ModeReportTaken
  intro p m l r s hrise hclaim
  have hexec : exec (.modeReport p m l r) s = .next (request p 0x80 .transportClass (modeReport m l r) s) := rfl
  rw [request_transport _ hrise hclaim] at hexec
  refine ⟨fun hrange => by rw [hexec, modeReport_of_range hrange], fun mode hm hl hr => ?_⟩
  intro servo afa ended failed
  rw [← modeOfCode_eq] at hm
  rw [modeReport_of_mode hm hl hr] at hexec
  have hservo : servo = servoCondition { s.transport with mode := mode, lock := decide (l = 0), prot := decide (r = 0) } := by
    rw [servoCondition_eq]
    simp only [decide_eq_false_iff_not]
    rfl
  have htransport := modeChange_transport s mode (decide (l = 0)) (decide (r = 0))
  have hkept := modeChange_modeKept s mode (decide (l = 0)) (decide (r = 0))
  have hrecord := modeChange_servo s mode (decide (l = 0)) (decide (r = 0))
  have hstart := takeMode_modeKept s mode (decide (l = 0)) (decide (r = 0))
  have hevent := @takeMode_event s mode (decide (l = 0)) (decide (r = 0))
  have hstands := @modeChange_loaded_stands s mode (decide (l = 0)) (decide (r = 0))
  have hfails := fun k => @modeChange_fails s k mode (decide (l = 0)) (decide (r = 0))
  have hcompletes := fun k => @modeChange_completes s k mode (decide (l = 0)) (decide (r = 0))
  have hpending := fun k => @modeChange_pendingOpen s k mode (decide (l = 0)) (decide (r = 0))
  have hall := hstart.trans hkept
  generalize modeChange mode (decide (l = 0)) (decide (r = 0)) s = v at *
  refine ⟨_, hexec, htransport, ?response, ?event, hall.claims, hall.clock, hall.settings, hall.editList, hall.preRepair,
    hall.confRepair, hall.pending, hall.recordRate, hall.defaultSource, hall.analogRights, hall.writeEnable, hall.written,
    hall.counters, hall.high, hall.low, hall.window, hall.digital, hall.lock, hstands, ?servo, ?lost, ?pending⟩
  case response => rw [respond_port]
  case event =>
    intro hne q hq
    have h := (hkept.ports q).grows _ (hevent hne q hq)
    by_cases hqp : q = p
    · subst hqp
      rw [respond_port]
      exact h
    · rwa [respond_other_port _ _ _ _ _ _ hqp]
  case servo =>
    rw [hservo]
    exact hrecord
  case lost =>
    intro k hloaded hopen hw hheld hmode hlock hprot hrunning hdir hlow hhigh hcause
    have hold : writeWindow s.transport = true := 
      (writeWindow_iff _).mpr ⟨hmode, hlock, hprot, hrunning, hdir, hlow, hhigh⟩
    have hcause : mode ≠ .record ∨ decide (l = 0) = false ∨ decide (r = 0) = true := by simpa using hcause
    by_cases haction : mode = .record ∨ entryAction s.editList[k] ≠ .assemble
    · have htaken := hfails k hopen hold hloaded hcause hw hheld haction
      have hshut := htaken.shut
      have hseq := htaken.seq
      refine ⟨hshut.gate, hshut.closePoint, hshut.pendingOpen, hshut.openSpan, hshut.build, hshut.ready, hshut.run,
        htaken.sending, hshut.blend, fun hm hl => ?_, fun hm hl => ?_, fun hm _ => ?_, fun hm ha => ?_⟩
      · rw [if_neg (by simp [hm]), if_pos (by simpa using hl)] at hseq
        exact hseq
      · rw [if_neg (by simp [hm]), if_neg (by simp [hl])] at hseq
        exact hseq
      · rw [if_pos hm] at hseq
        exact hseq
      · exact (haction.elim hm (· ha)).elim
    · obtain ⟨hm, ha⟩ := not_or.mp haction
      have ha : entryAction s.editList[k] = .assemble := not_not.mp ha
      obtain ⟨⟨hshut, hsending⟩, hseq⟩ := hcompletes k hopen hold hloaded hcause hw hheld hm ha
      exact ⟨hshut.gate, hshut.closePoint, hshut.pendingOpen, hshut.openSpan, hshut.build, hshut.ready, hshut.run,
        hsending, hshut.blend, fun h => absurd h hm, fun h => absurd h hm, fun _ h => absurd ha h, fun _ _ =>
        ⟨hseq.error, hseq.abort, hseq.endFlag, hseq.hold, hseq.fetch⟩⟩
  case pending =>
    intro k hclosed hopen hw hheld hc hgone haction
    rw [hservo] at hc
    exact hpending k hclosed hopen hw hheld hc hgone haction

end Sys2Proof.Machine

namespace Sys2Proof.Machine
open Sys2Proof

-- One theorem at a time: the whole text is also compiled as one, where a thread for each theorem in flight asks for more
-- memory than the check allows.
set_option Elab.async false

/-! ## The clog heads at a tape unload (R165, R170) -/

/-- The CLOG record's condition and action are those of its heads (R165). -/
def ClogSynced (s : State) : Prop :=
  s.faults.records.clog.present = s.faults.heads.list.any (·.present) ∧
    s.faults.records.clog.action = s.faults.heads.list.any (·.action)

theorem ClogHeads.set_set (h : ClogHeads) (p : ReadPath) (t : Track) (c d : ClogHead) :
    (h.set p t c).set p t d = h.set p t d := by cases p <;> cases t <;> rfl

section
variable (p : ReadPath) (t : Track) (s : State)

theorem setHead_synced (c : ClogHead) : ClogSynced (setHead p t c s) := ⟨rfl, rfl⟩

theorem setHead_heads (c : ClogHead) : (setHead p t c s).faults.heads = s.faults.heads.set p t c := rfl

/-- A cleared head whose action is ended: by a second clearing, with FAULT_ENDED, when an action was in force. -/
theorem unloadHead_eq : unloadHead p t s =
    if (s.faults.heads.get p t).action then
      raiseEvent .faultEnded (setHead p t ⟨0, false, false⟩ (clearHead p t s))
    else clearHead p t s := by
  have hget : (clearHead p t s).faults.heads.get p t =
      { s.faults.heads.get p t with count := 0, present := false } := ClogHeads.get_set _ _ _ _
  unfold unloadHead endHeadAction
  simp only [hget]

theorem unloadHead_heads : (unloadHead p t s).faults.heads = s.faults.heads.set p t ⟨0, false, false⟩ := by
  rw [unloadHead_eq]
  split
  · show (setHead p t ⟨0, false, false⟩ (clearHead p t s)).faults.heads = _
    rw [setHead_heads]
    exact ClogHeads.set_set _ _ _ _ _
  · next h =>
    have h : (s.faults.heads.get p t).action = false := by simpa using h
    show s.faults.heads.set p t { s.faults.heads.get p t with count := 0, present := false } = _
    rw [← h]

theorem unloadHead_synced : ClogSynced (unloadHead p t s) := by
  rw [unloadHead_eq]
  split
  · exact setHead_synced _ _ _ _
  · exact setHead_synced _ _ _ _

theorem unloadHead_verify : (unloadHead p t s).faults.verify = s.faults.verify := by
  rw [unloadHead_eq]
  split <;> rfl

theorem unloadHead_positionTag : (unloadHead p t s).faults.positionTag = s.faults.positionTag := by
  rw [unloadHead_eq]
  split <;> rfl

theorem unloadHead_modeKept : ModeKept s (unloadHead p t s) :=
  (clearHead_modeKept s p t).trans (endHeadAction_modeKept _ p t)

/-- An action in force on a head ends with FAULT_ENDED. -/
theorem unloadHead_event (h : (s.faults.heads.get p t).action = true) (q : Port)
    (hq : EventSet.has (s.ports.get q).report .faultEnded = true) :
    EventSet.has ((unloadHead p t s).ports.get q).events .faultEnded = true := by
  rw [unloadHead_eq, if_pos h, raiseEvent_port]
  exact notice_has _ _ hq

end

section
variable (s : State)

theorem eachHead_unloadHead_heads : (eachHead unloadHead s).faults.heads =
    ⟨⟨0, false, false⟩, ⟨0, false, false⟩, ⟨0, false, false⟩, ⟨0, false, false⟩⟩ := by
  unfold eachHead
  rw [unloadHead_heads, unloadHead_heads, unloadHead_heads, unloadHead_heads]
  rfl

theorem eachHead_unloadHead_clog : (eachHead unloadHead s).faults.records.clog.present = false ∧
    (eachHead unloadHead s).faults.records.clog.action = false := by
  have hsynced : ClogSynced (eachHead unloadHead s) := unloadHead_synced _ _ _
  have hheads := eachHead_unloadHead_heads s
  generalize eachHead unloadHead s = u at hsynced hheads
  obtain ⟨hpresent, haction⟩ := hsynced
  rw [hheads] at hpresent haction
  exact ⟨hpresent, haction⟩

theorem eachHead_unloadHead_verify : (eachHead unloadHead s).faults.verify = s.faults.verify := by
  unfold eachHead
  rw [unloadHead_verify, unloadHead_verify, unloadHead_verify, unloadHead_verify]

theorem eachHead_unloadHead_positionTag : (eachHead unloadHead s).faults.positionTag = s.faults.positionTag := by
  unfold eachHead
  rw [unloadHead_positionTag, unloadHead_positionTag, unloadHead_positionTag, unloadHead_positionTag]

end

/-- An action is in force on a head, and port `q` asks for FAULT_ENDED. -/
def ActionHeard (path : ReadPath) (tr : Track) (q : Port) (s : State) : Prop :=
  (s.faults.heads.get path tr).action = true ∧ EventSet.has (s.ports.get q).report .faultEnded = true

section
variable {path : ReadPath} {tr : Track} {q : Port} {s : State}

theorem ActionHeard.event (h : ActionHeard path tr q s) :
    EventSet.has ((unloadHead path tr s).ports.get q).events .faultEnded = true :=
  unloadHead_event path tr s h.1 q h.2

/-- Another head's part of the unload leaves it so. -/
theorem ActionHeard.other (h : ActionHeard path tr q s) {p : ReadPath} {t : Track} (hne : path ≠ p ∨ tr ≠ t) :
    ActionHeard path tr q (unloadHead p t s) := by
  have hget : (s.faults.heads.set p t ⟨0, false, false⟩).get path tr = s.faults.heads.get path tr := by
    cases path <;> cases tr <;> cases p <;> cases t <;> first | rfl | exact absurd hne (by decide)
  refine ⟨?_, ?_⟩
  · rw [unloadHead_heads, hget]
    exact h.1
  · rw [((unloadHead_modeKept p t s).ports q).rest]
    exact h.2

/-- The action of any of the four heads ends with FAULT_ENDED. -/
theorem eachHead_unloadHead_event (h : ActionHeard path tr q s) :
    EventSet.has ((eachHead unloadHead s).ports.get q).events .faultEnded = true := by
  have hgrow : ∀ p t {u : State}, EventSet.has (u.ports.get q).events .faultEnded = true →
      EventSet.has ((unloadHead p t u).ports.get q).events .faultEnded = true := fun p t u hu =>
    ((unloadHead_modeKept p t u).ports q).grows _ hu
  cases path <;> cases tr
  · exact hgrow .conf .b (hgrow .conf .a (hgrow .pre .b h.event))
  · exact hgrow .conf .b (hgrow .conf .a (h.other (by decide)).event)
  · exact hgrow .conf .b ((h.other (by decide)).other (by decide)).event
  · exact (((h.other (by decide)).other (by decide)).other (by decide)).event

end

/-! ## POSITION and UNCORR at a tape unload (R166, R167, R170) -/

section
variable (s : State)

/-- An AUTO action ends with FAULT_ENDED when its condition goes (R159). -/
theorem conditionTo_ends {k : FaultKind} (hpresent : (s.faults.records.get k).present = true)
    (hmode : (s.faults.records.get k).mode = .auto) (haction : (s.faults.records.get k).action = true) (q : Port)
    (hq : EventSet.has (s.ports.get q).report .faultEnded = true) :
    EventSet.has ((conditionTo k none s).ports.get q).events .faultEnded = true := by
  unfold conditionTo
  simp only [hpresent, hmode, if_true]
  unfold endAction
  simp only [setRecord_get, haction, if_true, raiseEvent_port]
  exact notice_has _ _ hq

theorem unloadConditions_get {k : FaultKind} (hk : k = .position ∨ k = .uncorr) :
    (unloadConditions s).faults.records.get k = (s.faults.records.get k).under none none := by
  have hafa : ∀ (r : FaultRecord) a, r.under none a = r.under none none := fun _ _ => rfl
  unfold unloadConditions
  rcases hk with rfl | rfl
  · rw [(conditionTo_recFrame .uncorr none _).get .position (by decide) (by decide), conditionTo_get, hafa, untagged]
  · rw [conditionTo_get, (conditionTo_recFrame .position none _).get .uncorr (by decide) (by decide), hafa,
      untagged]

/-- What the conditions' going leaves of the rest of the fault monitor. -/
theorem unloadConditions_rest : (unloadConditions s).faults.heads = s.faults.heads ∧
    (unloadConditions s).faults.verify = s.faults.verify ∧ (unloadConditions s).faults.positionTag = none := by
  have h := (conditionTo_seqFrame .position none (untagged s)).trans
    (conditionTo_seqFrame .uncorr none _)
  exact ⟨h.heads, h.verify, h.positionTag⟩

theorem unloadConditions_event {k : FaultKind} (hk : k = .position ∨ k = .uncorr)
    (hpresent : (s.faults.records.get k).present = true) (hmode : (s.faults.records.get k).mode = .auto)
    (haction : (s.faults.records.get k).action = true) (q : Port)
    (hq : EventSet.has (s.ports.get q).report .faultEnded = true) :
    EventSet.has ((unloadConditions s).ports.get q).events .faultEnded = true := by
  have hposition := (conditionTo_seqFrame .position none (untagged s)).ports q
  have huncorr := (conditionTo_seqFrame .uncorr none (conditionTo .position none (untagged s))).ports q
  rcases hk with rfl | rfl
  · exact huncorr.grows _ (conditionTo_ends (untagged s) hpresent hmode haction q hq)
  · have hget := (conditionTo_recFrame .position none (untagged s)).get .uncorr (by decide) (by decide)
    refine conditionTo_ends (k := .uncorr) _ (by rw [hget]; exact hpresent) (by rw [hget]; exact hmode)
      (by rw [hget]; exact haction) q ?_
    rw [hposition.rest]
    exact hq

/-! ## The verify scan at a tape unload (R177) -/

theorem scanRuns_iff (v : VerifyRecord) : scanRuns v = true ↔ v.state = .waiting ∨ v.state = .scanning := by
  simp [scanRuns]

theorem unloadScan_of_runs (h : s.faults.verify.state = .waiting ∨ s.faults.verify.state = .scanning) :
    (unloadScan s).faults.verify = { s.faults.verify with state := .stopped, stopCause := some .unload } := by
  unfold unloadScan
  rw [if_pos ((scanRuns_iff _).mpr h)]
  rfl

theorem unloadScan_not_scanning : (unloadScan s).faults.verify.state ≠ .scanning := by
  unfold unloadScan
  split
  · exact fun h => by cases h
  · next h => exact fun hs => h ((scanRuns_iff _).mpr (.inr hs))

theorem unloadScan_heads : (unloadScan s).faults.heads = s.faults.heads := by
  unfold unloadScan
  split <;> rfl

theorem unloadScan_positionTag : (unloadScan s).faults.positionTag = s.faults.positionTag := by
  unfold unloadScan
  split <;> rfl

/-! ## The fault monitor at a tape unload, whole (R170) -/

/-- What a tape unload leaves at the fault monitor. -/
structure FaultsUnloaded (s t : State) : Prop where
  heads : ∀ path tr, t.faults.heads.get path tr = ⟨0, false, false⟩
  clog : t.faults.records.clog.present = false ∧ t.faults.records.clog.action = false
  positionTag : t.faults.positionTag = none
  records : ∀ k, k = .position ∨ k = .uncorr → t.faults.records.get k = (s.faults.records.get k).under none none
  event : ∀ q, EventSet.has (s.ports.get q).report .faultEnded = true →
    ((∃ path tr, (s.faults.heads.get path tr).action = true) ∨ ∃ k, (k = .position ∨ k = .uncorr) ∧
      (s.faults.records.get k).present = true ∧ (s.faults.records.get k).mode = .auto ∧
      (s.faults.records.get k).action = true) → EventSet.has (t.ports.get q).events .faultEnded = true
  verify : s.faults.verify.state = .waiting ∨ s.faults.verify.state = .scanning →
    t.faults.verify = { s.faults.verify with state := .stopped, stopCause := some .unload }

theorem faultUnload_unloaded : FaultsUnloaded s (faultUnload s) := by
  obtain ⟨hheads, hverify, htag⟩ := unloadConditions_rest s
  have hconditions := unloadConditions_modeKept s
  have heach := eachHead_unloadHead_modeKept (unloadConditions s)
  have hscan := unloadScan_modeKept (eachHead unloadHead (unloadConditions s))
  rw [faultUnload_eq]
  refine ⟨fun path tr => ?_, ?_, ?_, fun k hk => ?_, fun q hq hended => ?_, fun hruns => ?_⟩
  · rw [unloadScan_heads, eachHead_unloadHead_heads]
    cases path <;> cases tr <;> rfl
  · rw [unloadScan_records]
    exact eachHead_unloadHead_clog _
  · rw [unloadScan_positionTag, eachHead_unloadHead_positionTag, htag]
  · rw [unloadScan_records, eachHead_unloadHead_get _ (by rcases hk with rfl | rfl <;> decide), unloadConditions_get s hk]
  · refine (hscan.ports q).grows _ ?_
    rcases hended with ⟨path, tr, haction⟩ | ⟨k, hk, hpresent, hmode, haction⟩
    · refine eachHead_unloadHead_event (path := path) (tr := tr) ⟨by rw [hheads]; exact haction, ?_⟩
      rw [(hconditions.ports q).rest]
      exact hq
    · exact (heach.ports q).grows _ (unloadConditions_event s hk hpresent hmode haction q hq)
  · have hsame : (eachHead unloadHead (unloadConditions s)).faults.verify = s.faults.verify := by
      rw [eachHead_unloadHead_verify, hverify]
    rw [unloadScan_of_runs _ (by rw [hsame]; exact hruns), hsame]

end

/-! ## The end of a tape unload: SERVO goes with the mode (R161) -/

theorem evaluate_none (k : FaultKind) (s : State) : evaluate k none s = conditionTo k none s := by
  have hno : raisedWithAction k s (conditionTo k none s) = false := by
    unfold raisedWithAction
    rw [conditionTo_get]
    simp [FaultRecord.under]
  unfold evaluate
  simp only [hno, Bool.false_eq_true, if_false]

theorem verifyRange_of_not_scanning (t : Transport) {s : State} (h : s.faults.verify.state ≠ .scanning) :
    verifyRange t s = s := by
  unfold verifyRange
  exact if_neg fun hc => h hc.1

theorem afterTransport_unloaded (t : Transport) {s : State} (hmode : s.transport.mode = .unloaded)
    (hscan : s.faults.verify.state ≠ .scanning) : afterTransport t s = conditionTo .servo none s := by
  have hnone : servoCondition s.transport = none := by
    rw [servoCondition_eq, hmode]
    rfl
  unfold afterTransport
  rw [verifyRange_of_not_scanning t hscan, windowLoss_of_unloaded t s hmode]
  unfold evaluateServo
  rw [hnone, evaluate_none]

/-- SERVO's condition going leaves the rest of the unload at the fault monitor as it is. -/
theorem FaultsUnloaded.servoGone {s t : State} (h : FaultsUnloaded s t) :
    FaultsUnloaded s (conditionTo .servo none t) := by
  have hframe := conditionTo_seqFrame .servo none t
  have hget : ∀ {k : FaultKind}, k ≠ .servo → k ≠ .input →
      (conditionTo .servo none t).faults.records.get k = t.faults.records.get k :=
    fun hs hi => (conditionTo_recFrame .servo none t).get _ hs hi
  have hclog : (conditionTo .servo none t).faults.records.clog = t.faults.records.clog :=
    hget (k := .clog) (by decide) (by decide)
  refine ⟨by rw [hframe.heads]; exact h.heads, by rw [hclog]; exact h.clog, by rw [hframe.positionTag]; exact h.positionTag,
    fun k hk => ?_, fun q hq he => (hframe.ports q).grows _ (h.event q hq he), by rw [hframe.verify]; exact h.verify⟩
  rw [hget (by rcases hk with rfl | rfl <;> decide) (by rcases hk with rfl | rfl <;> decide)]
  exact h.records k hk

end Sys2Proof.Machine

namespace Sys2Proof.Machine
open Sys2Proof

-- One theorem at a time: the whole text is also compiled as one, where a thread for each theorem in flight asks for more
-- memory than the check allows.
set_option Elab.async false

/-! ## The sequencer at a tape unload (R139) -/

/-- The state with no last frame position. -/
def State.unplaced (s : State) : State := { s with seq := { s.seq with lastPosition := none } }

section
variable {s : State} {k : Fin 32}

theorem seqUnload_of_idle (h : s.seq.state = .idle) : seqUnload s = s.unplaced := by
  simp only [seqUnload, h, State.unplaced]

theorem seqUnload_of_waiting (h : s.seq.state = .armed ∨ s.seq.state = .held) :
    seqUnload s = seqStop .unloaded .absent s.seq.pointer s.unplaced := by
  unfold seqUnload State.unplaced
  rcases h with h | h <;> simp only [h]

theorem seqUnload_of_writing (h : s.seq.state = .recording ∨ s.seq.state = .closing) (hheld : s.seq.held = some k) :
    seqUnload s = failEntry .unloaded .absent k
      (cutRequest (if isRehearsal s.editList[k] then s.unplaced else forcedCloseRequest s.unplaced)) := by
  have hall : seqUnload s = seqForcedCloseAll .unloaded .absent s.unplaced := by
    unfold seqUnload State.unplaced
    rcases h with h | h <;> simp only [h]
  have hentry : heldEntry s.unplaced = some (k, s.editList[k]) := heldEntry_of_held (s := s.unplaced) hheld
  have hwrite : inWrite s.unplaced = true := (inWrite_iff s.unplaced).mpr h
  rw [hall]
  unfold seqForcedCloseAll
  simp only [hentry, hwrite, if_true]

theorem seqUnload_of_error {e : ErrorRecord} (h : s.seq.state = .fault) (he : s.seq.error = some e) :
    (seqUnload s).seq.error = some { e with kind := .unloaded, detail := .absent, afa := knownAfa s } := by
  unfold seqUnload
  simp only [h, he]
  rfl

/-- A stop of the unload replaces any error before it (R142). -/
theorem seqStop_unloaded_seq (k : Fin 32) (s : State) : (seqStop .unloaded .absent k s).seq = { s.seq with
    state := .fault, pointer := k, held := none, kept := false
    error := some ⟨.unloaded, .fetch, k, .absent, knownAfa s⟩ } := by
  rw [seqStop_seq]
  simp

theorem failEntry_unloaded_seq (k : Fin 32) (s : State) : (failEntry .unloaded .absent k s).seq = { s.seq with
    state := .fault, pointer := k, held := none, kept := false, holdPending := false, abortPending := false
    error := some ⟨.unloaded, .run, k + 1, .absent, knownAfa s⟩ } := by
  rw [failEntry_seq]
  simp only [ne_eq, not_true_eq_false, and_false, if_false]
  rfl

end

/-! ## The whole unload, block by block (R20) -/

section
variable {s : State} {k : Fin 32}

theorem tapeMapUnload_tapeMap (s : State) : (tapeMapUnload s).tapeMap.pos = .reset ∧
    (tapeMapUnload s).tapeMap.index = [] ∧ (tapeMapUnload s).tapeMap.indexFull = false ∧
    (tapeMapUnload s).tapeMap.debounce = none ∧ (tapeMapUnload s).tapeMap.changeCount =
      (if s.tapeMap.index = [] then s.tapeMap.changeCount else s.tapeMap.changeCount + 1) := by
  unfold tapeMapUnload
  by_cases h : s.tapeMap.index = []
  · rw [emptyIndex_of_nil (by exact h), if_pos h]
    exact ⟨rfl, rfl, rfl, rfl, rfl⟩
  · rw [emptyIndex_of_ne (by exact h), if_neg h]
    exact ⟨rfl, rfl, rfl, rfl, rfl⟩

theorem tapeMapUnload_only (s : State) :
    let t := tapeMapUnload s
    t = { s with ports := t.ports, tapeMap := t.tapeMap } := by
  unfold tapeMapUnload emptyIndex
  simp only
  split <;> rfl

theorem rightsUnload_blocks (s : State) : (rightsUnload s).tapeMap = s.tapeMap ∧
    (rightsUnload s).preDecoder = s.preDecoder ∧ (rightsUnload s).confDecoder = s.confDecoder ∧
    (rightsUnload s).seq = s.seq ∧ (rightsUnload s).formatter = s.formatter := by
  unfold rightsUnload setTapeRights
  split <;> exact ⟨rfl, rfl, rfl, rfl, rfl⟩

theorem rightsUnload_rights (s : State) : (rightsUnload s).rights.tape = ⟨.rightsUnstated, .unstated⟩ ∧
    (rightsUnload s).rights.candidate = none :=
  ⟨setTapeRights_tape _ _, setTapeRights_candidate _ _⟩

/-- The state that the fault monitor's part of the unload finds. -/
def beforeFaultUnload (s : State) : State := rightsUnload (decodersUnload (seqUnload (tapeMapUnload s)))

theorem beforeFaultUnload_blocks (s : State) :
    let t := beforeFaultUnload s
    t.tapeMap = (tapeMapUnload s).tapeMap ∧ (∀ path, t.decoder path = (s.decoder path).discard) ∧
      t.seq = (seqUnload (tapeMapUnload s)).seq ∧ t.formatter = (seqUnload (tapeMapUnload s)).formatter ∧
      t.faults.heads = s.faults.heads ∧ t.faults.verify = s.faults.verify := by
  intro t
  have hseq := seqUnload_seqFrame (tapeMapUnload s)
  have hmap := tapeMapUnload_only s
  have hfaults : t.faults = (seqUnload (tapeMapUnload s)).faults :=
    rightsUnload_faults (decodersUnload (seqUnload (tapeMapUnload s)))
  obtain ⟨htape, hpre, hconf, htseq, hformatter⟩ := rightsUnload_blocks (decodersUnload (seqUnload (tapeMapUnload s)))
  refine ⟨htape.trans hseq.tapeMap, fun path => ?_, htseq, hformatter, ?_, ?_⟩
  · cases path
    · exact hpre.trans (congrArg TrackDecoder.discard (hseq.preDecoder.trans (by rw [hmap]; rfl)))
    · exact hconf.trans (congrArg TrackDecoder.discard (hseq.confDecoder.trans (by rw [hmap]; rfl)))
  · rw [hfaults, hseq.heads]
    exact congrArg (fun f => f.heads) (tapeMapUnload_faults s)
  · rw [hfaults, hseq.verify]
    exact congrArg (fun f => f.verify) (tapeMapUnload_faults s)

theorem FaultOnly.decoder {s t : State} (h : FaultOnly s t) (path : ReadPath) : t.decoder path = s.decoder path := by
  rw [h]
  cases path <;> rfl

theorem FaultOnly.rights {s t : State} (h : FaultOnly s t) : t.rights = s.rights := by rw [h]

theorem FaultOnly.tapeMap {s t : State} (h : FaultOnly s t) : t.tapeMap = s.tapeMap := by rw [h]

theorem beforeFaultUnload_modeKept (s : State) : ModeKept s (beforeFaultUnload s) := by
  have hposition : ∀ u : State, ModeKept u u.unplaced := fun _ => {}
  have hdecoders : ∀ u, ModeKept u (decodersUnload u) := fun _ => {}
  exact (tapeMapUnload_modeKept s).trans <| ((hposition _).trans (seqUnload_seqFrame _).modeKept).trans <|
    (hdecoders _).trans (rightsUnload_modeKept _)

/-- A tape unload, as a mode report brings it, is its blocks' own parts, with SERVO's condition going last. -/
theorem modeChange_unload_eq (lock prot : Bool) (h : s.transport.mode ≠ .unloaded) : modeChange .unloaded lock prot s =
    conditionTo .servo none (faultUnload (beforeFaultUnload (takeMode .unloaded lock prot s))) := by
  rw [modeChange_unload lock prot h]
  refine afterTransport_unloaded _ ?_ ?_
  · rw [tapeUnload_transport, takeMode_transport]
  · exact unloadScan_not_scanning _

theorem modeChange_unload_faultOnly (lock prot : Bool) (h : s.transport.mode ≠ .unloaded) :
    FaultOnly (beforeFaultUnload (takeMode .unloaded lock prot s)) (modeChange .unloaded lock prot s) := by
  rw [modeChange_unload_eq lock prot h]
  exact (faultUnload_faultOnly _).trans (conditionTo_faultOnly .servo none _)

/-- The fault monitor's part, from the state before the report. -/
theorem modeChange_unload_faults (lock prot : Bool) (h : s.transport.mode ≠ .unloaded) :
    FaultsUnloaded s (modeChange .unloaded lock prot s) := by
  have hstart := takeMode_modeKept s .unloaded lock prot
  have hfaults := takeMode_records .unloaded lock prot s
  rw [modeChange_unload_eq lock prot h]
  generalize takeMode .unloaded lock prot s = w at hstart hfaults
  obtain ⟨-, -, -, -, hheads, hverify⟩ := beforeFaultUnload_blocks w
  have hget : ∀ {j : FaultKind}, j ≠ .input → (beforeFaultUnload w).faults.records.get j = s.faults.records.get j :=
    fun hj => by rw [← hfaults]; exact beforeFaultUnload_get w hj
  have hports := hstart.trans (beforeFaultUnload_modeKept w)
  have hdone := (faultUnload_unloaded (beforeFaultUnload w)).servoGone
  rw [hfaults] at hheads hverify
  generalize beforeFaultUnload w = y at hheads hverify hget hports hdone
  refine ⟨hdone.heads, hdone.clog, hdone.positionTag, fun k hk => ?_, fun q hq hended => hdone.event q ?_ ?_, fun hruns => ?_⟩
  · rw [hdone.records k hk, hget (by rcases hk with rfl | rfl <;> decide)]
  · rw [(hports.ports q).rest]
    exact hq
  · rw [hheads]
    refine hended.imp_right ?_
    rintro ⟨k, hk, hrecord⟩
    refine ⟨k, hk, ?_⟩
    rw [hget (by rcases hk with rfl | rfl <;> decide)]
    exact hrecord
  · rw [hdone.verify (by rw [hverify]; exact hruns), hverify]

/-- The tape map, the decoders and the rights unit after the report. -/
theorem modeChange_unload_tape (lock prot : Bool) (h : s.transport.mode ≠ .unloaded) :
    let t := modeChange .unloaded lock prot s
    (t.tapeMap.pos = .reset ∧ t.tapeMap.index = [] ∧ t.tapeMap.indexFull = false ∧ t.tapeMap.debounce = none ∧
      t.tapeMap.changeCount =
        (if s.tapeMap.index = [] then s.tapeMap.changeCount else s.tapeMap.changeCount + 1)) ∧
      (∀ path, t.decoder path = (s.decoder path).discard) ∧
      t.rights.tape = ⟨.rightsUnstated, .unstated⟩ ∧ t.rights.candidate = none := by
  intro t
  have hdone : FaultOnly _ t := modeChange_unload_faultOnly lock prot h
  have hstart := takeMode_only s .unloaded lock prot
  clear_value t
  generalize takeMode .unloaded lock prot s = w at hdone hstart
  have hrights : (beforeFaultUnload w).rights.tape = _ ∧ (beforeFaultUnload w).rights.candidate = _ :=
    rightsUnload_rights (decodersUnload (seqUnload (tapeMapUnload w)))
  have htape := tapeMapUnload_tapeMap w
  obtain ⟨hmap, hdecoder, -⟩ := beforeFaultUnload_blocks w
  have hwtape : w.tapeMap = s.tapeMap := by rw [hstart]
  have hwdecoder : ∀ path, w.decoder path = s.decoder path := fun path => by rw [hstart]; rfl
  have httape : t.tapeMap = (tapeMapUnload w).tapeMap := hdone.tapeMap.trans hmap
  have htrights : t.rights = (beforeFaultUnload w).rights := hdone.rights
  rw [hwtape] at htape
  rw [httape, htrights]
  exact ⟨htape, fun path => by rw [hdone.decoder, hdecoder, hwdecoder], hrights⟩

/-- The sequencer and the formatter after the report are those that the unload at the sequencer leaves, at a state whose
position is UNKNOWN. -/
theorem modeChange_unload_seq (lock prot : Bool) (h : s.transport.mode ≠ .unloaded) :
    ∃ m : State, m.seq = s.seq ∧ m.editList = s.editList ∧ m.formatter = s.formatter ∧ knownAfa m = none ∧
      (modeChange .unloaded lock prot s).seq = (seqUnload m).seq ∧
      (modeChange .unloaded lock prot s).formatter = (seqUnload m).formatter := by
  have hdone := modeChange_unload_faultOnly lock prot h
  obtain ⟨-, -, hseq, hformatter, -, -⟩ := beforeFaultUnload_blocks (takeMode .unloaded lock prot s)
  have hmap := tapeMapUnload_only (takeMode .unloaded lock prot s)
  have hpos := (tapeMapUnload_tapeMap (takeMode .unloaded lock prot s)).1
  refine ⟨tapeMapUnload (takeMode .unloaded lock prot s), ?_, ?_, ?_, ?_, hdone.seq.trans hseq,
    hdone.formatter.trans hformatter⟩
  · rw [hmap, takeMode_seq]
  · rw [hmap, takeMode_editList]
  · rw [hmap, takeMode_formatter]
  · unfold knownAfa
    rw [hpos]
    rfl

end

/-- The formatter after the unload of an entry that was being written: a rehearsal asks nothing of it (R137). -/
theorem failEntry_unloaded_formatter {s : State} (k : Fin 32) (rehearsal : Bool) :
    let t := failEntry .unloaded .absent k (cutRequest (if rehearsal then s.unplaced else forcedCloseRequest s.unplaced))
    t.formatter.pendingOpen = (if rehearsal then s.formatter.pendingOpen else none) ∧
      (s.formatter.gate = .opened → rehearsal = false →
        t.formatter.gate = .opened ∧ t.formatter.closePoint = some .forced) := by
  intro t
  have hwalk : WalkFrame (cutRequest (if rehearsal then s.unplaced else forcedCloseRequest s.unplaced)) t :=
    failEntry_walkFrame _ _ _ _
  clear_value t
  cases rehearsal
  · refine ⟨hwalk.pendingOpen.trans (forcedCloseRequest_gateShut s.unplaced).2, fun hopen _ => ?_⟩
    have hopen : s.unplaced.formatter.gate = .opened := hopen
    have hrequest := forcedCloseRequest_opened hopen
    refine ⟨hwalk.gate.trans ?_, hwalk.closePoint.trans ?_⟩
    · show (forcedCloseRequest s.unplaced).formatter.gate = _
      rw [hrequest]
      exact hopen
    · show (forcedCloseRequest s.unplaced).formatter.closePoint = _
      rw [hrequest]
  · exact ⟨hwalk.pendingOpen, fun _ h => by cases h⟩

end Sys2Proof.Machine

/-! The model's own `tapeUnload` has the obligation's name in the namespace above. -/

namespace Sys2Proof.Settled
open Sys2Proof Sys2Proof.Machine

/-- Settles O21: the blocks of the unload one by one, the fault monitor's by `modeChange_unload_faults`, the sequencer's by
its state (`seqUnload_of_idle`, `seqUnload_of_waiting`, `seqUnload_of_writing`, `seqUnload_of_error`). -/
theorem tapeUnload : Obligations.TapeUnload := by
  unfold Obligations.TapeUnload
  intro p l r s hrise hclaim hloaded hl hr
  have hexec : exec (.modeReport p 0 l r) s = .next (request p 0x80 .transportClass (modeReport 0 l r) s) := rfl
  rw [request_transport _ hrise hclaim, modeReport_of_mode rfl hl hr] at hexec
  have hmode := congrArg Transport.mode (modeChange_transport s .unloaded (decide (l = 0)) (decide (r = 0)))
  have hfaults := modeChange_unload_faults (decide (l = 0)) (decide (r = 0)) hloaded
  have htape := modeChange_unload_tape (decide (l = 0)) (decide (r = 0)) hloaded
  obtain ⟨m, hmseq, hmlist, hmformatter, hmafa, hseq, hformatter⟩ :=
    modeChange_unload_seq (decide (l = 0)) (decide (r = 0)) hloaded
  generalize modeChange .unloaded (decide (l = 0)) (decide (r = 0)) s = v at *
  obtain ⟨⟨hpos, hindex, hfull, hdebounce, hcount⟩, hdecoder, hrights, hcandidate⟩ := htape
  refine ⟨_, hexec, hmode, hpos, hindex, hfull, hdebounce, hcount, hdecoder, hrights, hcandidate, hfaults.heads,
    ⟨hfaults.clog.1, hfaults.clog.2, hfaults.positionTag⟩, fun k hk => hfaults.records k hk, ?event, hfaults.verify,
    ?position, ?idle, ?waiting, ?writing, ?error⟩
  case event =>
    intro q hq hended
    have h := hfaults.event q hq hended
    by_cases hqp : q = p
    · subst hqp
      rw [respond_port]
      exact h
    · rwa [respond_other_port _ _ _ _ _ _ hqp]
  case position =>
    show v.seq.lastPosition = none
    rw [hseq, (seqUnload_seqFrame m).lastPosition]
  case idle =>
    intro h
    show v.seq = _
    rw [hseq, seqUnload_of_idle (by rwa [hmseq])]
    show { m.seq with lastPosition := none } = _
    rw [hmseq]
  case waiting =>
    intro h
    have h := seqUnload_of_waiting (s := m) (by rwa [hmseq])
    rw [h, seqStop_unloaded_seq, show knownAfa m.unplaced = none from hmafa, hmseq] at hseq
    show v.seq.state = _ ∧ v.seq.held = _ ∧ v.seq.error = _
    rw [hseq]
    exact ⟨rfl, rfl, rfl⟩
  case writing =>
    intro k h hheld
    have h := seqUnload_of_writing (s := m) (k := k) (by rwa [hmseq]) (by rwa [hmseq])
    obtain ⟨hpending, hgate⟩ := failEntry_unloaded_formatter (s := m) k (isRehearsal m.editList[k])
    have hafa : knownAfa (cutRequest (if isRehearsal m.editList[k] then m.unplaced else forcedCloseRequest m.unplaced)) =
        none := by
      split
      · exact hmafa
      · exact (forcedCloseRequest_knownAfa m.unplaced).trans hmafa
    rw [← h, ← hformatter, hmformatter, hmlist] at hpending hgate
    rw [h, failEntry_unloaded_seq, hafa] at hseq
    have hstate : v.seq.state = .fault := by rw [hseq]
    have hnone : v.seq.held = none := by rw [hseq]
    have hpointer : v.seq.pointer = k := by rw [hseq]
    have herror : v.seq.error = some ⟨.unloaded, .run, k + 1, .absent, none⟩ := by rw [hseq]
    exact ⟨hstate, hnone, hpointer, herror, hpending, hgate⟩
  case error =>
    intro e h he
    have herror := seqUnload_of_error (s := m) (e := e) (by rwa [hmseq]) (by rwa [hmseq])
    rw [hmafa, ← hseq] at herror
    exact herror

end Sys2Proof.Settled

namespace Sys2Proof.Machine
open Sys2Proof

section
variable {o s : State}

/-! ## The promises of the sets, the index, the lists and the position: what each depends on -/

/-- A set of one kind lies within every set that holds the kind. -/
theorem single_and_of_has {r : EventSet} {e : Event} (h : EventSet.has r e = true) : e.single &&& r = e.single := by
  refine BitVec.eq_of_getLsbD_eq fun i hi => ?_
  have hsingle : e.single = BitVec.twoPow 13 e.bit := by cases e <;> rfl
  by_cases hb : e.bit = i
  · subst hb
    rw [BitVec.getLsbD_and, show r.getLsbD e.bit = true from h, Bool.and_true]
  · simp [hsingle, BitVec.getLsbD_twoPow, hb]

theorem notice_eventsReported {c : PortContext} (e : Event) (h : c.eventsReported) : (c.notice e).eventsReported := by
  unfold PortContext.notice
  split
  · next he =>
    show (c.events ||| e.single) &&& c.report = c.events ||| e.single
    have hsub : c.events &&& c.report = c.events := h
    have hsingle := single_and_of_has he
    refine BitVec.eq_of_getLsbD_eq fun i hi => ?_
    have hi1 := congrArg (BitVec.getLsbD · i) hsub
    have hi2 := congrArg (BitVec.getLsbD · i) hsingle
    simp only [BitVec.getLsbD_and, BitVec.getLsbD_or] at hi1 hi2 ⊢
    rw [Bool.and_or_distrib_right, hi1, hi2]
  · exact h

/-- The port that a request, a claim or an edge of select rewrites keeps the promise when its new context does (R190). -/
theorem setPort_eventsReported {p : Ports} (q : Port) {c : PortContext} (h : ∀ x, (p.get x).eventsReported)
    (hc : c.eventsReported) (x : Port) : ((p.set q c).get x).eventsReported := by
  by_cases hx : x = q
  · subst hx
    rwa [Ports.get_set]
  · rw [Ports.get_set_of_ne _ _ _ _ hx]
    exact h x

theorem eventsReported_iff : eventsReported s ↔ ∀ q, (s.ports.get q).eventsReported :=
  ⟨fun h q => match q with | .p1 => h.1 | .p2 => h.2.1 | .p3 => h.2.2, fun h => ⟨h .p1, h .p2, h .p3⟩⟩

/-- R96 of a position record. -/
def PositionRecord.held (p : PositionRecord) : Prop := p.afa ≤ afaMax ∧ (p.state = .unknown → p.afa = 0)

/-- `s` keeps each of the four promises that `o` keeps. -/
def PromisesKept (o s : State) : Prop :=
  (eventsReported o → eventsReported s) ∧ (indexHeld o → indexHeld s) ∧ (listsHeld o → listsHeld s) ∧
    (positionHeld o → positionHeld s)

theorem PromisesKept.refl (s : State) : PromisesKept s s := ⟨id, id, id, id⟩

/-- A change of one port's context. -/
theorem setPort_kept (q : Port) {c : PortContext} (hc : (s.ports.get q).eventsReported → c.eventsReported)
    (h : PromisesKept o s) : PromisesKept o { s with ports := s.ports.set q c } :=
  ⟨fun ho => eventsReported_iff.2 (setPort_eventsReported q (eventsReported_iff.1 (h.1 ho))
    (hc (eventsReported_iff.1 (h.1 ho) q))), h.2⟩

/-- A change of the tape map that leaves the index alone. -/
theorem withPosition_kept (p : PositionRecord) (hp : s.tapeMap.pos.held → p.held) (h : PromisesKept o s) :
    PromisesKept o (s.withPosition p) := ⟨h.1, h.2.1, h.2.2.1, fun ho => hp (h.2.2.2 ho)⟩

/-! ### Events, fault records and the selected source -/

theorem raiseEvent_kept (e : Event) (h : PromisesKept o s) : PromisesKept o (raiseEvent e s) :=
  ⟨fun ho => eventsReported_iff.2 fun q => by
    rw [raiseEvent_port]
    exact notice_eventsReported e (eventsReported_iff.1 (h.1 ho) q), h.2⟩

theorem reselect_kept (h : PromisesKept o s) : PromisesKept o (reselect s) := by
  unfold reselect
  simp only
  split
  · split <;> exact h
  · exact h

theorem faultRaise_kept (k : FaultKind) (d : FaultDetail) (h : PromisesKept o s) : PromisesKept o (faultRaise k d s) := by
  unfold faultRaise
  simp only
  split
  · exact h
  · exact raiseEvent_kept _ h

theorem endAction_kept (k : FaultKind) (h : PromisesKept o s) : PromisesKept o (endAction k s) := by
  unfold endAction
  simp only
  split
  · exact raiseEvent_kept _ h
  · exact h

theorem conditionTo_kept (k : FaultKind) (c : Option FaultDetail) (h : PromisesKept o s) :
    PromisesKept o (conditionTo k c s) := by
  unfold conditionTo
  simp only
  repeat' split
  · exact h
  · exact faultRaise_kept _ _ h
  · exact endAction_kept _ h
  · exact h
  · exact h

theorem emptyFifo_kept (h : PromisesKept o s) : PromisesKept o (emptyFifo s) :=
  ⟨h.1, h.2.1, fun ho => ⟨Nat.zero_le _, (h.2.2.1 ho).2⟩, h.2.2.2⟩

theorem afterSourceChange_kept (s0 : State) (h : PromisesKept o s) : PromisesKept o (afterSourceChange s0 s) := by
  unfold afterSourceChange
  split
  · exact h
  · have hempty := emptyFifo_kept h
    exact conditionTo_kept _ _ hempty

/-! ### Requests of the sequencer to the formatter -/

theorem openRequest_kept (sp : Span) (h : PromisesKept o s) : PromisesKept o (openRequest sp s) := by
  unfold openRequest
  split <;> exact h

theorem closeRequest_kept (g : FrameNo) (h : PromisesKept o s) : PromisesKept o (closeRequest g s) := by
  unfold closeRequest
  split <;> exact h

theorem forcedCloseRequest_kept (h : PromisesKept o s) : PromisesKept o (forcedCloseRequest s) := by
  unfold forcedCloseRequest
  simp only
  repeat' split
  all_goals exact h

/-! ### The walk of the edit list -/

theorem recordError_kept (kind : ErrorKind) (ph : Phase) (k : Fin 32) (d : ErrorDetail) (h : PromisesKept o s) :
    PromisesKept o (recordError kind ph k d s) := by
  unfold recordError
  split <;> exact h

theorem giveUp_kept (h : PromisesKept o s) : PromisesKept o (giveUp s) := by
  unfold giveUp
  split
  · exact reselect_kept (afterSourceChange_kept _ h)
  · exact h

theorem takeEntry_kept (k : Fin 32) (h : PromisesKept o s) : PromisesKept o (takeEntry k s) :=
  reselect_kept (afterSourceChange_kept _ h)

theorem seqStop_kept (kind : ErrorKind) (d : ErrorDetail) (k : Fin 32) (h : PromisesKept o s) :
    PromisesKept o (seqStop kind d k s) := raiseEvent_kept _ (giveUp_kept (recordError_kept _ _ _ _ h))

theorem endWalk_kept (c : CloseKind) (k : Fin 32) (h : PromisesKept o s) : PromisesKept o (endWalk c k s) :=
  raiseEvent_kept _ h

theorem fetchFound_kept (p : Fin 32) (h : PromisesKept o s) : PromisesKept o (fetchFound p s) := by
  unfold fetchFound
  simp only
  split
  · exact seqStop_kept _ _ _ h
  · exact takeEntry_kept _ h

theorem fetchPass_kept (p q : Fin 32) {more : State → State} (hm : ∀ {u}, PromisesKept o u → PromisesKept o (more u))
    (h : PromisesKept o s) : PromisesKept o (fetchPass p q more s) := by
  unfold fetchPass
  simp only
  repeat' split
  · exact seqStop_kept _ _ _ h
  · exact endWalk_kept _ _ h
  · exact hm h

theorem fetchFrom_kept (n : Nat) : ∀ {s : State}, PromisesKept o s → PromisesKept o (fetchFrom n s) := by
  induction n with
  | zero => exact id
  | succ n ih =>
    intro s h
    rw [fetchFrom_succ]
    split
    · exact fetchPass_kept _ _ ih h
    · exact fetchPass_kept _ _ ih h
    all_goals exact fetchFound_kept _ h

theorem complete_kept (h : PromisesKept o s) : PromisesKept o (complete s) := by
  unfold complete
  split
  · exact h
  · next k e _ =>
    have hended : PromisesKept o (clearPending (giveUp { s with seq := { s.seq with state := .idle, pointer := k } })) :=
      giveUp_kept (s := { s with seq := { s.seq with state := .idle, pointer := k } }) h
    simp only
    repeat' split
    · exact raiseEvent_kept _ hended
    · exact endWalk_kept _ _ hended
    · exact endWalk_kept _ _ hended
    · exact hended
    · exact fetchFrom_kept _ hended

theorem failEntry_kept (kind : ErrorKind) (d : ErrorDetail) (k : Fin 32) (h : PromisesKept o s) :
    PromisesKept o (failEntry kind d k s) := raiseEvent_kept _ (giveUp_kept (recordError_kept _ _ _ _ h))

theorem seqForcedClose_kept (kind : ErrorKind) (d : ErrorDetail) (h : PromisesKept o s) :
    PromisesKept o (seqForcedClose kind d s) := by
  unfold seqForcedClose
  repeat' split
  · exact h
  · exact failEntry_kept _ _ _ (forcedCloseRequest_kept h)
  · exact h

theorem seqForcedCloseAll_kept (kind : ErrorKind) (d : ErrorDetail) (h : PromisesKept o s) :
    PromisesKept o (seqForcedCloseAll kind d s) := by
  unfold seqForcedCloseAll
  split
  · exact h
  · split
    · refine failEntry_kept _ _ _ ?_
      split
      · exact h
      · exact forcedCloseRequest_kept h
    · exact h

theorem leftRecord_kept (h : PromisesKept o s) : PromisesKept o (leftRecord s) := by
  unfold leftRecord
  repeat' split
  · exact complete_kept (forcedCloseRequest_kept h)
  · exact seqForcedClose_kept _ _ h
  · exact h

theorem windowLoss_kept (t : Transport) (h : PromisesKept o s) : PromisesKept o (windowLoss t s) := by
  unfold windowLoss
  repeat' split
  · exact leftRecord_kept h
  all_goals first | exact seqForcedClose_kept _ _ h | exact h

theorem seqUnload_kept (h : PromisesKept o s) : PromisesKept o (seqUnload s) := by
  unfold seqUnload
  simp only
  repeat' split
  · exact h
  · exact seqForcedCloseAll_kept _ _ h
  · exact seqForcedCloseAll_kept _ _ h
  · exact seqStop_kept _ _ _ h
  · exact seqStop_kept _ _ _ h
  · exact h
  · exact recordError_kept _ _ _ _ h

/-! ### In-address, positions, reports and fault actions -/

theorem openEntry_kept (e : EditEntry) (fp : Option Afa) (st : PosState) (n : Nat) (h : PromisesKept o s) :
    PromisesKept o (openEntry e fp st n s) := by
  obtain ⟨b, hb⟩ := openEntry_eq e fp st n s
  rw [hb]
  split
  · exact h
  · exact openRequest_kept (spanOf e fp st s) h

theorem inArrival_kept (k : Fin 32) (e : EditEntry) (fp : Option Afa) (st : PosState) (n : Nat) (h : PromisesKept o s) :
    PromisesKept o (inArrival k e fp st n s) := by
  unfold inArrival
  repeat' split
  · exact openEntry_kept _ _ _ _ h
  · exact seqStop_kept _ _ _ h
  · exact openEntry_kept _ _ _ _ h

theorem seqFramePosition_kept (fp : Option Afa) (st : PosState) (d : Bool) (h : PromisesKept o s) :
    PromisesKept o (seqFramePosition fp st d s) := by
  unfold seqFramePosition armedPosition recordingPosition
  simp only
  repeat' split
  all_goals first | exact h | exact inArrival_kept _ _ _ _ _ h | exact seqStop_kept _ _ _ h

theorem seqRefused_kept (kind : ErrorKind) (d : ErrorDetail) (h : PromisesKept o s) :
    PromisesKept o (seqRefused kind d s) := by
  unfold seqRefused
  repeat' split
  · exact h
  · exact failEntry_kept _ _ _ h
  · exact h

theorem seqLaterStop_kept (kind : ErrorKind) (d : ErrorDetail) (h : PromisesKept o s) :
    PromisesKept o (seqLaterStop kind d s) := by
  unfold seqLaterStop
  repeat' split
  · exact h
  · exact recordError_kept _ _ _ _ (s := cutRequest s) h
  · exact h

theorem fadeOutReport_kept (g : FrameNo) (h : PromisesKept o s) : PromisesKept o (fadeOutReport g s) := by
  unfold fadeOutReport
  repeat' split
  · exact complete_kept h
  · exact closeRequest_kept _ h
  · exact h

theorem markRunReport_kept (g : FrameNo) (h : PromisesKept o s) : PromisesKept o (markRunReport g s) := by
  unfold markRunReport
  repeat' split
  · exact closeRequest_kept g h
  · exact h
  · exact h

theorem gateClosedReport_kept (h : PromisesKept o s) : PromisesKept o (gateClosedReport s) := by
  unfold gateClosedReport
  split
  · exact complete_kept h
  · exact h

theorem noneReport_kept (h : PromisesKept o s) : PromisesKept o (noneReport s) := by
  unfold noneReport
  simp only
  repeat' split
  · exact h
  · exact recordError_kept _ _ _ _ (s := silenceRequest s) h
  · next e _ _ _ _ => exact recordError_kept _ _ _ _ (s := fadeOutNowRequest e (silenceRequest s)) h
  · exact seqForcedClose_kept _ _ h
  · exact h
  · exact h

theorem applyAction_kept (k : FaultKind) (h : PromisesKept o s) : PromisesKept o (applyAction k s) := by
  unfold applyAction
  repeat' split
  all_goals first | exact h | exact seqForcedClose_kept _ _ h | exact seqStop_kept _ _ _ h

theorem evaluate_kept (k : FaultKind) (c : Option FaultDetail) (h : PromisesKept o s) :
    PromisesKept o (evaluate k c s) := by
  unfold evaluate
  simp only
  split
  · exact applyAction_kept _ (conditionTo_kept _ _ h)
  · exact conditionTo_kept _ _ h

theorem deliverInput_kept (s0 : State) (h : PromisesKept o s) : PromisesKept o (deliverInput s0 s) := by
  unfold deliverInput
  split
  · exact applyAction_kept _ h
  · exact h

/-! ### The requests of the walk -/

theorem abortWalk_kept (h : PromisesKept o s) : PromisesKept o (abortWalk s) := by
  unfold abortWalk
  simp only
  repeat' split
  · exact h
  · exact giveUp_kept (endWalk_kept _ _ h)
  · exact giveUp_kept (endWalk_kept _ _ h)
  · exact h
  · exact h
  · exact h
  · next k _ _ _ =>
    exact giveUp_kept (s := clearPending (endWalk .aborted k (cutRequest (forcedCloseRequest s))))
      (endWalk_kept _ _ (forcedCloseRequest_kept h))
  · exact h

theorem continueHeld_kept (h : PromisesKept o s) : PromisesKept o (continueHeld s) := by
  unfold continueHeld
  repeat' split
  · exact seqStop_kept _ _ _ h
  · exact h
  · exact fetchFrom_kept _ h
  · exact fetchFrom_kept _ h

end

end Sys2Proof.Machine

namespace Sys2Proof.Machine
open Sys2Proof

section
variable {o s : State}

/-! ### The fault monitor -/

theorem positionReport_kept (d : FaultDetail) (h : PromisesKept o s) : PromisesKept o (positionReport d s) := by
  unfold positionReport
  split
  · exact h
  · exact evaluate_kept _ _ h

theorem positionTick_kept (h : PromisesKept o s) : PromisesKept o (positionTick s) := by
  unfold positionTick
  repeat' split
  · exact conditionTo_kept _ _ h
  · exact h
  · exact h

/-- The rate window keeps the eight newest sums (R168). -/
theorem length_pushWindow {w : List Nat} (n : Nat) : (pushWindow w n).length ≤ 8 := by
  simp only [pushWindow, List.length_drop, List.length_append, List.length_singleton]
  omega

theorem rateTally_kept (t : Tally) (h : PromisesKept o s) : PromisesKept o (rateTally t s) := by
  unfold rateTally
  simp only
  split
  · exact h
  · refine evaluate_kept _ _ ⟨h.1, h.2.1, fun ho => ?_, h.2.2.2⟩
    obtain ⟨hfifo, hwritten, hhistory, -⟩ := h.2.2.1 ho
    exact ⟨hfifo, hwritten, hhistory, length_pushWindow _⟩

theorem endHeadAction_kept (p : ReadPath) (t : Track) (h : PromisesKept o s) : PromisesKept o (endHeadAction p t s) := by
  unfold endHeadAction
  simp only
  split
  · exact raiseEvent_kept _ h
  · exact h

theorem clogTallyHead_kept (p : ReadPath) (t : Track) (x : HeadTally) (h : PromisesKept o s) :
    PromisesKept o (clogTallyHead p t x s) := by
  unfold clogTallyHead
  simp only
  repeat' split
  · exact h
  · exact endHeadAction_kept p t h
  · exact h
  · exact h
  · exact h
  · exact faultRaise_kept .clog (.clogHead p t) h
  · exact h

theorem clogTally_kept (p : ReadPath) (t : Tally) (h : PromisesKept o s) : PromisesKept o (clogTally p t s) :=
  clogTallyHead_kept _ _ _ (clogTallyHead_kept _ _ _ h)

theorem eachHead_kept {f : ReadPath → Track → State → State}
    (hf : ∀ p t {u : State}, PromisesKept o u → PromisesKept o (f p t u)) (h : PromisesKept o s) :
    PromisesKept o (eachHead f s) := hf _ _ (hf _ _ (hf _ _ (hf _ _ h)))

theorem clearHead_kept (p : ReadPath) (t : Track) (h : PromisesKept o s) : PromisesKept o (clearHead p t s) := h

theorem clearClogHead_kept (p : ReadPath) (t : Track) (h : PromisesKept o s) : PromisesKept o (clearClogHead p t s) := by
  unfold clearClogHead
  split
  · exact endHeadAction_kept _ _ h
  · exact h

theorem clearLatched_kept (k : FaultKind) (h : PromisesKept o s) : PromisesKept o (clearLatched k s) := by
  unfold clearLatched
  repeat' split
  · exact eachHead_kept (fun p t {_} hu => clearClogHead_kept p t hu) h
  all_goals first | exact endAction_kept _ h | exact h

theorem clearKind_kept (k : FaultKind) (h : PromisesKept o s) : PromisesKept o (clearKind k s) := by
  unfold clearKind
  simp only
  repeat' split
  · exact eachHead_kept (fun p t {_} hu => clearClogHead_kept p t hu) h
  · exact h
  · exact clearLatched_kept k h

theorem clearFaults_kept (h : PromisesKept o s) : PromisesKept o (clearFaults s) := by
  have hfold : ∀ (l : List FaultKind) {u : State}, PromisesKept o u →
      PromisesKept o (l.foldl (fun s k => clearKind k s) u) := by
    intro l
    induction l with
    | nil => exact id
    | cons k l ih => exact fun hu => ih (clearKind_kept k hu)
  exact hfold _ h

theorem endKindAction_kept (k : FaultKind) (h : PromisesKept o s) : PromisesKept o (endKindAction k s) := by
  cases k
  case clog => exact eachHead_kept (fun p t {_} hu => endHeadAction_kept p t hu) h
  all_goals exact endAction_kept _ h

theorem resetTrackers_kept (k : FaultKind) (h : PromisesKept o s) : PromisesKept o (resetTrackers k s) := by
  cases k
  case clog => exact eachHead_kept (fun p t {_} hu => clearHead_kept p t hu) h
  case rate =>
    refine ⟨h.1, h.2.1, fun ho => ?_, h.2.2.2⟩
    obtain ⟨hfifo, hwritten, hhistory, -⟩ := h.2.2.1 ho
    exact ⟨hfifo, hwritten, hhistory, Nat.zero_le _⟩
  all_goals exact h

theorem endGoneAction_kept (k : FaultKind) (h : PromisesKept o s) : PromisesKept o (endGoneAction k s) := by
  have hgone : ∀ p t {u : State}, PromisesKept o u →
      PromisesKept o (if (u.faults.heads.get p t).present then u else endHeadAction p t u) := fun p t u hu => by
    split
    · exact hu
    · exact endHeadAction_kept p t hu
  unfold endGoneAction
  repeat' split
  · exact eachHead_kept hgone h
  all_goals first | exact endAction_kept _ h | exact h

theorem changeMode_kept (k : FaultKind) (m : FaultMode) (h : PromisesKept o s) : PromisesKept o (changeMode k m s) := by
  unfold changeMode beginMonitoring
  simp only
  repeat' split
  · exact h
  · exact resetTrackers_kept k (endKindAction_kept k h)
  · exact evaluate_kept _ _ (s := setMode k m s) h
  · exact h
  · exact endKindAction_kept k h
  · exact endGoneAction_kept k h
  all_goals exact h

theorem stopScan_kept (c : StopCause) (h : PromisesKept o s) : PromisesKept o (stopScan c s) := raiseEvent_kept _ h

theorem verifyRange_kept (t : Transport) (h : PromisesKept o s) : PromisesKept o (verifyRange t s) := by
  unfold verifyRange
  simp only
  split
  · exact stopScan_kept _ h
  · exact h

theorem verifyCheck_kept (scan : Option Afa) (j : Bool) (t : Tally) (h : PromisesKept o s) :
    PromisesKept o (verifyCheck scan j t s) := by
  unfold verifyCheck
  simp only
  repeat' split
  all_goals first | exact h | exact raiseEvent_kept _ h

theorem verifyStep_kept (p : ReadPath) (scan : Option Afa) (j : Bool) (t : Tally) (h : PromisesKept o s) :
    PromisesKept o (verifyStep p scan j t s) := by
  unfold verifyStep
  simp only
  repeat' split
  all_goals first | exact h | exact verifyCheck_kept _ _ _ h

theorem faultUnload_kept (h : PromisesKept o s) : PromisesKept o (faultUnload s) := by
  have hheads : PromisesKept o (eachHead unloadHead (unloadConditions s)) :=
    eachHead_kept (fun p t {_} hu => endHeadAction_kept p t (clearHead_kept p t hu))
      (conditionTo_kept _ _ (conditionTo_kept _ _ (s := untagged s) h))
  rw [faultUnload_eq]
  unfold unloadScan
  split
  · exact stopScan_kept _ hheads
  · exact hheads

theorem afterTransport_kept (t : Transport) (h : PromisesKept o s) : PromisesKept o (afterTransport t s) :=
  evaluate_kept _ _ (windowLoss_kept _ (verifyRange_kept _ h))

/-! ### The written list and the CONFIRM check -/

/-- A change of the written list that leaves it within its length. -/
theorem withWritten_kept (l : List WrittenFrame) (hl : s.formatter.written.length ≤ 4 → l.length ≤ 4)
    (h : PromisesKept o s) : PromisesKept o { s with formatter := { s.formatter with written := l } } := by
  refine ⟨h.1, h.2.1, fun ho => ?_, h.2.2.2⟩
  obtain ⟨hfifo, hwritten, hhistory, hwindow⟩ := h.2.2.1 ho
  exact ⟨hfifo, hl hwritten, hhistory, hwindow⟩

theorem removeEntry_kept (w : WrittenFrame) (h : PromisesKept o s) : PromisesKept o
    { s with formatter := { s.formatter with written := removeEntry w s.formatter.written } } :=
  withWritten_kept _ (fun hlen => (List.length_erase_le).trans hlen) h

theorem confirmTally_kept (t : Tally) (h : PromisesKept o s) : PromisesKept o (confirmTally t s) := by
  have hnote : PromisesKept o (noteConf s) := by
    unfold noteConf
    split <;> exact h
  unfold confirmTally
  simp only
  repeat' split
  · exact hnote
  · exact removeEntry_kept _ hnote
  · exact conditionTo_kept _ _ (removeEntry_kept _ hnote)
  · exact evaluate_kept _ _ (removeEntry_kept _ hnote)

theorem timeoutEntry_kept (w : WrittenFrame) (h : PromisesKept o s) : PromisesKept o (timeoutEntry w s) := by
  have hout := removeEntry_kept w h
  unfold timeoutEntry
  simp only
  repeat' split
  · exact hout
  · exact evaluate_kept _ _ hout
  · exact hout

theorem writtenTimeout_kept (h : PromisesKept o s) : PromisesKept o (writtenTimeout s) := by
  have hfold : ∀ (l : List WrittenFrame) {u : State}, PromisesKept o u →
      PromisesKept o (l.foldl (fun s w => timeoutEntry w s) u) := by
    intro l
    induction l with
    | nil => exact id
    | cons w l ih => exact fun hu => ih (timeoutEntry_kept w hu)
  exact hfold _ h

theorem length_joinWritten (l : List WrittenFrame) (w : WrittenFrame) : (joinWritten l w).length ≤ 4 := by
  simp only [joinWritten, List.length_append, List.length_drop, List.length_singleton]
  omega

/-! ### The program index -/

/-- A change of the index that leaves it in order and within its length. -/
theorem withIndex_kept (ix : List IndexEntry) (full : Bool) (d : Option Debounce) (n : Byte)
    (hix : indexHeld s → ix.length ≤ 64 ∧ Rising ix) (h : PromisesKept o s) : PromisesKept o
      { s with tapeMap := { s.tapeMap with index := ix, indexFull := full, debounce := d, changeCount := n } } :=
  ⟨h.1, fun ho => hix (h.2.1 ho), h.2.2⟩

/-- The entry nearest to an address is no farther from it than any other (R110). -/
theorem nearestEntry_least {ix : List IndexEntry} {a : Afa} {e x : IndexEntry} (h : nearestEntry ix a = some e)
    (hx : x ∈ ix) : e.dist a ≤ x.dist a := by
  have hnone : ∀ n, ix.find? (fun y => y.dist a == n) = none → x.dist a ≠ n := fun n hn => by
    simpa using List.find?_eq_none.1 hn x hx
  have hsome : ∀ n, ix.find? (fun y => y.dist a == n) = some e → e.dist a = n := fun n hn => by
    simpa using List.find?_some hn
  unfold nearestEntry at h
  split at h
  · next y hy =>
    cases h
    rw [hsome 0 hy]
    exact Nat.zero_le _
  · next h0 =>
    have h0 := hnone 0 h0
    split at h
    · next y hy =>
      cases h
      have := hsome 1 hy
      omega
    · next h1 =>
      have h1 := hnone 1 h1
      have := hsome 2 h
      omega

/-- An entry moved to an address that no other entry lies on or between keeps the order (R110). -/
theorem replaceEntry_moved_rising {ix : List IndexEntry} (h : Rising ix) {a : Afa} {new : IndexEntry}
    (hlow : ∀ x ∈ ix, x.start < a → x.start < new.start) (hhigh : ∀ x ∈ ix, a < x.start → new.start < x.start) :
    Rising (replaceEntry a new ix) := by
  refine List.pairwise_map.2 (List.Pairwise.imp_of_mem (fun {x y} hx hy hxy => ?_) h)
  by_cases hxa : x.start = a
  · rw [if_pos hxa, if_neg (hxa ▸ hxy.ne')]
    exact hhigh y hy (hxa ▸ hxy)
  · rw [if_neg hxa]
    split
    · next hya => exact hlow x hx (hya ▸ hxy)
    · exact hxy

/-- The entry nearest to a written run's start, moved there (R110). -/
theorem replaceEntry_nearest_rising {ix : List IndexEntry} (h : Rising ix) {a : Afa} {e new : IndexEntry}
    (hnear : nearestEntry ix a = some e) (hnew : new.start = a) : Rising (replaceEntry e.start new ix) := by
  refine replaceEntry_moved_rising h (fun x hx hlt => ?_) (fun x hx hlt => ?_)
  all_goals
    have hleast := nearestEntry_least hnear hx
    rw [IndexEntry.dist_eq, IndexEntry.dist_eq] at hleast
    grind

theorem insertOrdered_held {e : IndexEntry} (h : indexHeld s) (hroom : s.tapeMap.index.length < 64)
    (hnew : ∀ x ∈ s.tapeMap.index, x.start ≠ e.start) :
    (insertOrdered e s.tapeMap.index).length ≤ 64 ∧ Rising (insertOrdered e s.tapeMap.index) :=
  ⟨by rw [length_insertOrdered]; omega, Rising.insertOrdered h.2 hnew⟩

theorem insertEntry_kept (e : IndexEntry) (hnew : ∀ x ∈ s.tapeMap.index, x.start ≠ e.start) (h : PromisesKept o s) :
    PromisesKept o (insertEntry e s) := by
  unfold insertEntry
  split
  · next hroom => exact raiseEvent_kept _ (withIndex_kept (s := s) _ _ _ _ (fun hs => insertOrdered_held hs hroom hnew) h)
  · exact h

theorem starts_ne_of_far {ix : List IndexEntry} {a : Afa} (h : nearestEntry ix a = none) : ∀ x ∈ ix, x.start ≠ a :=
  fun x hx heq => nearestEntry_far h x hx (by
    rw [heq]
    exact ⟨Nat.le_add_right _ _, Nat.le_add_right _ _⟩)

theorem applyReadRun_kept (a : Afa) (k : MarkerKind) (n : Nat) (h : PromisesKept o s) :
    PromisesKept o (applyReadRun a k n s) := by
  unfold applyReadRun
  split
  · next hnone => exact insertEntry_kept _ (starts_ne_of_far hnone) h
  · split
    · exact h
    · exact raiseEvent_kept _ (withIndex_kept (s := s) _ _ _ _
        (fun hs => ⟨(length_replaceEntry _ _ _).trans_le hs.1, Rising.replaceEntry hs.2 rfl⟩) h)

theorem applyWrittenRun_kept (a : Afa) (k : MarkerKind) (n : Nat) (h : PromisesKept o s) :
    PromisesKept o (applyWrittenRun a k n s) := by
  unfold applyWrittenRun
  simp only
  split
  · next hnone => exact insertEntry_kept _ (starts_ne_of_far hnone) h
  · next e hnear =>
    split
    · exact h
    · exact raiseEvent_kept _ (withIndex_kept (s := s) _ _ _ _
        (fun hs => ⟨(length_replaceEntry _ _ _).trans_le hs.1, replaceEntry_nearest_rising hs.2 hnear rfl⟩) h)

theorem removeWritten_kept (a : Afa) (h : PromisesKept o s) : PromisesKept o (removeWritten a s) := by
  unfold removeWritten
  split
  · exact raiseEvent_kept _ (withIndex_kept (s := s) _ _ _ _
      (fun hs => ⟨(List.length_filter_le _ _).trans hs.1, List.Pairwise.filter _ hs.2⟩) h)
  · exact h

theorem handWritten_kept (a : Afa) (p : ProgramPack) (h : PromisesKept o s) : PromisesKept o (handWritten a p s) := by
  unfold handWritten
  repeat' split
  · exact applyWrittenRun_kept _ _ _ h
  · exact removeWritten_kept _ h
  · exact removeWritten_kept _ h

theorem emptyIndex_kept (h : PromisesKept o s) : PromisesKept o (emptyIndex s) := by
  have hempty : PromisesKept o
      { s with tapeMap := { s.tapeMap with index := [], indexFull := false, debounce := none } } :=
    withIndex_kept _ _ _ _ (fun _ => ⟨Nat.zero_le _, List.Pairwise.nil⟩) h
  unfold emptyIndex
  simp only
  split
  · exact hempty
  · exact raiseEvent_kept _ hempty

theorem updateDebounce_kept (k : Option ProgramPack) (a : Option Afa) (dir : Direction) (h : PromisesKept o s) :
    PromisesKept o (updateDebounce k a dir s) := by
  unfold updateDebounce
  simp only
  repeat' split
  · exact raiseEvent_kept _ (applyReadRun_kept _ _ _ h)
  · exact applyReadRun_kept _ _ _ h
  · exact h
  · exact h

end

end Sys2Proof.Machine

namespace Sys2Proof.Machine
open Sys2Proof

section
variable {o s : State}

/-! ### The position record -/

/-- A position pack lies within the AFA range: two symbols carry 20 bits (R14). -/
theorem parsePosition_le {p : List Symbol} {k : PositionPack} (h : parsePosition p = some k) : k.afa ≤ afaMax := by
  unfold parsePosition at h
  obtain ⟨r, -, rfl⟩ := Option.map_eq_some_iff.1 h
  have hhigh := (p.getD 0 0).isLt
  have hlow := (p.getD 1 0).isLt
  show (p.getD 0 0).toNat * 1024 + (p.getD 1 0).toNat ≤ 1048575
  omega

theorem trackPack_position_le {a : Option Assembly} {ovr : Bool} {t : Track} {k : PositionPack}
    (h : trackPack a ovr t 0 parsePosition = some k) : k.afa ≤ afaMax := by
  unfold trackPack at h
  split at h
  · cases h
  · split at h
    · cases h
    · exact parsePosition_le h

theorem assemblyPacks_position_le {a : Option Assembly} {ovrA ovrB : Bool} {k : PositionPack}
    (h : (assemblyPacks a ovrA ovrB).position = some k) : k.afa ≤ afaMax := by
  change framePack a ovrA ovrB 0 parsePosition = some k at h
  unfold framePack at h
  split at h
  · next hp =>
    cases h
    exact trackPack_position_le hp
  · exact trackPack_position_le h

/-- The POSITION pack that a tick hands on lies within the AFA range (R14). -/
theorem decoderResult_position_le {path : ReadPath} {k : PositionPack}
    (h : (decoderResult path s).packs.position = some k) : k.afa ≤ afaMax := by
  unfold decoderResult at h
  simp only at h
  repeat' split at h
  · cases h
  · exact assemblyPacks_position_le h
  · cases h
  · exact assemblyPacks_position_le h
  · cases h

section
variable {p : PositionRecord}

theorem PositionRecord.tick_held (dir : Direction) (h : p.held) : (p.tick dir).1.held := by
  obtain ⟨hle, hunknown⟩ := h
  unfold PositionRecord.tick
  simp only
  split
  · exact ⟨hle, hunknown⟩
  · next hknown =>
    refine ⟨?_, fun hu => absurd hu hknown⟩
    show (moveAfa dir p.afa).1 ≤ afaMax
    unfold moveAfa
    repeat' split
    · next hnext => exact hnext
    · exact le_refl _
    · exact Nat.zero_le _
    · exact (Nat.sub_le _ _).trans hle

theorem PositionRecord.carry_held (h : p.held) : p.carry.held := by
  refine ⟨h.1, fun hu => h.2 ?_⟩
  change (if p.state = .read then PosState.reckoned else p.state) = .unknown at hu
  split at hu
  · cases hu
  · exact hu

/-- A POSITION pack, or none, at the record (R100, R101). -/
theorem PositionRecord.handle_held {k : Option PositionPack} (hk : ∀ x, k = some x → x.afa ≤ afaMax) (h : p.held) :
    (p.handle k).1.held := by
  have htake : ∀ x, k = some x → (p.take x).held := fun x hx => ⟨hk x hx, nofun⟩
  unfold PositionRecord.handle
  split
  · next x =>
    unfold PositionRecord.pack
    repeat' split
    · exact htake x rfl
    · exact htake x rfl
    · exact htake x rfl
    · exact PositionRecord.carry_held (p := { p with candidate := some ⟨x.afa, 0⟩ }) h
    · exact PositionRecord.carry_held (p := { p with candidate := some ⟨x.afa, 0⟩ }) h
  · exact PositionRecord.carry_held h

/-- The EDIT pack and the blank test of a completion (R104, R105). -/
theorem PositionRecord.rest_held (e : Option EditPack) (b : Bool) (h : p.held) : ((p.edit e).blank b).held := by
  have hedit : (p.edit e).held := by
    unfold PositionRecord.edit
    split <;> exact h
  unfold PositionRecord.blank
  simp only
  repeat' split
  · exact ⟨hedit.1, nofun⟩
  · exact hedit
  · exact hedit

end

theorem tapeMapRest_kept (packs : FramePacks) (b : Bool) (fp : Option Afa) (h : PromisesKept o s) :
    PromisesKept o (tapeMapRest packs b fp s) :=
  updateDebounce_kept _ _ _ (withPosition_kept _ (PositionRecord.rest_held packs.edit b) h)

theorem tapeMapTick_kept (h : PromisesKept o s) : PromisesKept o (tapeMapTick s) := by
  have hmoved : PromisesKept o { s with tapeMap := { s.tapeMap with
      periodValue := s.tapeMap.pos.afa, pos := (s.tapeMap.pos.tick s.transport.dir).1 } } :=
    withPosition_kept (s := s) _ (PositionRecord.tick_held _) h
  unfold tapeMapTick
  simp only
  split
  · exact positionReport_kept _ hmoved
  · exact hmoved

theorem tapeMapUnload_kept (h : PromisesKept o s) : PromisesKept o (tapeMapUnload s) :=
  emptyIndex_kept (withPosition_kept .reset (fun _ => ⟨Nat.zero_le _, fun _ => rfl⟩) h)

theorem expireCandidate_kept (h : PromisesKept o s) : PromisesKept o (expireCandidate s) := by
  unfold expireCandidate
  split <;> exact h

/-! ### The gate, the tracks and the building of frames -/

theorem closeGate_kept (h : PromisesKept o s) : PromisesKept o (closeGate s) :=
  gateClosedReport_kept (reselect_kept (raiseEvent_kept _ h))

theorem normalClose_kept (h : PromisesKept o s) : PromisesKept o (normalClose s) := by
  unfold normalClose
  split
  · exact closeGate_kept h
  · exact h

theorem forcedClose_kept (h : PromisesKept o s) : PromisesKept o (forcedClose s) := by
  unfold forcedClose
  split
  · exact closeGate_kept h
  · exact h

theorem gateTest_kept (h : PromisesKept o s) : PromisesKept o (gateTest s) := by
  unfold gateTest
  repeat' split
  · exact h
  · exact reselect_kept (raiseEvent_kept _ h)
  · exact seqRefused_kept _ _ (s := discardOpen s) h
  · exact h

theorem trackASent_kept (h : PromisesKept o s) : PromisesKept o (trackASent s) := by
  unfold trackASent
  split
  · exact handWritten_kept _ _ h
  · exact h

theorem writeComplete_kept (h : PromisesKept o s) : PromisesKept o (writeComplete s) := by
  unfold writeComplete
  split
  · exact withWritten_kept (s := s) _ (fun _ => length_joinWritten _ _) h
  · exact h

theorem finishSending_kept (h : PromisesKept o s) : PromisesKept o (finishSending s) :=
  forcedClose_kept (writeComplete_kept (forcedClose_kept (trackASent_kept h)))

theorem buildComplete_kept (h : PromisesKept o s) : PromisesKept o (buildComplete s) := by
  unfold buildComplete
  repeat' split
  all_goals exact h

theorem buildAtTick_kept (h : PromisesKept o s) : PromisesKept o (buildAtTick s) := by
  unfold buildAtTick
  split <;> exact h

theorem beginBuild_kept (f : FrameNo) (sp : Span) (x : OldFrame) (h : PromisesKept o s) :
    PromisesKept o (beginBuild f sp x s) := by
  unfold beginBuild
  obtain ⟨p, q, hnoted⟩ := noteBuilt_settings f { sp with
    prev := some (spanAfa sp, (programFor s sp x ((runFor s sp (spanAfa sp)).filter fun r => r.next < 100)).number) }
    s.formatter
  simp only [hnoted]
  exact h

theorem buildStart_kept (h : PromisesKept o s) : PromisesKept o (buildStart s) := by
  have hstop : ∀ sp kind d, PromisesKept o (buildStop sp kind d s) := fun sp kind d => by
    unfold buildStop
    split
    · exact seqRefused_kept kind d h
    · exact seqLaterStop_kept _ _ (closeRequest_kept _ h)
  unfold buildStart
  simp only
  repeat' split
  · exact h
  · exact hstop _ _ _
  · exact hstop _ _ _
  · exact beginBuild_kept _ _ _ h

theorem startSending_kept (h : PromisesKept o s) : PromisesKept o (startSending s) := by
  unfold startSending
  simp only
  split <;> exact h

/-! ### The steps that come due -/

theorem fadeOutEnd_kept (h : PromisesKept o s) : PromisesKept o (fadeOutEnd s) := by
  unfold fadeOutEnd
  split
  · exact fadeOutReport_kept (s.blend.lastFade.getD (blendedFrame s)) h
  · exact h

theorem runEnd_kept (h : PromisesKept o s) : PromisesKept o (runEnd s) := by
  unfold runEnd
  split
  · exact markRunReport_kept (blendedFrame s) h
  · exact h

theorem txRecord_kept (h : PromisesKept o s) : PromisesKept o (txRecord s) := by
  unfold txRecord
  split <;> exact h

theorem endSwitch_kept (h : PromisesKept o s) : PromisesKept o (endSwitch s) := by
  unfold endSwitch
  repeat' split
  all_goals exact h

theorem settleFades_kept (h : PromisesKept o s) : PromisesKept o (settleFades s) := h

theorem settleRepair_kept (h : PromisesKept o s) : PromisesKept o (settleRepair s) := h

theorem settleDue_kept (h : PromisesKept o s) : PromisesKept o (settleDue s) := by
  have hbuilt : PromisesKept o (buildComplete (runEnd (expireCandidate (writtenTimeout (dropUnchecked s))))) :=
    buildComplete_kept (runEnd_kept (expireCandidate_kept (writtenTimeout_kept (s := dropUnchecked s) h)))
  unfold settleDue
  exact settleRepair_kept (endSwitch_kept (txRecord_kept (gateTest_kept (forcedClose_kept (normalClose_kept
    (fadeOutEnd_kept (settleFades_kept hbuilt)))))))

/-! ### A frame tick -/

theorem setTapeRights_kept (t : TapeRights) (h : PromisesKept o s) : PromisesKept o (setTapeRights t s) := by
  unfold setTapeRights
  split
  · exact h
  · exact raiseEvent_kept _ h

theorem takeRightsPack_kept (k : Option RightsPack) (h : PromisesKept o s) : PromisesKept o (takeRightsPack k s) := by
  unfold takeRightsPack
  repeat' split
  · exact h
  · exact h
  · exact setTapeRights_kept _ h
  · exact h

theorem reportJump_kept (h : PromisesKept o s) : PromisesKept o (reportJump s) := by
  have hraised := raiseEvent_kept .positionJump h
  exact seqForcedCloseAll_kept _ _ (positionReport_kept _ hraised)

theorem verifyResult_kept (path : ReadPath) (r : TickResult) (scan : Option Afa) (j : Bool) (h : PromisesKept o s) :
    PromisesKept o (verifyResult path r scan j s) := by
  unfold verifyResult
  split
  · exact verifyStep_kept _ _ _ _ h
  · exact h
  · exact h

theorem preTally_kept (r : TickResult) (h : PromisesKept o s) : PromisesKept o (preTally r s) := by
  unfold preTally
  split
  · exact clogTally_kept _ _ (rateTally_kept _ (evaluate_kept _ _ h))
  · exact h
  · exact h

theorem decoderTick_kept (path : ReadPath) (r : TickResult) (h : PromisesKept o s) :
    PromisesKept o (decoderTick path r s) := by
  unfold decoderTick State.withDecoder State.withPathCounters handRepair
  cases path <;> cases r <;> exact h

theorem beforeRightsPack_kept {r : TickResult} (hr : ∀ k, r.packs.position = some k → k.afa ≤ afaMax)
    (h : PromisesKept o s) : PromisesKept o (beforeRightsPack r s) := by
  have hmoved : PromisesKept o (s.withPosition (s.tapeMap.pos.handle r.packs.position).1) :=
    withPosition_kept _ (PositionRecord.handle_held hr) h
  rw [beforeRightsPack_eq]
  refine tapeMapRest_kept r.packs _ _ (s := arrivalMoved r s) ?_
  unfold arrivalMoved
  simp only
  split
  · exact reportJump_kept hmoved
  · exact hmoved

theorem tapeMapArrival_kept {r : TickResult} (hr : ∀ k, r.packs.position = some k → k.afa ≤ afaMax)
    (h : PromisesKept o s) : PromisesKept o (tapeMapArrival r s) := by
  rw [tapeMapArrival_eq]
  exact verifyResult_kept _ _ _ _ (seqFramePosition_kept _ _ _ (preTally_kept _
    (takeRightsPack_kept _ (beforeRightsPack_kept hr h))))

theorem preTick_kept (h : PromisesKept o s) : PromisesKept o (preTick s) := by
  have hdecoder := decoderTick_kept .pre (decoderResult .pre s) h
  unfold preTick
  simp only
  split
  · exact hdecoder
  · exact tapeMapArrival_kept (fun _ => decoderResult_position_le) hdecoder

theorem confTick_kept (h : PromisesKept o s) : PromisesKept o (confTick s) := by
  have hdecoder := decoderTick_kept .conf (decoderResult .conf s) h
  rw [confTick_eq]
  unfold confUsers
  split
  · exact verifyStep_kept _ _ _ _ (clogTally_kept _ _ (confirmTally_kept _ hdecoder))
  · exact hdecoder
  · exact hdecoder

theorem tickTransport_kept (dir : Direction) (us : Nat) (h : PromisesKept o s) :
    PromisesKept o (tickTransport dir us s) :=
  afterTransport_kept s.transport (s := s.withTransport (s.transport.atTick dir us)) h

theorem tickBack_kept (h : PromisesKept o s) : PromisesKept o (tickBack s) :=
  positionTick_kept (s := tickBlend (tapeMapTick s)) (tapeMapTick_kept h)

theorem tickRest_kept (h : PromisesKept o s) : PromisesKept o (tickRest s) :=
  startSending_kept (buildStart_kept (tickBack_kept (confTick_kept (preTick_kept (buildAtTick_kept (s := tickRights s) h)))))

theorem frameTick_kept (dir : Direction) (us : Nat) (h : PromisesKept o s) : PromisesKept o (frameTick dir us s) := by
  rw [frameTick_eq_tickRest]
  exact tickRest_kept (tickTransport_kept dir us (finishSending_kept (settleDue_kept h)))

theorem stallTimeout_kept (h : PromisesKept o s) : PromisesKept o (stallTimeout s) :=
  afterTransport_kept s.transport (s := s.withTransport s.transport.atStall) h

/-! ### Mode reports, pairs, status records and settings -/

theorem tapeUnload_kept (h : PromisesKept o s) : PromisesKept o (tapeUnload s) := by
  have hseq := seqUnload_kept (tapeMapUnload_kept h)
  exact faultUnload_kept (setTapeRights_kept _ hseq)

theorem modeChange_kept (m : Mode) (lock prot : Bool) (h : PromisesKept o s) :
    PromisesKept o (modeChange m lock prot s) := by
  have htake : PromisesKept o (takeMode m lock prot s) := by
    unfold takeMode
    simp only
    split
    · exact h
    · exact raiseEvent_kept _ h
  rw [modeChange_eq]
  refine afterTransport_kept _ ?_
  split
  · exact tapeUnload_kept htake
  · exact htake

/-- A change that leaves the ports and the tape map alone, and the lists within their lengths. -/
theorem PromisesKept.of_lists {t : State} (h : PromisesKept o s) (hports : t.ports = s.ports)
    (htapeMap : t.tapeMap = s.tapeMap) (hlists : listsHeld s → listsHeld t) : PromisesKept o t := by
  unfold PromisesKept eventsReported indexHeld positionHeld
  rw [hports, htapeMap]
  exact ⟨h.1, h.2.1, fun ho => hlists (h.2.2.1 ho), h.2.2.2⟩

theorem fifoArrival_kept (p : Pair) (h : PromisesKept o s) : PromisesKept o (fifoArrival p s) := by
  unfold fifoArrival
  simp only
  split
  · next hroom => exact h.of_lists rfl rfl fun hs => ⟨by simpa using hroom, hs.2⟩
  · exact h

theorem takePair_fifo_le (s : State) : (takePair s).1.formatter.fifo.length ≤ s.formatter.fifo.length := by
  unfold takePair
  simp only
  repeat' split
  · exact le_refl _
  · next rest hq =>
    rw [hq]
    exact Nat.le_succ _
  · exact le_refl _

theorem pairPeriod_kept (h : PromisesKept o s) : PromisesKept o (pairPeriod s) := by
  have hsettled := settleDue_kept h
  unfold pairPeriod
  generalize settleDue s = u at hsettled
  simp only
  split
  · exact hsettled
  · next n _ =>
    rw [pairWork_only]
    exact hsettled.of_lists rfl rfl fun hu => ⟨(takePair_fifo_le u).trans hu.1, hu.2⟩

theorem setDigital_kept (st : SourceState) (h : PromisesKept o s) : PromisesKept o (setDigital st s) := by
  have hraised : PromisesKept o (raiseEvent .rightsChanged { s with rights := { s.rights with digital := st } }) :=
    raiseEvent_kept _ h
  unfold setDigital
  simp only
  repeat' split
  · exact h
  · exact noneReport_kept hraised
  · exact hraised
  · exact hraised

theorem afterUsability_kept (s0 : State) (h : PromisesKept o s) : PromisesKept o (afterUsability s0 s) := by
  unfold afterUsability
  split
  · exact h
  · refine evaluate_kept _ _ ?_
    split
    · exact h
    · exact emptyFifo_kept h

/-- The status history keeps two records (R144, R145). -/
theorem length_joinHistory (l : List StatusRecord) (r : StatusRecord) : (joinHistory l r).length ≤ 2 := by
  unfold joinHistory
  split
  · next hlast =>
    split
    · have hpos : 0 < l.length := List.length_pos_of_mem (List.mem_of_getLast? hlast)
      simp only [List.length_drop, List.length_append, List.length_singleton]
      omega
    · simp
  · simp

/-- A change of the status history that leaves it within its length. -/
theorem withHistory_kept (l : List StatusRecord) (hl : l.length ≤ 2) (h : PromisesKept o s) :
    PromisesKept o { s with rights := { s.rights with history := l } } := by
  refine ⟨h.1, h.2.1, fun ho => ?_, h.2.2.2⟩
  obtain ⟨hfifo, hwritten, -, hwindow⟩ := h.2.2.1 ho
  exact ⟨hfifo, hwritten, hl, hwindow⟩

theorem rightsRecord_kept (r : StatusRecord) (h : PromisesKept o s) : PromisesKept o (rightsRecord r s) := by
  have hjoined := withHistory_kept _ (length_joinHistory s.rights.history r) h
  unfold rightsRecord
  simp only
  split
  · exact setDigital_kept _ hjoined
  · exact hjoined

theorem statusRecord_kept (r : StatusRecord) (h : PromisesKept o s) : PromisesKept o (statusRecord r s) := by
  have hrecord := rightsRecord_kept r h
  unfold statusRecord
  split
  · exact afterUsability_kept _ hrecord
  · exact h

theorem lossOfLock_kept (h : PromisesKept o s) : PromisesKept o (lossOfLock s) := by
  have hnone := withHistory_kept [] (Nat.zero_le 2) h
  exact afterUsability_kept _ (setDigital_kept _ hnone)

theorem afterSettings_kept (s0 : State) (h : PromisesKept o s) : PromisesKept o (afterSettings s0 s) := by
  have husable : ∀ {u}, PromisesKept o u → PromisesKept o (if usable s0 = usable u then u
      else evaluateInput (if usable u then u else emptyFifo u)) := fun {u} hu => by
    split
    · exact hu
    · refine conditionTo_kept _ _ ?_
      split
      · exact hu
      · exact emptyFifo_kept hu
  have hrights : ∀ {u : State}, PromisesKept o u → PromisesKept o
      (if s0.formatter.analogRights = u.formatter.analogRights then u
        else if selectedSource (raiseEvent .rightsChanged u) = .analog then
          refreshWord (countPeriodRights (raiseEvent .rightsChanged u)) else raiseEvent .rightsChanged u) :=
    fun {u} hu => by
      have hraised := raiseEvent_kept .rightsChanged hu
      repeat' split
      · exact hu
      · exact hraised
      · exact hraised
  exact deliverInput_kept _ (hrights (husable (afterSourceChange_kept s0 h)))

/-! ### The requests of the control ports -/

theorem respond_kept (p : Port) (op : Byte) (res : ResultCode) (pl : Payload) (h : PromisesKept o s) :
    PromisesKept o (respond p op res pl s) := setPort_kept p id h

/-- A request keeps the promises when its own effect does. -/
theorem request_kept {body : State → State × ResultCode × Payload} (p : Port) (op : Byte) (cls : RequestClass)
    (hbody : PromisesKept o (body s).1) (h : PromisesKept o s) : PromisesKept o (request p op cls body s) := by
  unfold request
  repeat' split
  · exact setPort_kept p id h
  · next hb =>
    rw [hb] at hbody
    exact respond_kept p op _ _ hbody
  · exact respond_kept p op _ _ h

theorem claimRequest_kept (p : Port) (which : Byte) (take : Bool) (h : PromisesKept o s) :
    PromisesKept o (claimRequest p which take s).1 := by
  unfold claimRequest
  repeat' split
  · exact h
  · exact h
  · exact h
  · next q _ _ _ => exact setPort_kept q (notice_eventsReported _) h
  · exact h

theorem reportSet_kept (p : Port) (report attn : Option (BitVec 16)) (h : PromisesKept o s) :
    PromisesKept o (reportSet p report attn s).1 := by
  unfold reportSet
  simp only
  split
  · next r a _ _ =>
    refine setPort_kept p (fun _ => ?_) h
    show ((s.ports.get p).events &&& r) &&& r = (s.ports.get p).events &&& r
    rw [BitVec.and_assoc, BitVec.and_self]
  · exact h

theorem ackEvents_kept (p : Port) (mask : BitVec 16) (h : PromisesKept o s) :
    PromisesKept o (ackEvents p mask s).1 := by
  unfold ackEvents
  split
  · exact h
  · next m _ =>
    refine setPort_kept p (fun hp => ?_) h
    show ((s.ports.get p).events &&& ~~~m) &&& (s.ports.get p).report = (s.ports.get p).events &&& ~~~m
    rw [BitVec.and_assoc, BitVec.and_comm (~~~m), ← BitVec.and_assoc, show (s.ports.get p).events &&& _ = _ from hp]

theorem statusRequest_kept (p : Port) (page : Byte) (h : PromisesKept o s) :
    PromisesKept o (statusRequest p page s).1 := by
  unfold statusRequest
  simp only
  repeat' split
  · exact setPort_kept p id h
  · exact setPort_kept p id h
  · exact h

theorem powerOnReset_kept (o s : State) : PromisesKept o (powerOnReset s) := by
  refine ⟨fun _ => ⟨?_, ?_, ?_⟩, fun _ => ⟨Nat.zero_le _, List.Pairwise.nil⟩,
    fun _ => ⟨Nat.zero_le _, Nat.zero_le _, Nat.zero_le _, Nat.zero_le _⟩, fun _ => ⟨Nat.zero_le _, fun _ => rfl⟩⟩
  all_goals exact BitVec.and_self

theorem blockArrival_kept (blk : BlockArrival) (h : PromisesKept o s) : PromisesKept o (blockArrival blk s) := by
  unfold blockArrival State.withDecoder
  simp only
  split <;> exact h

theorem mapConcealer_kept (ch : Channel) (f : Concealer → Concealer) (h : PromisesKept o s) :
    PromisesKept o (mapConcealer ch f s) := by
  cases ch <;> exact h

theorem mapRepairer_kept (path : ReadPath) (ch : Channel) (f : Repairer → Repairer) (h : PromisesKept o s) :
    PromisesKept o (mapRepairer path ch f s) := by
  cases path <;> exact h

theorem exchangeStart_kept (p : Port) (h : PromisesKept o s) : PromisesKept o (exchangeStart p s) := by
  unfold exchangeStart
  simp only
  split
  · exact h
  · exact setPort_kept p id h

theorem frameError_kept (p : Port) (h : PromisesKept o s) : PromisesKept o (frameError p s) := by
  unfold frameError
  split <;> exact setPort_kept p id h

theorem modeReport_kept (m l r : Byte) (h : PromisesKept o s) : PromisesKept o (modeReport m l r s).1 := by
  unfold modeReport
  split
  · exact modeChange_kept _ _ _ h
  · exact h

theorem releaseRequest_kept (p : Port) (which : Byte) (h : PromisesKept o s) :
    PromisesKept o (releaseRequest p which s).1 := by
  unfold releaseRequest
  repeat' split
  all_goals exact h

theorem readPosition_kept (page : Byte) (h : PromisesKept o s) : PromisesKept o (readPosition page s).1 := by
  unfold readPosition
  repeat' split
  all_goals exact h

theorem readIndex_kept (k : Byte) (h : PromisesKept o s) : PromisesKept o (readIndex k s).1 := by
  unfold readIndex
  simp only
  split <;> exact h

theorem readFaults_kept (kind : Byte) (h : PromisesKept o s) : PromisesKept o (readFaults kind s).1 := by
  unfold readFaults
  repeat' split
  all_goals exact h

theorem readCounts_kept (p : Port) (first : Byte) (snapshot : Bool) (h : PromisesKept o s) :
    PromisesKept o (readCounts p first snapshot s).1 := by
  unfold readCounts takeSnapshot
  simp only
  cases p <;> repeat' split
  all_goals exact h

theorem verifyStart_kept (source : Byte) (start : Option (BitVec 20)) (stop : BitVec 20) (threshold : Byte) (loop : Bool)
    (h : PromisesKept o s) : PromisesKept o (verifyStart source start stop threshold loop s).1 := by
  unfold verifyStart
  simp only
  repeat' split
  all_goals exact h

theorem verifyStop_kept (h : PromisesKept o s) : PromisesKept o (verifyStop s).1 := by
  unfold verifyStop
  simp only
  split
  · exact stopScan_kept _ h
  · exact h

theorem verifyRead_kept (page : Byte) (h : PromisesKept o s) : PromisesKept o (verifyRead page s).1 := by
  unfold verifyRead
  simp only
  repeat' split
  all_goals exact h

theorem setMonitor_kept (mode : Byte) (h : PromisesKept o s) : PromisesKept o (setMonitor mode s).1 := by
  unfold setMonitor
  split
  · exact h
  · exact reselect_kept h

theorem editWrite_kept (k : BitVec 5) (e : EditEntry) (h : PromisesKept o s) : PromisesKept o (editWrite k e s).1 := by
  unfold editWrite
  simp only
  repeat' split
  all_goals exact h

theorem editStart_kept (p : Byte) (h : PromisesKept o s) : PromisesKept o (editStart p s).1 := by
  unfold editStart
  repeat' split
  · exact fetchFrom_kept _ h
  · exact h
  · exact h

theorem holdWalk_kept (h : PromisesKept o s) : PromisesKept o (holdWalk s).1 := by
  unfold holdWalk
  split <;> exact h

theorem continueWalk_kept (h : PromisesKept o s) : PromisesKept o (continueWalk s).1 := by
  unfold continueWalk
  split
  · exact continueHeld_kept h
  · exact h

theorem writeDisable_kept (h : PromisesKept o s) : PromisesKept o (writeDisable s).1 := by
  unfold writeDisable
  simp only
  split
  · have hoff : PromisesKept o { s with formatter := { s.formatter with writeEnable := false } } := h
    exact seqForcedClose_kept _ _ (forcedCloseRequest_kept hoff)
  · exact h

theorem setRecordSettings_kept (rate source analog : Option Byte) (h : PromisesKept o s) :
    PromisesKept o (setRecordSettings rate source analog s).1 := by
  unfold setRecordSettings
  split
  · split
    · exact h
    · exact afterSettings_kept _ h
  · exact h

theorem faultModeRequest_kept (kind mode : Byte) (h : PromisesKept o s) :
    PromisesKept o (faultModeRequest kind mode s).1 := by
  unfold faultModeRequest
  repeat' split
  · exact h
  · exact changeMode_kept _ _ h
  · exact h

/-- Every command keeps the promises of the sets, the index, the lists and the position. -/
theorem exec_kept (i : Instr) (h : PromisesKept o s) : ∃ t, exec i s = .next t ∧ PromisesKept o t := by
  cases i with
  | powerOnReset => exact ⟨_, rfl, powerOnReset_kept o s⟩
  | frameTick dir us => exact ⟨_, rfl, frameTick_kept dir us h⟩
  | stallTimeout => exact ⟨_, rfl, stallTimeout_kept h⟩
  | modeReport p m l r => exact ⟨_, rfl, request_kept _ _ _ (modeReport_kept m l r h) h⟩
  | blockArrival blk => exact ⟨_, rfl, blockArrival_kept blk h⟩
  | jumpCandidateExpiry => exact ⟨_, rfl, expireCandidate_kept h⟩
  | pairPeriod => exact ⟨_, rfl, pairPeriod_kept h⟩
  | newPathHoldExpiry ch => exact ⟨_, rfl, mapConcealer_kept ch _ h⟩
  | newPathMuteEnd ch => exact ⟨_, rfl, mapConcealer_kept ch _ h⟩
  | newPathRecoveryEnd ch => exact ⟨_, rfl, mapConcealer_kept ch _ h⟩
  | holdExpiry path ch => exact ⟨_, rfl, mapRepairer_kept path ch _ h⟩
  | muteRampEnd path ch => exact ⟨_, rfl, mapRepairer_kept path ch _ h⟩
  | recoveryEnd path ch => exact ⟨_, rfl, mapRepairer_kept path ch _ h⟩
  | converterPairArrival l r =>
    refine ⟨_, rfl, ?_⟩
    split
    · exact fifoArrival_kept _ h
    · exact h
  | receiverPairArrival l r =>
    refine ⟨_, rfl, ?_⟩
    split
    · exact fifoArrival_kept _ h
    · exact h
  | statusRecord r => exact ⟨_, rfl, statusRecord_kept r h⟩
  | lossOfLock => exact ⟨_, rfl, lossOfLock_kept h⟩
  | lockRegained =>
    exact ⟨_, rfl, afterUsability_kept s (s := { s with rights := { s.rights with lock := true } }) h⟩
  | txStatusRecord => exact ⟨_, rfl, txRecord_kept h⟩
  | markerRunEnd => exact ⟨_, rfl, runEnd_kept h⟩
  | frameBuildComplete => exact ⟨_, rfl, buildComplete_kept h⟩
  | gateOpenTest => exact ⟨_, rfl, gateTest_kept h⟩
  | normalCloseEffect => exact ⟨_, rfl, normalClose_kept h⟩
  | forcedCloseEffect => exact ⟨_, rfl, forcedClose_kept h⟩
  | trackASent => exact ⟨_, rfl, trackASent_kept h⟩
  | frameWriteComplete => exact ⟨_, rfl, writeComplete_kept h⟩
  | writtenListTimeout => exact ⟨_, rfl, writtenTimeout_kept h⟩
  | confirmDropUnchecked => exact ⟨_, rfl, h⟩
  | pendingFadeStart ch => exact ⟨_, rfl, h⟩
  | fadeInEnd ch => exact ⟨_, rfl, h⟩
  | fadeOutEnd => exact ⟨_, rfl, fadeOutEnd_kept h⟩
  | monitorSwitchEnd => exact ⟨_, rfl, endSwitch_kept h⟩
  | exchangeStart p => exact ⟨_, rfl, exchangeStart_kept p h⟩
  | frameError p => exact ⟨_, rfl, frameError_kept p h⟩
  | unknownOpcode p op =>
    refine ⟨_, rfl, ?_⟩
    split <;> exact setPort_kept p id h
  | noop p => exact ⟨_, rfl, request_kept _ _ _ h h⟩
  | status p page => exact ⟨_, rfl, request_kept _ _ _ (statusRequest_kept p page h) h⟩
  | claim p which take => exact ⟨_, rfl, request_kept _ _ _ (claimRequest_kept p which take h) h⟩
  | release p which => exact ⟨_, rfl, request_kept _ _ _ (releaseRequest_kept p which h) h⟩
  | reportSet p r a => exact ⟨_, rfl, request_kept _ _ _ (reportSet_kept p r a h) h⟩
  | readEvents p => exact ⟨_, rfl, request_kept _ _ _ h h⟩
  | ackEvents p mask => exact ⟨_, rfl, request_kept _ _ _ (ackEvents_kept p mask h) h⟩
  | readPosition p page => exact ⟨_, rfl, request_kept _ _ _ (readPosition_kept page h) h⟩
  | readIndex p k => exact ⟨_, rfl, request_kept _ _ _ (readIndex_kept k h) h⟩
  | editRead p k part => exact ⟨_, rfl, request_kept _ _ _ h h⟩
  | readRights p => exact ⟨_, rfl, request_kept _ _ _ h h⟩
  | readFaults p kind => exact ⟨_, rfl, request_kept _ _ _ (readFaults_kept kind h) h⟩
  | clearFaults p => exact ⟨_, rfl, request_kept _ _ _ (clearFaults_kept h) h⟩
  | readCounts p first snapshot => exact ⟨_, rfl, request_kept _ _ _ (readCounts_kept p first snapshot h) h⟩
  | verifyStart p source start stop threshold loop =>
    exact ⟨_, rfl, request_kept _ _ _ (verifyStart_kept source start stop threshold loop h) h⟩
  | verifyStop p => exact ⟨_, rfl, request_kept _ _ _ (verifyStop_kept h) h⟩
  | verifyRead p page => exact ⟨_, rfl, request_kept _ _ _ (verifyRead_kept page h) h⟩
  | setMonitor p mode => exact ⟨_, rfl, request_kept _ _ _ (setMonitor_kept mode h) h⟩
  | editWrite p k e => exact ⟨_, rfl, request_kept _ _ _ (editWrite_kept k e h) h⟩
  | editStart p first => exact ⟨_, rfl, request_kept _ _ _ (editStart_kept first h) h⟩
  | hold p => exact ⟨_, rfl, request_kept _ _ _ (holdWalk_kept h) h⟩
  | continueWalk p => exact ⟨_, rfl, request_kept _ _ _ (continueWalk_kept h) h⟩
  | abort p => exact ⟨_, rfl, request_kept _ _ _ (abortWalk_kept h) h⟩
  | writeEnable p => exact ⟨_, rfl, request_kept _ _ _ h h⟩
  | writeDisable p => exact ⟨_, rfl, request_kept _ _ _ (writeDisable_kept h) h⟩
  | setRecord p rate source analog =>
    exact ⟨_, rfl, request_kept _ _ _ (setRecordSettings_kept rate source analog h) h⟩
  | setRepair p _ _ _ _ => exact ⟨_, rfl, request_kept _ _ _ h h⟩
  | faultMode p kind mode => exact ⟨_, rfl, request_kept _ _ _ (faultModeRequest_kept kind mode h) h⟩
  | setThresholds p high low => exact ⟨_, rfl, request_kept _ _ _ h h⟩
  | clearIndex p => exact ⟨_, rfl, request_kept _ _ _ (emptyIndex_kept h) h⟩

/-- A step keeps each of the four promises: the command at the front of the queue does (`exec_kept`), and an idle step
changes nothing. -/
theorem step_kept {t : State} (h : step s = .next t) : PromisesKept s t := by
  unfold step at h
  split at h
  · cases h
    exact .refl s
  · next c rest _ =>
    have hqueue : PromisesKept s { s with pending := rest } := PromisesKept.refl s
    obtain ⟨u, hu, hkept⟩ := exec_kept c hqueue
    cases hu.symm.trans h
    exact hkept

end

/-- Settles O60: each promise through the command that a step takes (`step_kept`). -/
theorem setsAndListsKept : Obligations.SetsAndListsKept := by
  unfold Obligations.SetsAndListsKept
  exact ⟨fun _ _ hs h => (step_kept h).1 hs, fun _ _ hs h => (step_kept h).2.1 hs,
    fun _ _ hs h => (step_kept h).2.2.1 hs, fun _ _ hs h => (step_kept h).2.2.2 hs⟩

end Sys2Proof.Machine

namespace Sys2Proof.Machine
open Sys2Proof

/-- After reset each kind is in its default mode with nothing present, applied or seen (R158, R159). -/
theorem reset_modeHeld (k : FaultKind) : (State.reset.faults.records.get k).modeHeld := by
  rw [reset_faultRecord]
  exact ⟨fun _ => ⟨rfl, rfl, rfl⟩, fun _ => rfl⟩

theorem reset_gateShut : gateShut State.reset := ⟨nofun, rfl⟩

/-- Settles O4: the sets and lists are empty, the position is UNKNOWN at 0, the gate is CLOSED with no open pending. -/
theorem resetSafe : Obligations.ResetSafe := by
  unfold Obligations.ResetSafe
  have hevents : eventsReported State.reset := eventsReported_iff.2 fun q => by
    rw [reset_port]
    exact BitVec.and_self
  have hindex : indexHeld State.reset := ⟨Nat.zero_le _, List.Pairwise.nil⟩
  have hlists : listsHeld State.reset := ⟨Nat.zero_le _, Nat.zero_le _, Nat.zero_le _, Nat.zero_le _⟩
  have hposition : positionHeld State.reset := ⟨Nat.zero_le _, fun _ => rfl⟩
  have hfaults : faultsHeld State.reset := ⟨reset_modeHeld, nofun, rfl, rfl⟩
  exact ⟨hevents, hindex, hlists, hposition, hfaults, reset_gateShut.held⟩

end Sys2Proof.Machine

namespace Sys2Proof.Machine
open Sys2Proof

/-! ## The formulas of chapter 5 within the sample range (R36, R78 to R95) -/

/-- A step of an interpolated gap lies between the two values it goes between (R78). -/
theorem interpolate_between (a b : Sample) {g k : Nat} (h : k ≤ g) :
    min a b ≤ interpolate a b g k ∧ interpolate a b g k ≤ max a b := by
  have hg : (0 : Int) < g + 1 := by omega
  have hk : (k : Int) ≤ g + 1 := by omega
  unfold interpolate
  rcases le_total a b with hab | hab
  · have hnonneg : 0 ≤ (b - a) * (k : Int) := mul_nonneg (sub_nonneg.2 hab) (Int.natCast_nonneg k)
    have hle : (b - a) * (k : Int) ≤ (b - a) * ((g : Int) + 1) := mul_le_mul_of_nonneg_left hk (sub_nonneg.2 hab)
    rw [Int.tdiv_eq_ediv_of_nonneg hnonneg, min_eq_left hab, max_eq_right hab]
    have hlow := Int.ediv_nonneg hnonneg hg.le
    have hhigh := Int.ediv_le_of_le_mul hg hle
    grind
  · have hnonneg : 0 ≤ (a - b) * (k : Int) := mul_nonneg (sub_nonneg.2 hab) (Int.natCast_nonneg k)
    have hle : (a - b) * (k : Int) ≤ (a - b) * ((g : Int) + 1) := mul_le_mul_of_nonneg_left hk (sub_nonneg.2 hab)
    rw [show (b - a) * (k : Int) = -((a - b) * (k : Int)) by ring, Int.neg_tdiv, Int.tdiv_eq_ediv_of_nonneg hnonneg,
      min_eq_right hab, max_eq_left hab]
    have hlow := Int.ediv_nonneg hnonneg hg.le
    have hhigh := Int.ediv_le_of_le_mul hg hle
    grind

/-- A ramp value lies between 0 and its base (R80, R82). -/
theorem rampValue_within {base : Sample} {gain : Nat} (hb : -524288 ≤ base ∧ base ≤ 524287) (hg : gain ≤ 4096) :
    -524288 ≤ rampValue base gain ∧ rampValue base gain ≤ 524287 := by
  obtain ⟨hlow, hhigh⟩ := hb
  have hgain : (gain : Int) ≤ 4096 := by omega
  have hbelow : -524288 * 4096 ≤ base * (gain : Int) := by nlinarith
  have habove : base * (gain : Int) ≤ 524287 * 4096 := by nlinarith
  unfold rampValue
  grind

/-- A blended value is a weighted mean of the two (R86, R93). -/
theorem blendValue_within {x n : Sample} {g : Nat} (hx : -524288 ≤ x ∧ x ≤ 524287) (hn : -524288 ≤ n ∧ n ≤ 524287)
    (hg : g ≤ 4096) : -524288 ≤ blendValue x n g ∧ blendValue x n g ≤ 524287 := by
  obtain ⟨hxlow, hxhigh⟩ := hx
  obtain ⟨hnlow, hnhigh⟩ := hn
  have hweight : (g : Int) ≤ 4096 := by omega
  have hbelow : -524288 * 4096 ≤ x * (4096 - (g : Int)) + n * (g : Int) := by nlinarith
  have habove : x * (4096 - (g : Int)) + n * (g : Int) ≤ 524287 * 4096 := by nlinarith
  unfold blendValue
  grind

/-- A 24-bit sample rounded to 20 bits: the one sum past the range is clamped (R36). -/
theorem convert24_eq (v : BitVec 24) :
    convert24 v = if (v.toInt + 8) / 16 = 524288 then 524287 else (v.toInt + 8) / 16 := rfl

theorem toInt_within (v : BitVec 24) : -8388608 ≤ v.toInt ∧ v.toInt ≤ 8388607 :=
  ⟨BitVec.le_toInt v, BitVec.toInt_le⟩

theorem convert24_within (v : BitVec 24) : -524288 ≤ convert24 v ∧ convert24 v ≤ 524287 := by
  have hv := toInt_within v
  rw [convert24_eq]
  split <;> grind

/-- Settles O28, formula by formula. -/
theorem arithmeticStaysInRange : Obligations.ArithmeticStaysInRange := by
  unfold Obligations.ArithmeticStaysInRange
  refine ⟨convert24_within, fun a b g k => interpolate_between a b, fun base gain => rampValue_within,
    fun x n g => blendValue_within, fun x n => ?blend, fun base => ?ramp, fun v hv => ?output⟩
  case blend =>
    unfold blendValue
    constructor <;> grind
  case ramp =>
    unfold rampValue
    constructor <;> grind
  case output =>
    obtain ⟨hlow, hhigh⟩ := hv
    unfold output24
    constructor <;> grind

end Sys2Proof.Machine

namespace Sys2Proof.Machine
open Sys2Proof

/-! ## Pairs at the input FIFO (R36 to R38) -/

/-- The conversion rounds to the nearest, halves up, and clamps above (R36). -/
theorem convert24_rounds (v : BitVec 24) :
    (v.toInt < 8388600 → 16 * convert24 v ≤ v.toInt + 8 ∧ v.toInt + 8 < 16 * convert24 v + 16) ∧
    (8388600 ≤ v.toInt → convert24 v = 524287) := by
  have hv := toInt_within v
  rw [convert24_eq]
  split <;> grind

theorem usable_iff (s : State) :
    usable s = true ↔ s.rights.lock = true ∧ s.formatter.linkRate = some (.known s.formatter.recordRate) := by
  simp [usable]

/-- A pair joins the FIFO while it has room, and is a slip at 2048 (R38). -/
theorem fifoArrival_eq (p : Pair) (s : State) : fifoArrival p s =
    if (s.formatter.fifo ++ [p]).length ≤ 2048 then { s with formatter := { s.formatter with
      fifo := s.formatter.fifo ++ [p]
      fifoState := if s.formatter.fifoState = .running ∨
        (s.formatter.fifo ++ [p]).length = primingLevel (selectedSource s) then .running else .priming } }
    else countSlip s := by
  unfold fifoArrival
  simp only [List.length_append, List.length_singleton, Nat.succ_le_iff]
  split
  · cases s.formatter.fifoState <;> simp
  · rfl

theorem converterPairArrival_eq (l r : BitVec 24) (s : State) : exec (.converterPairArrival l r) s =
    .next (if selectedSource s = .analog then fifoArrival (convertPair l r) s else s) := by
  rfl

theorem receiverPairArrival_eq (l r : BitVec 24) (s : State) : exec (.receiverPairArrival l r) s =
    .next (if selectedSource s = .digital ∧ usable s then fifoArrival (convertPair l r) s else s) := by
  rfl

/-- Settles O35: the rounding by `convert24_rounds`, the FIFO by `fifoArrival_eq`, and which of the two sources arrives
by the selected source. -/
theorem pairsArriveConverted : Obligations.PairsArriveConverted := by
  unfold Obligations.PairsArriveConverted
  refine ⟨convert24_rounds, fun l r s => ?_⟩
  have harrival := fifoArrival_eq (convertPair l r) s
  unfold primingLevel at harrival
  rw [converterPairArrival_eq, receiverPairArrival_eq, harrival]
  refine ⟨fun ha => ?analog, fun hd => ?digital, fun hd hu => ?received, fun hnot => ?dropped⟩
  case analog =>
    rw [if_pos ha]
    rfl
  case digital => rw [if_neg (by rw [hd]; decide)]
  case received =>
    rw [if_pos ⟨hd, (usable_iff s).2 hu⟩]
    rfl
  case dropped =>
    refine congrArg _ (if_neg fun ⟨hd, hu⟩ => ?_)
    rcases hnot with ha | hnot
    · cases ha.symm.trans hd
    · exact hnot ((usable_iff s).1 hu)

end Sys2Proof.Machine

namespace Sys2Proof.Machine
open Sys2Proof

/-! ## The expiries and ends of concealers and repairers (R40, R79, R80, R82) -/

section
variable (s : State) (ch : Channel) (path : ReadPath)

theorem mapConcealer_same (f : Concealer → Concealer) :
    (mapConcealer ch f s).concealer ch = f (s.concealer ch) := by
  cases ch <;> rfl

theorem mapConcealer_other (f : Concealer → Concealer) {x : Channel} (hx : x ≠ ch) :
    (mapConcealer ch f s).concealer x = s.concealer x := by
  cases ch <;> cases x <;> first | rfl | exact absurd rfl hx

theorem mapConcealer_only (f : Concealer → Concealer) :
    let t := mapConcealer ch f s
    t = { s with formatter := { s.formatter with
      concealL := t.formatter.concealL, concealR := t.formatter.concealR } } := by
  cases ch <;> rfl

theorem mapRepairer_same (f : Repairer → Repairer) :
    ((mapRepairer path ch f s).repairUnit path).get ch = f ((s.repairUnit path).get ch) := by
  cases path <;> cases ch <;> rfl

theorem mapRepairer_other (f : Repairer → Repairer) {p : ReadPath} {x : Channel} (h : p ≠ path ∨ x ≠ ch) :
    ((mapRepairer path ch f s).repairUnit p).get x = (s.repairUnit p).get x := by
  cases path <;> cases p <;> cases ch <;> cases x <;> first | rfl | simp at h

theorem mapRepairer_only (f : Repairer → Repairer) :
    let t := mapRepairer path ch f s
    t = { s with
      preRepair := { s.preRepair with left := t.preRepair.left, right := t.preRepair.right }
      confRepair := { s.confRepair with left := t.confRepair.left, right := t.confRepair.right } } := by
  cases path <;> cases ch <;> rfl

end

section
variable {c : Concealer} {r : Repairer}

theorem Concealer.expireHold_due (hs : c.state = .holding) (he : c.holdExpired = false) (h : c.captured.h ≤ c.steps) :
    c.expireHold = { c with holdExpired := true } := if_pos (by simp [Concealer.holdDue, hs, he, h])

theorem Concealer.endMute_due (hs : c.state = .muting) (hp : 0 < c.steps) (hg : c.gain = 0) :
    c.endMute = { c with state := .muted } := if_pos (by simp [Concealer.muteDue, hs, hp, hg])

theorem Concealer.endRecovery_due (hs : c.state = .recovering) (hu : c.captured.u ≤ c.steps) :
    c.endRecovery = { c with state := .live, gain := 4096, steps := 0 } :=
  if_pos (by simp [Concealer.recoveryDue, hs, hu])

theorem Repairer.expireHold_due (hs : r.state = .holding) (he : r.holdExpired = false) (h : r.captured.h ≤ r.steps) :
    r.expireHold = { r with holdExpired := true } := if_pos (by simp [Repairer.holdDue, hs, he, h])

theorem Repairer.endMute_due (hs : r.state = .muting) (hp : 0 < r.steps) (hg : r.gain = 0) :
    r.endMute = { r with state := .muted } := if_pos (by simp [Repairer.muteDue, hs, hp, hg])

theorem Repairer.endRecovery_due (hs : r.state = .recovering) (hu : r.captured.u ≤ r.steps) :
    r.endRecovery = { r with state := .clean, gain := 4096, steps := 0 } :=
  if_pos (by simp [Repairer.recoveryDue, hs, hu])

end

/-- A command that rewrites one concealer and nothing else. -/
theorem concealer_rewritten {i : Instr} {s : State} {ch : Channel} {f : Concealer → Concealer} {d : Concealer}
    (hexec : exec i s = .next (mapConcealer ch f s)) (hf : f (s.concealer ch) = d) :
    ∃ t, exec i s = .next t ∧ t.concealer ch = d ∧ (∀ x, x ≠ ch → t.concealer x = s.concealer x) ∧
      t = { s with formatter := { s.formatter with
        concealL := t.formatter.concealL, concealR := t.formatter.concealR } } :=
  ⟨_, hexec, (mapConcealer_same s ch f).trans hf, fun _ hx => mapConcealer_other s ch f hx, mapConcealer_only s ch f⟩

/-- A command that rewrites one channel repairer and nothing else. -/
theorem repairer_rewritten {i : Instr} {s : State} {path : ReadPath} {ch : Channel} {f : Repairer → Repairer} {d : Repairer}
    (hexec : exec i s = .next (mapRepairer path ch f s)) (hf : f ((s.repairUnit path).get ch) = d) :
    ∃ t, exec i s = .next t ∧ (t.repairUnit path).get ch = d ∧
      (∀ p x, (p ≠ path ∨ x ≠ ch) → (t.repairUnit p).get x = (s.repairUnit p).get x) ∧
      t = { s with
        preRepair := { s.preRepair with left := t.preRepair.left, right := t.preRepair.right }
        confRepair := { s.confRepair with left := t.confRepair.left, right := t.confRepair.right } } :=
  ⟨_, hexec, (mapRepairer_same s ch path f).trans hf, fun _ _ h => mapRepairer_other s ch path f h,
    mapRepairer_only s ch path f⟩

/-- Settles O31: each command rewrites its own record (`concealer_rewritten`, `repairer_rewritten`), by the end or expiry
that is due. -/
theorem expiriesAndEnds : Obligations.ExpiriesAndEnds := by
  unfold Obligations.ExpiriesAndEnds
  intro s ch
  refine ⟨?_, ?_⟩
  · rintro c rfl
    exact ⟨fun hs he h => concealer_rewritten rfl (Concealer.expireHold_due hs he h),
      fun hs hp hg => concealer_rewritten rfl (Concealer.endMute_due hs hp hg),
      fun hs hu => concealer_rewritten rfl (Concealer.endRecovery_due hs hu)⟩
  · rintro path r rfl
    exact ⟨fun hs he h => repairer_rewritten rfl (Repairer.expireHold_due hs he h),
      fun hs hp hg => repairer_rewritten rfl (Repairer.endMute_due hs hp hg),
      fun hs hu => repairer_rewritten rfl (Repairer.endRecovery_due hs hu)⟩

end Sys2Proof.Machine

namespace Sys2Proof.Machine
open Sys2Proof

/-! ## The gate closes (R50, R51) -/

/-- The formatter with its gate CLOSED: what belongs to a pending open stays (log entry 34). -/
def shutGate (s : State) : State :=
  let keep := s.formatter.pendingOpen.isSome
  { s with formatter := { s.formatter with
      gate := .closed, closePoint := none, openSpan := none, sending := none
      build := if keep then s.formatter.build else none, ready := if keep then s.formatter.ready else none
      run := if keep then s.formatter.run else none } }

/-- The gate CLOSED, the monitor selection found again, and the sequencer not yet told. -/
def gateShutHeard (s : State) : State := reselect (raiseEvent .gateClosed (shutGate s))

section
variable {s : State} {k : Fin 32}

theorem closeGate_eq (s : State) : closeGate s = gateClosedReport (gateShutHeard s) := rfl

theorem gateShutHeard_seqFrame (s : State) : SeqFrame (shutGate s) (gateShutHeard s) :=
  (raiseEvent_seqFrame _ _).trans (reselect_seqFrame _)

theorem gateShutHeard_seq (s : State) : (gateShutHeard s).seq = s.seq := reselect_seq _

theorem gateShutHeard_blend (s : State) : (gateShutHeard s).blend = s.blend := reselect_blend _

theorem gateShutHeard_faults (s : State) : (gateShutHeard s).faults = s.faults := reselect_faults _

theorem gateShutHeard_formatter (s : State) : (gateShutHeard s).formatter = (shutGate s).formatter :=
  reselect_formatter _

theorem gateShutHeard_editList (s : State) : (gateShutHeard s).editList = s.editList :=
  (gateShutHeard_seqFrame s).editList

theorem gateClosedReport_walkFrame (s : State) : WalkFrame s (gateClosedReport s) := by
  unfold gateClosedReport
  split
  · exact complete_walkFrame s
  · exact .refl s

theorem closeGate_seqFrame (s : State) : SeqFrame (shutGate s) (closeGate s) :=
  (gateShutHeard_seqFrame s).trans (gateClosedReport_seqFrame _)

/-- A close leaves the formatter CLOSED, the input FIFO and the concealers apart. -/
theorem closeGate_walkFrame (s : State) : WalkFrame (shutGate s) (closeGate s) :=
  (WalkFrame.of_eq (gateShutHeard_formatter s)).trans (gateClosedReport_walkFrame _)

theorem closeGate_event (s : State) (q : Port) (hq : EventSet.has (s.ports.get q).report .gateClosed = true) :
    EventSet.has ((closeGate s).ports.get q).events .gateClosed = true :=
  raised_stays (SeqFrame.refl (shutGate s)) .gateClosed ((reselect_seqFrame _).trans (gateClosedReport_seqFrame _)) q hq

/-- A sequencer in another state goes on as it was, and with an open pending in every state. -/
theorem closeGate_of_other (h : s.seq.state ≠ .closing ∨ s.formatter.pendingOpen.isSome = true) :
    closeGate s = gateShutHeard s := by
  rw [closeGate_eq]
  refine if_neg fun ⟨hclosing, hpending, _⟩ => ?_
  rw [gateShutHeard_seq] at hclosing
  rw [gateShutHeard_formatter] at hpending
  rcases h with hother | hsome
  · exact hother hclosing
  · rw [show s.formatter.pendingOpen = none from hpending] at hsome
    cases hsome

/-- An entry in CLOSING completes (R131). -/
theorem closeGate_completes (hclosing : s.seq.state = .closing) (hpending : s.formatter.pendingOpen = none)
    (hheld : s.seq.held = some k) (hreal : isRehearsal s.editList[k] = false) :
    closeGate s = complete (gateShutHeard s) := by
  rw [closeGate_eq]
  have hentry : heldEntry (gateShutHeard s) = some (k, s.editList[k]) := by
    simp only [heldEntry, gateShutHeard_seq, gateShutHeard_editList, hheld, Option.map_some]
  refine if_pos ⟨by rw [gateShutHeard_seq]; exact hclosing, ?_, ?_⟩
  · rw [gateShutHeard_formatter]
    exact hpending
  · unfold heldRehearsal
    rw [hentry]
    exact hreal

theorem closeGate_completedSeq (hclosing : s.seq.state = .closing) (hpending : s.formatter.pendingOpen = none)
    (hheld : s.seq.held = some k) (hreal : isRehearsal s.editList[k] = false) :
    CompletedSeq s.seq k s.editList[k].endFlag s (closeGate s).seq := by
  have hframe := gateShutHeard_seqFrame s
  have hdone := complete_seq (s := gateShutHeard s) (k := k) (by rw [gateShutHeard_seq]; exact hheld)
  rw [← closeGate_completes hclosing hpending hheld hreal, gateShutHeard_seq] at hdone
  simp only [gateShutHeard_editList] at hdone
  refine ⟨hdone.error, hdone.abort, hdone.endFlag, hdone.hold, fun he ha hf hh => ?_⟩
  obtain ⟨u, hu, hseq, hlist, hmap, hrate⟩ := hdone.fetch he ha hf hh
  exact ⟨u, hu, hseq, hlist.trans hframe.editList, hmap.trans hframe.tapeMap, hrate.trans hframe.recordRate⟩

theorem normalClose_of_due {g : FrameNo} (hopen : s.formatter.gate = .opened) (hsent : s.formatter.sending = none)
    (hpoint : s.formatter.closePoint = some (.normal g)) (hdue : g + 3 ≤ s.transport.tick) :
    normalClose s = closeGate s := if_pos (by simp [normalCloseDue, hopen, hsent, hpoint, hdue])

theorem forcedClose_of_due (hopen : s.formatter.gate = .opened) (hsent : s.formatter.sending = none)
    (hpoint : s.formatter.closePoint = some .forced) : forcedClose s = closeGate s :=
  if_pos (by simp [forcedCloseDue, hopen, hsent, hpoint])

/-- A give-up that finds no abort pending leaves the flag as it was. -/
theorem Sequencer.ended_of_abort {q : Sequencer} (h : q.abortPending = false) (st : SeqState) (k : Fin 32) :
    q.ended st k = { q with state := st, pointer := k, held := none, kept := false, holdPending := false } := by
  simp [Sequencer.ended, ← h]

end

/-- Settles O43: either close is `closeGate`, which leaves the formatter CLOSED (`closeGate_walkFrame`) and completes the
entry in CLOSING (`closeGate_completedSeq`). -/
theorem gateClosesAtItsPoint : Obligations.GateClosesAtItsPoint := by
  unfold Obligations.GateClosesAtItsPoint
  intro c s hopen hsent hdue
  have hexec : exec c s = .next (closeGate s) := by
    rcases hdue with ⟨rfl, g, hpoint, hlate⟩ | ⟨rfl, hpoint⟩
    · exact congrArg Host.Outcome.next (normalClose_of_due hopen hsent hpoint hlate)
    · exact congrArg Host.Outcome.next (forcedClose_of_due hopen hsent hpoint)
  have hwalk := (closeGate_walkFrame s).formatter
  have hframe := closeGate_seqFrame s
  refine ⟨closeGate s, hexec, ?_, ?_, ?_, ?_, ?_, fun hnone => ?_, hframe.written, hframe.writeEnable, closeGate_event s,
    fun hother => ?_, fun k hclosing hnone hheld hreal => ?_, ?_⟩
  case refine_1 | refine_2 | refine_3 | refine_4 | refine_5 => rw [hwalk]; rfl
  case refine_6 =>
    rw [hwalk]
    simp [shutGate, hnone]
  case refine_7 =>
    rw [closeGate_of_other hother]
    exact ⟨gateShutHeard_seq s, gateShutHeard_blend s, gateShutHeard_faults s⟩
  case refine_8 =>
    obtain ⟨herror, habort, hend, hhold, hfetch⟩ := closeGate_completedSeq hclosing hnone hheld hreal
    refine ⟨herror, habort, fun he ha hf => ?_, fun he ha hf hh => ?_, fun he ha hf hh => ?_⟩
    · rw [hend he ha hf, Sequencer.ended_of_abort ha]
    · rw [hhold he ha hf hh, Sequencer.ended_of_abort ha]
    · rw [← Sequencer.ended_of_abort ha]
      exact hfetch he ha hf hh
  case refine_9 => exact hframe.state_eq

end Sys2Proof.Machine

namespace Sys2Proof.Machine
open Sys2Proof

-- One theorem at a time: the whole text is also compiled as one, where a thread for each theorem in flight asks for more
-- memory than the check allows.
set_option Elab.async false

/-! ## WRITE ENABLE and WRITE DISABLE (R42) -/

/-- An answer leaves the pending events of every port as they are. -/
theorem respond_events (p q : Port) (op : Byte) (res : ResultCode) (pl : Payload) (s : State) :
    ((respond p op res pl s).ports.get q).events = (s.ports.get q).events := by
  by_cases h : q = p
  · subst h
    rw [respond_port]
  · rw [respond_other_port p q op res pl s h]

section
variable {s t : State} {k : Fin 32}

theorem forcedCloseRequest_idem (hopen : s.formatter.gate = .opened) :
    forcedCloseRequest (forcedCloseRequest s) = forcedCloseRequest s := by
  rw [forcedCloseRequest_opened hopen]
  exact forcedCloseRequest_opened hopen

/-- The formatter with WRITE DISABLE taken while the gate is OPEN. -/
structure WriteDisabled (s t : State) : Prop where
  writeEnable : t.formatter.writeEnable = false
  gate : t.formatter.gate = .opened
  closePoint : t.formatter.closePoint = some .forced
  pendingOpen : t.formatter.pendingOpen = none
  build : t.formatter.build = none
  ready : t.formatter.ready = none
  openSpan : t.formatter.openSpan = none
  run : t.formatter.run = none
  sending : t.formatter.sending = s.formatter.sending
  written : t.formatter.written = s.formatter.written

/-- The state in which the forced close of a WRITE DISABLE is made. -/
def disabled (s : State) : State := { s with formatter := { s.formatter with writeEnable := false } }

theorem writeDisabled_of_walk (hopen : s.formatter.gate = .opened)
    (h : WalkFrame (forcedCloseRequest (disabled s)) t) : WriteDisabled s t := by
  have hf := h.formatter
  rw [forcedCloseRequest_opened (s := disabled s) hopen] at hf
  constructor
  case gate =>
    rw [hf]
    exact hopen
  case writeEnable | sending | written =>
    rw [hf]
    rfl
  all_goals rw [hf]

theorem writeDisable_opened (hopen : s.formatter.gate = .opened) :
    (writeDisable s).1 = seqForcedClose .writeOff .absent (forcedCloseRequest (disabled s)) := if_pos hopen

theorem disabled_seqFrame : SeqFrame (disabled s) (forcedCloseRequest (disabled s)) := forcedCloseRequest_seqFrame _

theorem shut_writingEntry : writingEntry (forcedCloseRequest (disabled s)) = writingEntry s :=
  writingEntry_congr (forcedCloseRequest_seq (disabled s)) disabled_seqFrame.editList

/-- WRITE DISABLE of an entry that does not write reaches the formatter alone. -/
theorem writeDisable_not_writing (hopen : s.formatter.gate = .opened) (hw : writingEntry s = false) :
    (writeDisable s).1 = forcedCloseRequest (disabled s) := by
  rw [writeDisable_opened hopen, seqForcedClose_of_not_writing (shut_writingEntry.trans hw)]

/-- An entry that writes ends in FAULT at a WRITE DISABLE. -/
theorem writeDisable_writing (hopen : s.formatter.gate = .opened) (hw : writingEntry s = true)
    (hheld : s.seq.held = some k) :
    (writeDisable s).1 = failEntry .writeOff .absent k (cutRequest (forcedCloseRequest (disabled s))) := by
  have hheld' : (forcedCloseRequest (disabled s)).seq.held = some k := by
    rw [show (forcedCloseRequest (disabled s)).seq = s.seq from forcedCloseRequest_seq (disabled s)]
    exact hheld
  have hplay : gateInPlay (forcedCloseRequest (disabled s)) = true := by
    rw [forcedCloseRequest_opened (s := disabled s) hopen]
    simp [gateInPlay, disabled, hopen]
  rw [writeDisable_opened hopen, seqForcedClose_writing (shut_writingEntry.trans hw) hheld' hplay,
    forcedCloseRequest_idem (s := disabled s) hopen]

theorem writeDisable_seqFrame (hopen : s.formatter.gate = .opened) : SeqFrame (disabled s) (writeDisable s).1 := by
  rw [writeDisable_opened hopen]
  exact disabled_seqFrame.trans (seqForcedClose_seqFrame _ _ _)

theorem writeDisable_formatter (hopen : s.formatter.gate = .opened) : WriteDisabled s (writeDisable s).1 := by
  refine writeDisabled_of_walk hopen ?_
  cases hw : writingEntry s with
  | false =>
    rw [writeDisable_not_writing hopen hw]
    exact .refl _
  | true =>
    obtain ⟨_, k, hheld, _⟩ := (writingEntry_iff s).mp hw
    rw [writeDisable_writing hopen hw hheld]
    have hcut : WalkFrame (forcedCloseRequest (disabled s)) (cutRequest (forcedCloseRequest (disabled s))) := .of_eq rfl
    exact hcut.trans (failEntry_walkFrame _ _ _ _)

end

/-- Settles O51: with the gate OPEN the sequencer hears of the forced close that WRITE DISABLE has made, and fails the entry
that writes. -/
theorem writeEnableAndDisable : Obligations.WriteEnableAndDisable := by
  intro p s hfree hclaim
  refine ⟨congrArg Host.Outcome.next (request_edit 0x48 (body := writeEnable) hfree hclaim), fun hclosed => ?_,
    fun hopen => ?_⟩
  · have hkeep : writeDisable s = (disabled s, .ok, .writeEnable false) := by
      have hne : (disabled s).formatter.gate ≠ .opened := by
        rw [show (disabled s).formatter.gate = .closed from hclosed]
        decide
      show ((if (disabled s).formatter.gate = .opened then _ else disabled s), _, _) = _
      rw [if_neg hne]
    show Host.Outcome.next (request p 0x49 .editClass writeDisable s) = _
    rw [request_edit _ hfree hclaim, hkeep]
    rfl
  · have hexec : exec (.writeDisable p) s =
        .next (respond p 0x49 .ok (.writeEnable false) (writeDisable s).1) :=
      congrArg Host.Outcome.next (request_edit _ hfree hclaim)
    have hf := writeDisable_formatter hopen
    refine ⟨_, hexec, hf.writeEnable, hf.gate, hf.closePoint, hf.pendingOpen, hf.build, hf.ready, hf.openSpan, hf.run,
      hf.sending, hf.written, ?_, fun hw => ?_, fun k hw hheld => ?_, ?_⟩
    · rw [respond_port]
    · rw [respond_seq, respond_blend, writeDisable_not_writing hopen hw, forcedCloseRequest_opened (s := disabled s) hopen]
      exact ⟨rfl, rfl⟩
    · rw [respond_seq, respond_blend, writeDisable_writing hopen hw hheld]
      refine ⟨forcedFail_seq (by decide) _ _ (disabled s), forcedFail_blend _ _ (s := disabled s) hheld, fun q hq => ?_⟩
      rw [respond_events]
      refine failEntry_event _ _ k _ q ?_
      rw [(((disabled_seqFrame (s := s)).trans (cutRequest_seqFrame _)).ports q).rest]
      exact hq
    · have h := (writeDisable_seqFrame hopen).state_eq
      generalize (writeDisable s).1 = u at h
      rw [h]
      rfl

end Sys2Proof.Machine

namespace Sys2Proof.Machine
open Sys2Proof

-- One theorem at a time: the whole text is also compiled as one, where a thread for each theorem in flight asks for more
-- memory than the check allows.
set_option Elab.async false

/-! ## An emptied FIFO and a cleared source stay so through the work of the sequencer and the fault monitor (R37, R38) -/

/-- The input FIFO is empty and primes anew. -/
structure FifoEmpty (s : State) : Prop where
  fifo : s.formatter.fifo = []
  fifoState : s.formatter.fifoState = .priming

/-- What a change of the selected source leaves of the new audio. -/
structure SourceCleared (s : State) : Prop extends FifoEmpty s where
  heldPair : s.formatter.heldPair = ⟨0, 0⟩
  conceal : ∀ ch, (s.concealer ch).state = .muted ∧ (s.concealer ch).gain = 0

/-- From `s` to `t` what was cleared stays so. -/
structure ClearedKept (s t : State) : Prop where
  fifo : FifoEmpty s → FifoEmpty t
  source : SourceCleared s → SourceCleared t

section
variable {s t u : State}

theorem ClearedKept.refl (s : State) : ClearedKept s s := ⟨id, id⟩

theorem ClearedKept.trans (h : ClearedKept s t) (k : ClearedKept t u) : ClearedKept s u :=
  ⟨fun x => k.fifo (h.fifo x), fun x => k.source (h.source x)⟩

/-- The formatter's input side is kept. -/
theorem ClearedKept.of_input (hfifo : t.formatter.fifo = s.formatter.fifo := by rfl)
    (hstate : t.formatter.fifoState = s.formatter.fifoState := by rfl)
    (hpair : t.formatter.heldPair = s.formatter.heldPair := by rfl)
    (hconceal : ∀ ch, t.concealer ch = s.concealer ch := by intro ch; rfl) : ClearedKept s t := by
  have hempty : FifoEmpty s → FifoEmpty t := fun h => ⟨hfifo.trans h.fifo, hstate.trans h.fifoState⟩
  refine ⟨hempty, fun h => { hempty h.toFifoEmpty with heldPair := hpair.trans h.heldPair, conceal := fun ch => ?_ }⟩
  rw [hconceal]
  exact h.conceal ch

theorem ClearedKept.of_formatter (h : t.formatter = s.formatter) : ClearedKept s t :=
  .of_input (by rw [h]) (by rw [h]) (by rw [h]) fun ch => by cases ch <;> simp only [State.concealer, h]

theorem conditionTo_clearedKept (k : FaultKind) (c : Option FaultDetail) (s : State) :
    ClearedKept s (conditionTo k c s) := .of_formatter (conditionTo_formatter k c s)

theorem emptyFifo_fifoEmpty (s : State) : FifoEmpty (emptyFifo s) := ⟨rfl, rfl⟩

theorem emptyFifo_clearedKept (s : State) : ClearedKept s (emptyFifo s) :=
  ⟨fun _ => ⟨rfl, rfl⟩, fun h => { emptyFifo_fifoEmpty s with heldPair := h.heldPair, conceal := h.conceal }⟩

theorem afterSourceChange_cleared {s0 : State} (h : selectedSource s ≠ selectedSource s0) :
    SourceCleared (afterSourceChange s0 s) := by
  unfold afterSourceChange
  rw [if_neg h]
  refine (conditionTo_clearedKept _ _ _).source ⟨⟨rfl, rfl⟩, rfl, fun ch => ?_⟩
  cases ch <;> exact ⟨rfl, rfl⟩

theorem afterSourceChange_clearedKept (s0 s : State) : ClearedKept s (afterSourceChange s0 s) := by
  by_cases h : selectedSource s = selectedSource s0
  · rw [show afterSourceChange s0 s = s from if_pos h]
    exact .refl s
  · have hcleared := afterSourceChange_cleared h
    exact ⟨fun _ => hcleared.toFifoEmpty, fun _ => hcleared⟩

theorem giveUp_clearedKept (s : State) : ClearedKept s (giveUp s) := by
  unfold giveUp
  split
  · refine ClearedKept.trans ?_ (.of_formatter (reselect_formatter _))
    refine ClearedKept.trans ?_ (afterSourceChange_clearedKept s _)
    exact .of_input
  · exact .of_input

theorem forcedCloseRequest_clearedKept (s : State) : ClearedKept s (forcedCloseRequest s) := by
  unfold forcedCloseRequest
  simp only
  repeat' split
  · exact .of_input
  · exact .of_input
  · exact .refl s

theorem failEntry_clearedKept (kind : ErrorKind) (d : ErrorDetail) (k : Fin 32) (s : State) :
    ClearedKept s (failEntry kind d k s) := by
  unfold failEntry
  refine ClearedKept.trans ?_ (.of_formatter (s := giveUp _) rfl)
  refine ClearedKept.trans ?_ (giveUp_clearedKept _)
  refine .of_formatter ?_
  exact recordError_formatter _ _ _ _ _

theorem seqForcedClose_clearedKept (kind : ErrorKind) (d : ErrorDetail) (s : State) :
    ClearedKept s (seqForcedClose kind d s) := by
  unfold seqForcedClose
  repeat' split
  · exact .refl s
  · have hcut : ClearedKept (forcedCloseRequest s) (cutRequest (forcedCloseRequest s)) := .of_formatter rfl
    exact (forcedCloseRequest_clearedKept s).trans (hcut.trans (failEntry_clearedKept _ _ _ _))
  · exact .refl s

theorem deliverInput_clearedKept (s0 s : State) : ClearedKept s (deliverInput s0 s) := by
  unfold deliverInput
  split
  · exact seqForcedClose_clearedKept _ _ s
  · exact .refl s

end

/-! ## The settings of SET RECORD one by one (R37, R41, R147, R155) -/

/-- The effect of a change of usability at SET RECORD. -/
def usabilityStep (s0 s : State) : State :=
  if usable s0 = usable s then s else evaluateInput (if usable s then s else emptyFifo s)

/-- The effect of a change of the analog rights at SET RECORD. -/
def analogStep (s0 s : State) : State :=
  if s0.formatter.analogRights = s.formatter.analogRights then s
  else
    let s := raiseEvent .rightsChanged s
    if selectedSource s = .analog then refreshWord (countPeriodRights s) else s

theorem afterSettings_eq (s0 s : State) : afterSettings s0 s =
    deliverInput s0 (analogStep s0 (usabilityStep s0 (afterSourceChange s0 s))) := rfl

section
variable {s0 s t : State}

theorem usabilityStep_seqFrame (s0 s : State) : SeqFrame s (usabilityStep s0 s) := by
  unfold usabilityStep
  repeat' split
  · exact .refl s
  · exact evaluateInput_seqFrame s
  · exact (emptyFifo_seqFrame s).trans (evaluateInput_seqFrame _)

theorem analogStep_seqFrame (s0 s : State) : SeqFrame s (analogStep s0 s) := by
  have hraise := raiseEvent_seqFrame .rightsChanged s
  unfold analogStep
  simp only
  repeat' split
  · exact .refl s
  · exact hraise.trans ((countPeriodRights_seqFrame _).trans (refreshWord_seqFrame _))
  · exact hraise

theorem usabilityStep_clearedKept (s0 s : State) : ClearedKept s (usabilityStep s0 s) := by
  unfold usabilityStep
  repeat' split
  · exact .refl s
  · exact conditionTo_clearedKept _ _ s
  · exact (emptyFifo_clearedKept s).trans (conditionTo_clearedKept _ _ _)

theorem analogStep_clearedKept (s0 s : State) : ClearedKept s (analogStep s0 s) := by
  unfold analogStep
  simp only
  repeat' split
  · exact .refl s
  · exact .of_input
  · exact .of_input

theorem usabilityStep_empties (hbefore : usable s0 = true) (hafter : usable s = false) :
    FifoEmpty (usabilityStep s0 s) := by
  unfold usabilityStep
  rw [hbefore, hafter]
  exact (conditionTo_clearedKept _ _ _).fifo (emptyFifo_fifoEmpty s)

theorem usabilityStep_seq (s0 s : State) : (usabilityStep s0 s).seq = s.seq := by
  unfold usabilityStep
  repeat' split
  · rfl
  · exact conditionTo_seq _ _ _
  · exact conditionTo_seq _ _ _

theorem analogStep_seq (s0 s : State) : (analogStep s0 s).seq = s.seq := by
  unfold analogStep
  simp only
  repeat' split
  all_goals rfl

theorem usabilityStep_rights (s0 s : State) : (usabilityStep s0 s).rights = s.rights := by
  unfold usabilityStep
  repeat' split
  · rfl
  · exact conditionTo_rights _ _ _
  · exact conditionTo_rights _ _ _

theorem SeqFrame.usable (h : SeqFrame s t) : Machine.usable t = Machine.usable s := by
  unfold Machine.usable
  rw [h.lock, h.linkRate, h.recordRate]

theorem moreRestrictive_self_right (a b : SourceState) :
    moreRestrictive (moreRestrictive a b) b = moreRestrictive a b := by
  cases a <;> cases b <;> rfl

/-- The period rights take in the state of a source newly selected. -/
theorem afterSourceChange_period_of_ne (h : selectedSource s ≠ selectedSource s0) :
    (afterSourceChange s0 s).rights.period = moreRestrictive s.rights.period (selectedState s) := by
  unfold afterSourceChange
  rw [if_neg h]
  exact congrArg RightsUnit.period (conditionTo_rights _ _ _)

theorem analogStep_period_of_analog (hchange : s0.formatter.analogRights ≠ s.formatter.analogRights)
    (hanalog : selectedSource s = .analog) :
    (analogStep s0 s).rights.period = moreRestrictive s.rights.period (selectedState s) := by
  have hsource : selectedSource (raiseEvent .rightsChanged s) = .analog := hanalog
  unfold analogStep
  simp only [if_neg hchange, if_pos hsource]
  rfl

theorem analogStep_period_of_not
    (h : s0.formatter.analogRights = s.formatter.analogRights ∨ selectedSource s ≠ .analog) :
    (analogStep s0 s).rights.period = s.rights.period := by
  unfold analogStep
  rcases h with hsame | hother
  · rw [if_pos hsame]
  · have hother' : ¬ selectedSource (raiseEvent .rightsChanged s) = .analog := hother
    simp only [if_neg hother']
    split <;> rfl

theorem analogStep_event (hchange : s0.formatter.analogRights ≠ s.formatter.analogRights) (q : Port)
    (hq : EventSet.has (s.ports.get q).report .rightsChanged = true) :
    EventSet.has ((analogStep s0 s).ports.get q).events .rightsChanged = true := by
  unfold analogStep
  simp only [if_neg hchange]
  have hraised := raised_has (.refl s) .rightsChanged q hq
  split
  · exact hraised
  · exact hraised

theorem deliverInput_rights (h : writingEntry s = false) : (deliverInput s0 s).rights = s.rights := by
  unfold deliverInput
  split
  · exact congrArg State.rights (seqForcedClose_of_not_writing h _ _)
  · rfl

theorem deliverInput_of_same (h : s.faults = s0.faults) : deliverInput s0 s = s := by
  refine if_neg ?_
  unfold raisedWithAction
  rw [h]
  cases (s0.faults.records.get .input).present <;> simp

/-- The state before the fault monitor hears of the new settings. -/
def settled (s0 s : State) : State := analogStep s0 (usabilityStep s0 (afterSourceChange s0 s))

theorem usabilityStep_sourceFrame (s0 s : State) :
    SeqFrame s (usabilityStep s0 (afterSourceChange s0 s)) ∧
      (usabilityStep s0 (afterSourceChange s0 s)).seq = s.seq :=
  ⟨(afterSourceChange_seqFrame s0 s).trans (usabilityStep_seqFrame s0 _),
    (usabilityStep_seq s0 _).trans (afterSourceChange_seq s0 s)⟩

theorem settled_seqFrame (s0 s : State) : SeqFrame s (settled s0 s) :=
  (usabilityStep_sourceFrame s0 s).1.trans (analogStep_seqFrame s0 _)

theorem settled_seq (s0 s : State) : (settled s0 s).seq = s.seq :=
  (analogStep_seq s0 _).trans (usabilityStep_sourceFrame s0 s).2

theorem afterSettings_seqFrame (s0 s : State) : SeqFrame s (afterSettings s0 s) :=
  (settled_seqFrame s0 s).trans (deliverInput_seqFrame s0 _)

/-- A change of the selected source clears what the source before it had delivered (R37). -/
theorem afterSettings_cleared (h : selectedSource s ≠ selectedSource s0) : SourceCleared (afterSettings s0 s) := by
  have h1 := (usabilityStep_clearedKept s0 _).source (afterSourceChange_cleared h)
  exact (deliverInput_clearedKept s0 _).source ((analogStep_clearedKept s0 _).source h1)

/-- A loss of usability empties the FIFO (R38). -/
theorem afterSettings_empties (hbefore : usable s0 = true) (hafter : usable s = false) :
    FifoEmpty (afterSettings s0 s) := by
  have husable : usable (afterSourceChange s0 s) = false := (afterSourceChange_seqFrame s0 s).usable.trans hafter
  have h1 := usabilityStep_empties hbefore husable
  exact (deliverInput_clearedKept s0 _).fifo ((analogStep_clearedKept s0 _).fifo h1)

theorem afterSettings_event (hchange : s0.formatter.analogRights ≠ s.formatter.analogRights) (q : Port)
    (hq : EventSet.has (s.ports.get q).report .rightsChanged = true) :
    EventSet.has ((afterSettings s0 s).ports.get q).events .rightsChanged = true := by
  have hframe := (usabilityStep_sourceFrame s0 s).1
  have hevent := analogStep_event (s0 := s0) (s := usabilityStep s0 (afterSourceChange s0 s))
    (by rw [hframe.analogRights]; exact hchange) q (by rw [(hframe.ports q).rest]; exact hq)
  exact ((deliverInput_seqFrame s0 (settled s0 s)).ports q).grows _ hevent

/-- Settings that change nothing of the source, its usability and the analog rights have no effect of their own. -/
theorem afterSettings_of_same (hsource : selectedSource s = selectedSource s0) (husable : usable s0 = usable s)
    (hanalog : s0.formatter.analogRights = s.formatter.analogRights) (hfaults : s.faults = s0.faults) :
    afterSettings s0 s = s := by
  rw [afterSettings_eq]
  rw [show afterSourceChange s0 s = s from if_pos hsource, show usabilityStep s0 s = s from if_pos husable,
    show analogStep s0 s = s from if_pos hanalog, deliverInput_of_same hfaults]

/-- Before the analog rights are counted: the source and its state are those of the new settings. -/
theorem usabilityStep_selected (s0 s : State) :
    selectedSource (usabilityStep s0 (afterSourceChange s0 s)) = selectedSource s ∧
      selectedState (usabilityStep s0 (afterSourceChange s0 s)) = selectedState s := by
  obtain ⟨hframe, hseq⟩ := usabilityStep_sourceFrame s0 s
  have hsource := selectedSource_congr hframe.sourceKept (congrArg Sequencer.held hseq)
  exact ⟨hsource, selectedState_of_source hframe.sourceKept hsource⟩

section
variable (hwriting : writingEntry s = false)
include hwriting

theorem afterSettings_rights : (afterSettings s0 s).rights = (settled s0 s).rights :=
  deliverInput_rights ((writingEntry_congr (settled_seq s0 s) (settled_seqFrame s0 s).editList).trans hwriting)

/-- A change of the selected source, or of the rights of a selected analog source, counts for the period (R151). -/
theorem afterSettings_counts (h : selectedSource s ≠ selectedSource s0 ∨
      (s0.formatter.analogRights ≠ s.formatter.analogRights ∧ selectedSource s = .analog)) :
    (afterSettings s0 s).rights.period = moreRestrictive s.rights.period (selectedState s) := by
  obtain ⟨hsource, hstate⟩ := usabilityStep_selected s0 s
  have hanalog := (usabilityStep_sourceFrame s0 s).1.analogRights
  have hfirst : (usabilityStep s0 (afterSourceChange s0 s)).rights.period = (afterSourceChange s0 s).rights.period := by
    rw [usabilityStep_rights]
  rw [afterSettings_rights hwriting]
  unfold settled
  by_cases hnew : selectedSource s = selectedSource s0
  · obtain ⟨hchange, hselected⟩ := h.resolve_left (fun hne => hne hnew)
    rw [analogStep_period_of_analog (by rw [hanalog]; exact hchange) (hsource.trans hselected), hstate, hfirst,
      show afterSourceChange s0 s = s from if_pos hnew]
  · rw [afterSourceChange_period_of_ne hnew] at hfirst
    by_cases hcount : s0.formatter.analogRights ≠ s.formatter.analogRights ∧ selectedSource s = .analog
    · rw [analogStep_period_of_analog (by rw [hanalog]; exact hcount.1) (hsource.trans hcount.2), hstate, hfirst,
        moreRestrictive_self_right]
    · rw [analogStep_period_of_not (by rw [hanalog, hsource]; tauto), hfirst]

theorem afterSettings_keeps_period (hsame : selectedSource s = selectedSource s0)
    (h : s0.formatter.analogRights = s.formatter.analogRights ∨ selectedSource s ≠ .analog) :
    (afterSettings s0 s).rights.period = s.rights.period := by
  obtain ⟨hsource, _⟩ := usabilityStep_selected s0 s
  have hanalog := (usabilityStep_sourceFrame s0 s).1.analogRights
  rw [afterSettings_rights hwriting]
  unfold settled
  rw [analogStep_period_of_not (by rw [hanalog, hsource]; exact h), usabilityStep_rights,
    show afterSourceChange s0 s = s from if_pos hsame]

end

end

/-! ## The codes of SET RECORD -/

theorem rateCode_of_large {c : Byte} (h : 1 < c.toNat) : rateCode c = none := by
  unfold rateCode rateOfCode
  split <;> first | omega | rfl

theorem sourceOfCode_of_large {c : Byte} (h : 1 < c.toNat) : sourceOfCode c = none := by
  unfold sourceOfCode
  split <;> first | omega | rfl

theorem analogOfCode_of_large {c : Byte} (h : 1 < c.toNat) : analogOfCode c = none := by
  unfold analogOfCode
  split <;> first | omega | rfl

theorem optCode_map {α : Type} {f : Byte → Option α} {g : α → Byte} (x : Option α)
    (h : ∀ a, x = some a → f (g a) = some a) :
    optCode f (x.map g) = some x := by
  cases x with
  | none => rfl
  | some a => simp [optCode, h a rfl]

section
variable {s : State} {rate source analog : Option Byte}

theorem setRecordSettings_range
    (h : ∃ c : Byte, 1 < c.toNat ∧ (rate = some c ∨ source = some c ∨ analog = some c)) :
    setRecordSettings rate source analog s = (s, .range, .zeros) := by
  obtain ⟨c, hc, hany⟩ := h
  have hnone : ∀ {α : Type} (f : Byte → Option α), f c = none → optCode f (some c) = none := fun f hf => by
    simp [optCode, hf]
  unfold setRecordSettings
  split
  · next hr hd ha =>
    rcases hany with rfl | rfl | rfl
    · simp [hnone _ (rateCode_of_large hc)] at hr
    · simp [hnone _ (sourceOfCode_of_large hc)] at hd
    · simp [hnone _ (analogOfCode_of_large hc)] at ha
  · rfl

theorem setRecordSettings_codes {r : Option Rate} {d : Option AudioSource} {a : Option CopyState}
    (hr : optCode rateCode rate = some r) (hd : optCode sourceOfCode source = some d)
    (ha : optCode analogOfCode analog = some a) : setRecordSettings rate source analog s =
      if (r.any fun x => x != s.formatter.recordRate) && recordBusy s then (s, .busy, .zeros)
      else (afterSettings s (withSettings r d a s), .ok, .recordSettings (r.getD s.formatter.recordRate)
        (d.getD s.formatter.defaultSource) (a.getD s.formatter.analogRights)) := by
  unfold setRecordSettings
  rw [hr, hd, ha]
  rfl

theorem recordBusy_iff : recordBusy s = true ↔ s.formatter.gate = .opened ∨ s.formatter.pendingOpen.isSome = true ∨
    s.seq.state = .armed ∨ s.seq.state = .recording ∨ s.seq.state = .closing := by
  simp [recordBusy, gateInPlay, inWrite, or_assoc]

end

/-- Settles O52: the settings go by stages, source, usability, analog rights and fault monitor, each of which keeps what the
stages before it cleared. -/
theorem recordSettings : Obligations.RecordSettings := by
  intro p s hfree hclaim
  have hexec : ∀ rate source analog, exec (.setRecord p rate source analog) s =
      .next (respond p 0x50 (setRecordSettings rate source analog s).2.1 (setRecordSettings rate source analog s).2.2
        (setRecordSettings rate source analog s).1) := fun rate source analog =>
    congrArg Host.Outcome.next (request_edit 0x50 (body := setRecordSettings rate source analog) hfree hclaim)
  refine ⟨fun rate source analog hlarge => by rw [hexec, setRecordSettings_range hlarge], fun r d a hanalog => ?_⟩
  intro rc dc ac f busy rate source analog t0
  have hrc : optCode rateCode rc = some r := optCode_map r fun x _ => by cases x <;> rfl
  have hdc : optCode sourceOfCode dc = some d := optCode_map d fun x _ => by cases x <;> rfl
  have hac : optCode analogOfCode ac = some a := optCode_map a fun x hx => by
    cases x with
    | copyOpen | copyOne => rfl
    | copyNone => exact absurd hx hanalog
  have hbody := setRecordSettings_codes (s := s) hrc hdc hac
  have hbusy : ((r.any fun x => x != s.formatter.recordRate) && recordBusy s) = true ↔ busy := by
    rw [Bool.and_eq_true, recordBusy_iff, Option.any_eq_true]
    simp only [bne_iff_ne]
    rfl
  refine ⟨fun h => by rw [hexec, hbody, if_pos (hbusy.mpr h)], fun h => ?_⟩
  rw [if_neg (fun hc => h (hbusy.mp hc))] at hbody
  have hnext : exec (.setRecord p rc dc ac) s =
      .next (respond p 0x50 .ok (.recordSettings rate source analog) (afterSettings s t0)) := by rw [hexec, hbody]; rfl
  have hframe := afterSettings_seqFrame s t0
  have hwriting : writingEntry t0 = writingEntry s := rfl
  refine ⟨_, hnext, hframe.recordRate, hframe.defaultSource, hframe.analogRights, by rw [respond_port], ?_, ?_, ?_, ?_, ?_,
    hframe.written, hframe.writeEnable, hframe.carried, hframe.linkRate, ?_⟩
  · intro hne
    have hcleared := afterSettings_cleared hne
    exact ⟨hcleared.fifo, hcleared.fifoState, hcleared.heldPair, hcleared.conceal⟩
  · intro hbefore hafter
    have hempty := afterSettings_empties hbefore hafter
    exact ⟨hempty.fifo, hempty.fifoState⟩
  · intro hnot
    have hnot' : writingEntry t0 = false := hwriting.trans hnot
    refine ⟨fun hor => afterSettings_counts hnot' (hor.imp_right fun hc => ⟨Ne.symm hc.1, hc.2⟩), fun hsame hor => ?_⟩
    refine afterSettings_keeps_period hnot' hsame (hor.imp Eq.symm fun hd hc => ?_)
    rw [hd] at hc
    cases hc
  · intro hne q hq
    rw [respond_events]
    exact afterSettings_event (Ne.symm hne) q hq
  · intro hsame husable hana
    rw [afterSettings_of_same hsame husable.symm hana.symm rfl]
  · have hstate := hframe.state_eq
    generalize afterSettings s t0 = u at hstate
    rw [hstate]
    rfl

end Sys2Proof.Machine

namespace Sys2Proof.Machine
open Sys2Proof

-- One theorem at a time: the whole text is also compiled as one, where a thread for each theorem in flight asks for more
-- memory than the check allows.
set_option Elab.async false

/-! ## A forced close while the gate is in play -/

section
variable {s t u : State} {k : Fin 32}

theorem seqForcedClose_of_not_inPlay (h : gateInPlay s = false) (kind : ErrorKind) (d : ErrorDetail) :
    seqForcedClose kind d s = s := by
  unfold seqForcedClose
  split
  · rfl
  · exact if_neg fun hc => by simp [h] at hc

/-- What a forced close does at the gate, OPEN or about to open. -/
structure ForcedAtGate (s t : State) : Prop where
  gate : t.formatter.gate = s.formatter.gate
  pendingOpen : t.formatter.pendingOpen = none
  build : t.formatter.build = none
  ready : t.formatter.ready = none
  closePoint : s.formatter.gate = .opened → t.formatter.closePoint = some .forced

theorem WalkFrame.forcedAtGate (h : WalkFrame (cutRequest (forcedCloseRequest s)) t) (hplay : gateInPlay s = true) :
    ForcedAtGate s t := by
  have hf : t.formatter = _ := h.formatter
  cases hgate : s.formatter.gate with
  | opened =>
    rw [forcedCloseRequest_opened hgate] at hf
    constructor
    case gate | closePoint =>
      rw [hf]
      simp [cutRequest]
    all_goals rw [hf]; rfl
  | closed =>
    have hpending : s.formatter.pendingOpen.isSome = true := by simpa [gateInPlay, hgate] using hplay
    obtain ⟨hg, hp, hb, hr⟩ := h.openDiscarded hgate hpending
    exact ⟨hg.trans hgate.symm, hp, hb, hr, fun hc => by rw [hgate] at hc; cases hc⟩

/-! ## INPUT and its action (R159, R164) -/

theorem FaultRecord.under_mode (r : FaultRecord) (c : Option FaultDetail) (afa : Option Afa) :
    (r.under c afa).mode = r.mode := by
  unfold FaultRecord.under
  repeat' split
  all_goals rfl

theorem FaultRecord.under_of_new {r : FaultRecord} (hgone : r.present = false) (hon : r.mode ≠ .off) (d : FaultDetail)
    (afa : Option Afa) : r.under (some d) afa = { r with
      present := true, seen := true, count := min 255 (r.count + 1), detail := d
      firstAfa := if r.seen then r.firstAfa else afa
      action := decide (r.mode = .latched ∨ r.mode = .auto) || r.action } :=
  if_neg fun h => h.elim (by rw [hgone]; decide) hon

/-- A kind raised with its action: its condition is new and its mode one with an action. -/
theorem raisedWithAction_condition {k : FaultKind} (d : FaultDetail) (hgone : (s.faults.records.get k).present = false)
    (hmode : (s.faults.records.get k).mode = .latched ∨ (s.faults.records.get k).mode = .auto) :
    raisedWithAction k s (conditionTo k (some d) s) = true := by
  have hon : (s.faults.records.get k).mode ≠ .off := by rcases hmode with h | h <;> rw [h] <;> decide
  unfold raisedWithAction
  rw [conditionTo_get, FaultRecord.under_of_new hgone hon]
  rcases hmode with h | h <;> simp [hgone, h, appliesAction]

theorem not_raisedWithAction_condition {k : FaultKind} (c : Option FaultDetail)
    (h : c = none ∨ (s.faults.records.get k).present = true ∨ (s.faults.records.get k).mode = .warn ∨
      (s.faults.records.get k).mode = .off) : raisedWithAction k s (conditionTo k c s) = false := by
  unfold raisedWithAction
  rw [conditionTo_get, FaultRecord.under_mode]
  rcases h with rfl | h | h | h
  · simp [FaultRecord.under]
  · simp [h]
  · simp [h, appliesAction]
  · simp [h, appliesAction]

/-- INPUT evaluated with no forced close to make. -/
theorem evaluateInputAction_quiet (h : inputCondition s = none ∨ writingEntry s = false ∨ gateInPlay s = false ∨
      s.faults.records.input.present = true ∨ s.faults.records.input.mode = .warn ∨ s.faults.records.input.mode = .off) :
    evaluateInputAction s = conditionTo .input (inputCondition s) s := by
  have honly := conditionTo_faultOnly .input (inputCondition s) s
  have hself : writingEntry s = false ∨ gateInPlay s = false →
      applyAction .input (conditionTo .input (inputCondition s) s) = conditionTo .input (inputCondition s) s := by
    rintro (hw | hg)
    · exact seqForcedClose_of_not_writing ((writingEntry_of_faultOnly honly).trans hw) _ _
    · refine seqForcedClose_of_not_inPlay ?_ _ _
      unfold gateInPlay at hg ⊢
      rwa [honly.formatter]
  have hraised := not_raisedWithAction_condition (s := s) (k := .input) (inputCondition s)
  unfold evaluateInputAction evaluate
  simp only
  rcases h with h | h | h | h
  · rw [if_neg (by rw [hraised (.inl h)]; decide)]
  · rw [hself (.inl h), ite_self]
  · rw [hself (.inr h), ite_self]
  · rw [if_neg (by rw [hraised (.inr h)]; decide)]

theorem evaluateInputAction_ports (s : State) (hc : (inputCondition s).isSome = true)
    (hgone : s.faults.records.input.present = false) (hon : s.faults.records.input.mode ≠ .off) (q : Port)
    (hq : EventSet.has (s.ports.get q).report .faultRaised = true) :
    EventSet.has ((evaluateInputAction s).ports.get q).events .faultRaised = true := by
  have hraised := conditionTo_raises .input (inputCondition s) s hc hgone hon q hq
  unfold evaluateInputAction evaluate
  simp only
  split
  · exact ((applyAction_seqFrame _ _).ports q).grows _ hraised
  · exact hraised

/-- INPUT in a mode with an action, new while an entry writes, ends the entry. -/
theorem evaluateInputAction_fails {d : FaultDetail} (hc : inputCondition s = some d) (hw : writingEntry s = true)
    (hheld : s.seq.held = some k) (hplay : gateInPlay s = true) (hgone : s.faults.records.input.present = false)
    (hmode : s.faults.records.input.mode = .latched ∨ s.faults.records.input.mode = .auto) :
    evaluateInputAction s =
      failEntry .input .absent k (cutRequest (forcedCloseRequest (conditionTo .input (some d) s))) := by
  have honly := conditionTo_faultOnly .input (some d) s
  unfold evaluateInputAction evaluate
  simp only [hc, raisedWithAction_condition (k := .input) d hgone hmode, if_true]
  refine seqForcedClose_writing ((writingEntry_of_faultOnly honly).trans hw) (by rw [honly.seq]; exact hheld) ?_ _ _
  unfold gateInPlay at hplay ⊢
  rwa [honly.formatter]

/-! ## The INPUT record as the held entry is given up -/

/-- A held entry given up while DIGITAL was selected leaves INPUT to the default source (R147, R164). -/
theorem giveUp_input (hheld : s.seq.held.isSome = true) (hdigital : selectedSource s = .digital) :
    (giveUp s).faults.records.input =
      if s.formatter.defaultSource = .digital then s.faults.records.input
      else s.faults.records.input.under none (knownAfa s) := by
  unfold giveUp
  rw [if_pos hheld, reselect_faults]
  unfold afterSourceChange
  rw [hdigital]
  have hselected : selectedSource (releaseBlend { s with seq := { s.seq with held := none, kept := false } }) =
      s.formatter.defaultSource := rfl
  rw [hselected]
  split
  · rfl
  · next hother =>
    refine (conditionTo_get (k := .input) _ _).trans ?_
    have hnone : ∀ u, selectedSource u = s.formatter.defaultSource → inputCondition u = none := fun u hu =>
      if_neg fun hc => hother (hu.symm.trans hc.1)
    rw [hnone _ rfl]
    rfl

theorem failEntry_input (kind : ErrorKind) (d : ErrorDetail) {j : Fin 32} (hheld : s.seq.held = some j)
    (hdigital : selectedSource s = .digital) (k : Fin 32) :
    (failEntry kind d k s).faults.records.input =
      if s.formatter.defaultSource = .digital then s.faults.records.input
      else s.faults.records.input.under none (knownAfa s) := by
  unfold failEntry
  generalize hv : clearPending (recordError kind .run (nextEntry k) d
    { s with seq := { s.seq with state := .fault, pointer := k } }) = v
  have hframe : SeqFrame s v := by
    rw [← hv]
    refine SeqFrame.trans ?_ (clearPending_seqFrame _)
    refine SeqFrame.trans ?_ (recordError_seqFrame _ _ _ _ _)
    constructor <;> first | rfl | exact fun _ => .refl _
  have hvheld : v.seq.held = s.seq.held := by
    rw [← hv]
    exact recordError_held _ _ _ _ _
  have hfaults : v.faults = s.faults := by
    rw [← hv]
    exact recordError_faults _ _ _ _ _
  have hsource := selectedSource_congr hframe.sourceKept hvheld
  have hafa : knownAfa v = knownAfa s := by
    unfold knownAfa
    rw [hframe.tapeMap]
  show (giveUp v).faults.records.input = _
  rw [giveUp_input (by rw [hvheld, hheld]; rfl) (hsource.trans hdigital), hframe.defaultSource, hfaults, hafa]

/-! ## Period rights that are UNSTATED stay so through a period (R151) -/

/-- From `s` to `t` period rights that are UNSTATED stay so. -/
def UnstatedKept (s t : State) : Prop := s.rights.period = .rightsUnstated → t.rights.period = .rightsUnstated

theorem moreRestrictive_unstated (b : SourceState) : moreRestrictive .rightsUnstated b = .rightsUnstated := by
  cases b <;> rfl

theorem unstated_moreRestrictive (a : SourceState) : moreRestrictive a .rightsUnstated = .rightsUnstated := by
  cases a <;> rfl

theorem UnstatedKept.of_rights (h : t.rights.period = s.rights.period) : UnstatedKept s t := fun hs => h.trans hs

theorem UnstatedKept.trans (h : UnstatedKept s t) (k : UnstatedKept t u) : UnstatedKept s u := fun hs => k (h hs)

theorem conditionTo_unstatedKept (k : FaultKind) (c : Option FaultDetail) (s : State) :
    UnstatedKept s (conditionTo k c s) := .of_rights (by rw [conditionTo_rights])

theorem afterSourceChange_unstatedKept (s0 s : State) : UnstatedKept s (afterSourceChange s0 s) := by
  by_cases h : selectedSource s = selectedSource s0
  · exact .of_rights (by rw [show afterSourceChange s0 s = s from if_pos h])
  · intro hs
    rw [afterSourceChange_period_of_ne h, hs, moreRestrictive_unstated]

theorem giveUp_unstatedKept (s : State) : UnstatedKept s (giveUp s) := by
  intro hs
  unfold giveUp
  split
  · have hchange := afterSourceChange_unstatedKept s
      (releaseBlend { s with seq := { s.seq with held := none, kept := false } }) hs
    rw [reselect_only]
    exact hchange
  · exact hs

theorem failEntry_unstatedKept (kind : ErrorKind) (d : ErrorDetail) (k : Fin 32) (s : State) :
    UnstatedKept s (failEntry kind d k s) := by
  intro hs
  unfold failEntry
  refine giveUp_unstatedKept _ ?_
  show (recordError _ _ _ _ _).rights.period = _
  unfold recordError
  split <;> exact hs

theorem evaluateInputAction_unstatedKept (s : State) : UnstatedKept s (evaluateInputAction s) := by
  have hclose : ∀ u, UnstatedKept u (seqForcedClose .input .absent u) := fun u => by
    unfold seqForcedClose
    repeat' split
    · exact .of_rights rfl
    · refine UnstatedKept.trans (t := cutRequest (forcedCloseRequest u)) (.of_rights ?_) (failEntry_unstatedKept _ _ _ _)
      show (forcedCloseRequest u).rights.period = _
      unfold forcedCloseRequest
      simp only
      repeat' split
      all_goals rfl
    · exact .of_rights rfl
  unfold evaluateInputAction evaluate
  simp only
  split
  · exact (conditionTo_unstatedKept _ _ s).trans (hclose _)
  · exact conditionTo_unstatedKept _ _ s

end

end Sys2Proof.Machine

namespace Sys2Proof.Machine
open Sys2Proof

-- One theorem at a time: the whole text is also compiled as one, where a thread for each theorem in flight asks for more
-- memory than the check allows.
set_option Elab.async false

/-! ## The digital source state set anew, but for the fall to NONE (R147, R151, R155) -/

section
variable {st : SourceState} {s t u : State}

def withDigital (st : SourceState) (s : State) : State := { s with rights := { s.rights with digital := st } }

/-- What the rights unit itself does when the digital source state is set. -/
def digitalHeard (st : SourceState) (s : State) : State :=
  if s.rights.digital = st then s
  else
    let s := raiseEvent .rightsChanged (withDigital st s)
    if selectedSource s = .digital then refreshWord (countPeriodRights s) else s

theorem setDigital_eq (st : SourceState) (s : State) : setDigital st s =
    if s.rights.digital ≠ st ∧ selectedSource s = .digital ∧ st = .rightsNone then noneReport (digitalHeard st s)
    else digitalHeard st s := by
  by_cases hsame : s.rights.digital = st
  · rw [show setDigital st s = s from if_pos hsame, show digitalHeard st s = s from if_pos hsame, if_neg fun hc => hc.1 hsame]
  · have hsource : selectedSource (raiseEvent .rightsChanged (withDigital st s)) = selectedSource s := rfl
    by_cases hdigital : selectedSource s = .digital
    · have hheard : digitalHeard st s = refreshWord (countPeriodRights (raiseEvent .rightsChanged (withDigital st s))) :=
        (if_neg hsame).trans (if_pos (hsource.trans hdigital))
      have hset : setDigital st s = if st = .rightsNone then noneReport (digitalHeard st s) else digitalHeard st s := by
        rw [hheard]
        exact (if_neg hsame).trans (if_pos (hsource.trans hdigital))
      simp only [hset, hsame, hdigital, ne_eq, not_false_eq_true, true_and]
    · have hheard : digitalHeard st s = raiseEvent .rightsChanged (withDigital st s) :=
        (if_neg hsame).trans (if_neg fun hc => hdigital (hsource.symm.trans hc))
      rw [if_neg fun hc => hdigital hc.2.1, hheard]
      exact (if_neg hsame).trans (if_neg fun hc => hdigital (hsource.symm.trans hc))

/-- The digital source state as set, with the work of the rights unit alone. -/
structure DigitalHeard (st : SourceState) (s t : State) : Prop where
  frame : SeqFrame (withDigital st s) t
  seq : t.seq = s.seq
  blend : t.blend = s.blend
  formatter : t.formatter = s.formatter
  faults : t.faults = s.faults
  counted : s.rights.digital ≠ st → selectedSource s = .digital →
    t.rights.period = moreRestrictive s.rights.period st
  notCounted : selectedSource s = .analog → t.rights.period = s.rights.period
  raised : s.rights.digital ≠ st → ∀ q, EventSet.has (s.ports.get q).report .rightsChanged = true →
    EventSet.has (t.ports.get q).events .rightsChanged = true

theorem withDigital_self (h : s.rights.digital = st) : withDigital st s = s := by
  subst h
  rfl

theorem digitalHeard_heard (st : SourceState) (s : State) : DigitalHeard st s (digitalHeard st s) := by
  by_cases hsame : s.rights.digital = st
  · rw [show digitalHeard st s = s from if_pos hsame]
    refine ⟨?_, rfl, rfl, rfl, rfl, fun h => absurd hsame h, fun _ => rfl, fun h => absurd hsame h⟩
    rw [withDigital_self hsame]
    exact .refl s
  · have hraise := raiseEvent_seqFrame .rightsChanged (withDigital st s)
    have hevent : ∀ q, EventSet.has (s.ports.get q).report .rightsChanged = true →
        EventSet.has ((raiseEvent .rightsChanged (withDigital st s)).ports.get q).events .rightsChanged = true :=
      fun q hq => raised_has (.refl (withDigital st s)) .rightsChanged q hq
    have hsource : selectedSource (raiseEvent .rightsChanged (withDigital st s)) = selectedSource s := rfl
    by_cases hdigital : selectedSource s = .digital
    · have heq : digitalHeard st s = refreshWord (countPeriodRights (raiseEvent .rightsChanged (withDigital st s))) :=
        (if_neg hsame).trans (if_pos (hsource.trans hdigital))
      rw [heq]
      refine ⟨?_, rfl, rfl, rfl, rfl, fun _ _ => ?_, fun hanalog => ?_, fun _ => hevent⟩
      · exact hraise.trans ((countPeriodRights_seqFrame _).trans (refreshWord_seqFrame _))
      · show moreRestrictive _ (stateOfSource _ (selectedSource s)) = _
        rw [hdigital]
        rfl
      · rw [hdigital] at hanalog
        cases hanalog
    · have heq : digitalHeard st s = raiseEvent .rightsChanged (withDigital st s) :=
        (if_neg hsame).trans (if_neg fun hc => hdigital (hsource.symm.trans hc))
      rw [heq]
      exact ⟨hraise, rfl, rfl, rfl, rfl, fun _ h => absurd h hdigital, fun _ => rfl, fun _ => hevent⟩

theorem DigitalHeard.selectedSource (h : DigitalHeard st s t) : Machine.selectedSource t = Machine.selectedSource s :=
  selectedSource_congr (s := withDigital st s) h.frame.sourceKept (congrArg Sequencer.held h.seq)

/-! ## A change of usability heard by the formatter and the fault monitor (R37, R38, R164) -/

theorem afterUsability_seqFrame (s0 s : State) : SeqFrame s (afterUsability s0 s) := by
  unfold afterUsability
  repeat' split
  · exact .refl s
  · exact evaluateInputAction_seqFrame s
  · exact (emptyFifo_seqFrame s).trans (evaluateInputAction_seqFrame _)

theorem evaluateInputAction_clearedKept (s : State) : ClearedKept s (evaluateInputAction s) := by
  unfold evaluateInputAction evaluate
  simp only
  split
  · exact (conditionTo_clearedKept _ _ s).trans (seqForcedClose_clearedKept _ _ _)
  · exact conditionTo_clearedKept _ _ s

theorem afterUsability_of_same {s0 : State} (h : usable s0 = usable s) : afterUsability s0 s = s := if_pos h

theorem afterUsability_lost {s0 : State} (hbefore : usable s0 = true) (hafter : usable s = false) :
    afterUsability s0 s = evaluateInputAction (emptyFifo s) := by
  unfold afterUsability
  rw [hbefore, hafter]
  rfl

theorem afterUsability_gained {s0 : State} (hbefore : usable s0 = false) (hafter : usable s = true) :
    afterUsability s0 s = evaluateInputAction s := by
  unfold afterUsability
  rw [hbefore, hafter]
  rfl

end

/-! ## LOSS_OF_LOCK (R37, R146) -/

section
variable {s : State} {k : Fin 32}

def unlocked (s : State) : State := { s with rights := { s.rights with history := [], accepted := none, lock := false } }

/-- The loss of lock as the rights unit has taken it. -/
def lossHeard (s : State) : State := digitalHeard .rightsUnstated (unlocked s)

theorem lossOfLock_eq (s : State) : lossOfLock s = afterUsability s (lossHeard s) := by
  show afterUsability s (setDigital .rightsUnstated (unlocked s)) = _
  rw [setDigital_eq, if_neg (by simp)]
  rfl

theorem lossHeard_heard (s : State) : DigitalHeard .rightsUnstated (unlocked s) (lossHeard s) := digitalHeard_heard _ _

theorem lossOfLock_seqFrame (s : State) : SeqFrame (withDigital .rightsUnstated (unlocked s)) (lossOfLock s) := by
  rw [lossOfLock_eq]
  exact (lossHeard_heard s).frame.trans (afterUsability_seqFrame _ _)

theorem usable_lossHeard (s : State) : usable (lossHeard s) = false := by
  have hlock : (lossHeard s).rights.lock = false := (lossHeard_heard s).frame.lock
  simp [usable, hlock]

theorem lossOfLock_of_not_usable (h : usable s = false) : lossOfLock s = lossHeard s := by
  rw [lossOfLock_eq, afterUsability_of_same (h.trans (usable_lossHeard s).symm)]

theorem lossOfLock_of_usable (h : usable s = true) : lossOfLock s = evaluateInputAction (emptyFifo (lossHeard s)) := by
  rw [lossOfLock_eq, afterUsability_lost h (usable_lossHeard s)]

theorem lossHeard_selectedSource (s : State) : selectedSource (emptyFifo (lossHeard s)) = selectedSource s :=
  (lossHeard_heard s).selectedSource

theorem inputCondition_lossHeard (s : State) : inputCondition (emptyFifo (lossHeard s)) =
    if selectedSource s = .digital then some .inputUnlocked else none := by
  have hlock : (emptyFifo (lossHeard s)).rights.lock = false := (lossHeard_heard s).frame.lock
  have husable : usable (emptyFifo (lossHeard s)) = false := usable_lossHeard s
  unfold inputCondition
  rw [lossHeard_selectedSource, husable, hlock]
  simp

/-- INPUT heard of the loss, with no entry to end: the sequencer, the blend unit and the gate stay as they were. -/
theorem lossOfLock_quiet (husable : usable s = true)
    (h : selectedSource s = .analog ∨ writingEntry s = false ∨ gateInPlay s = false ∨
      s.faults.records.input.present = true ∨ s.faults.records.input.mode = .warn ∨ s.faults.records.input.mode = .off) :
    FaultOnly (emptyFifo (lossHeard s)) (lossOfLock s) ∧
      lossOfLock s = conditionTo .input (inputCondition (emptyFifo (lossHeard s))) (emptyFifo (lossHeard s)) := by
  have hheard := lossHeard_heard s
  have hfaults : (emptyFifo (lossHeard s)).faults = s.faults := hheard.faults
  have hplay : gateInPlay (emptyFifo (lossHeard s)) = gateInPlay s := by
    show (_ == _ || Option.isSome _) = _
    rw [show (emptyFifo (lossHeard s)).formatter.gate = s.formatter.gate from
      (congrArg Formatter.gate hheard.formatter :),
      show (emptyFifo (lossHeard s)).formatter.pendingOpen = s.formatter.pendingOpen from
      (congrArg Formatter.pendingOpen hheard.formatter :)]
    rfl
  have hwriting : writingEntry (emptyFifo (lossHeard s)) = writingEntry s :=
    writingEntry_congr hheard.seq hheard.frame.editList
  have hquiet := evaluateInputAction_quiet (s := emptyFifo (lossHeard s)) (by
    rw [hwriting, hplay, hfaults, inputCondition_lossHeard]
    refine h.imp_left fun hanalog => ?_
    rw [hanalog]
    rfl)
  rw [lossOfLock_of_usable husable, hquiet]
  exact ⟨conditionTo_faultOnly _ _ _, rfl⟩

theorem lossHeard_knownAfa (s : State) : knownAfa (emptyFifo (lossHeard s)) = knownAfa s := by
  show knownAfa (lossHeard s) = _
  unfold knownAfa
  rw [(lossHeard_heard s).frame.tapeMap]
  rfl

theorem lossOfLock_quiet_input (husable : usable s = true) (hdigital : selectedSource s = .digital)
    (h : writingEntry s = false ∨ gateInPlay s = false ∨
      s.faults.records.input.present = true ∨ s.faults.records.input.mode = .warn ∨ s.faults.records.input.mode = .off) :
    (lossOfLock s).faults.records.input = s.faults.records.input.under (some .inputUnlocked) (knownAfa s) := by
  rw [(lossOfLock_quiet husable (.inr h)).2, inputCondition_lossHeard, if_pos hdigital]
  refine (conditionTo_get (k := .input) _ _).trans ?_
  rw [lossHeard_knownAfa, show (emptyFifo (lossHeard s)).faults = s.faults from (lossHeard_heard s).faults]
  rfl

/-- The loss ends the entry that writes. -/
structure LossEnds (k : Fin 32) (s t : State) : Prop extends ForcedAtGate s t where
  seq : t.seq = s.seq.failed k ⟨.input, .run, k + 1, .absent, knownAfa s⟩
  blend : ∀ ch, t.blend.get ch = ⟨0, 0, none, none, false⟩
  seen : t.faults.records.input.seen = true
  detail : t.faults.records.input.detail = .inputUnlocked
  present : t.faults.records.input.present = true ↔ s.formatter.defaultSource = .digital

theorem lossOfLock_ends (husable : usable s = true) (hdigital : selectedSource s = .digital)
    (hheld : s.seq.held = some k) (hw : writingEntry s = true) (hplay : gateInPlay s = true)
    (hgone : s.faults.records.input.present = false)
    (hmode : s.faults.records.input.mode = .latched ∨ s.faults.records.input.mode = .auto) :
    LossEnds k s (lossOfLock s) := by
  have hheard := lossHeard_heard s
  have hcond := inputCondition_lossHeard s
  have hafa := lossHeard_knownAfa s
  have hsource := lossHeard_selectedSource s
  rw [if_pos hdigital] at hcond
  rw [lossOfLock_of_usable husable]
  have hseq : (emptyFifo (lossHeard s)).seq = s.seq := hheard.seq
  have hlist : (emptyFifo (lossHeard s)).editList = s.editList := hheard.frame.editList
  have hfaults : (emptyFifo (lossHeard s)).faults = s.faults := hheard.faults
  have hgate : (emptyFifo (lossHeard s)).formatter.gate = s.formatter.gate :=
    (congrArg Formatter.gate hheard.formatter :)
  have hpending : (emptyFifo (lossHeard s)).formatter.pendingOpen = s.formatter.pendingOpen :=
    (congrArg Formatter.pendingOpen hheard.formatter :)
  have hdefault : (emptyFifo (lossHeard s)).formatter.defaultSource = s.formatter.defaultSource :=
    (congrArg Formatter.defaultSource hheard.formatter :)
  generalize emptyFifo (lossHeard s) = w at *
  have hwplay : gateInPlay w = true := by
    unfold gateInPlay at hplay ⊢
    rwa [hgate, hpending]
  rw [evaluateInputAction_fails hcond ((writingEntry_congr hseq hlist).trans hw) (by rw [hseq]; exact hheld) hwplay
    (by rw [hfaults]; exact hgone) (by rw [hfaults]; exact hmode)]
  have honly := conditionTo_faultOnly .input (some .inputUnlocked) w
  have hrecord := conditionTo_get .input (some .inputUnlocked) w
  rw [FaultRecord.under_of_new (by rw [hfaults]; exact hgone)
    (by rw [hfaults]; rcases hmode with h | h <;> exact fun hc => by cases h.symm.trans hc)] at hrecord
  generalize conditionTo .input (some .inputUnlocked) w = x at honly hrecord
  have hxheld : x.seq.held = some k := by rw [honly.seq, hseq]; exact hheld
  have hxsource : selectedSource x = .digital := by
    rw [selectedSource_congr (s := w) ?_ (by rw [honly.seq]), hsource, hdigital]
    exact ⟨honly.editList, by rw [honly.formatter], by rw [honly.formatter], by rw [honly.rights], by rw [honly.rights]⟩
  have hxplay : gateInPlay x = true := by
    unfold gateInPlay at hwplay ⊢
    rwa [honly.formatter]
  have hforced := (failEntry_walkFrame .input .absent k _).forcedAtGate hxplay
  have hinput := failEntry_input .input .absent (s := cutRequest (forcedCloseRequest x))
    (by rw [forcedCloseRequest_seq]; exact hxheld) (by
      have hframe := (forcedCloseRequest_seqFrame x).trans (cutRequest_seqFrame _)
      rw [selectedSource_congr hframe.sourceKept (by rw [forcedCloseRequest_seq]), hxsource]) k
  rw [((forcedCloseRequest_seqFrame x).trans (cutRequest_seqFrame _)).defaultSource,
    show (cutRequest (forcedCloseRequest x)).faults = x.faults from forcedCloseRequest_faults x, honly.formatter,
    hdefault] at hinput
  have hxrecord : x.faults.records.input = _ := hrecord
  have hxafa : knownAfa x = knownAfa s := by
    rw [← hafa]
    unfold knownAfa
    rw [honly.tapeMap]
  refine { gate := ?_, pendingOpen := hforced.pendingOpen, build := hforced.build, ready := hforced.ready
           closePoint := ?_, seq := ?_, blend := forcedFail_blend _ _ hxheld, seen := ?_, detail := ?_, present := ?_ }
  · rw [hforced.gate, honly.formatter, hgate]
  · intro hopen
    exact hforced.closePoint (by rw [honly.formatter, hgate]; exact hopen)
  · rw [forcedFail_seq (by decide), honly.seq, hseq, hxafa]
  all_goals
    rw [hinput, hxrecord]
    by_cases hd : s.formatter.defaultSource = .digital
    · simp [hd]
    · simp [hd, FaultRecord.under]

end

end Sys2Proof.Machine

namespace Sys2Proof.Machine
open Sys2Proof

-- One theorem at a time: the whole text is also compiled as one, where a thread for each theorem in flight asks for more
-- memory than the check allows.
set_option Elab.async false

section
variable {s : State} {k : Fin 32}

theorem not_usable_iff : usable s = false ↔
    s.rights.lock = false ∨ s.formatter.linkRate ≠ some (.known s.formatter.recordRate) := by
  rw [← Bool.not_eq_true, usable_iff]
  cases s.rights.lock <;> simp

/-- What the loss leaves at the sequencer, the blend unit and the gate when no entry has to end. -/
structure LossQuiet (s t : State) : Prop where
  seq : t.seq = s.seq
  blend : t.blend = s.blend
  gate : t.formatter.gate = s.formatter.gate
  closePoint : t.formatter.closePoint = s.formatter.closePoint

theorem DigitalHeard.quiet {st : SourceState} {t : State} (h : DigitalHeard st s t) : LossQuiet s t :=
  ⟨h.seq, h.blend, by rw [h.formatter], by rw [h.formatter]⟩

theorem lossOfLock_lossQuiet (h : selectedSource s = .analog ∨ writingEntry s = false ∨ gateInPlay s = false ∨
      s.faults.records.input.present = true ∨ s.faults.records.input.mode = .warn ∨ s.faults.records.input.mode = .off) :
    LossQuiet s (lossOfLock s) := by
  have hheard : LossQuiet s (lossHeard s) := by
    obtain ⟨hseq, hblend, hgate, hpoint⟩ := (lossHeard_heard s).quiet
    exact ⟨hseq, hblend, hgate, hpoint⟩
  cases husable : usable s with
  | false =>
    rw [lossOfLock_of_not_usable husable]
    exact hheard
  | true =>
    have honly := (lossOfLock_quiet husable h).1
    exact ⟨honly.seq.trans hheard.seq, honly.blend.trans hheard.blend,
      (congrArg Formatter.gate honly.formatter).trans hheard.gate,
      (congrArg Formatter.closePoint honly.formatter).trans hheard.closePoint⟩

theorem lossOfLock_empties (husable : usable s = true) : FifoEmpty (lossOfLock s) := by
  rw [lossOfLock_of_usable husable]
  exact (evaluateInputAction_clearedKept _).fifo (emptyFifo_fifoEmpty _)

theorem lossOfLock_period_of_analog (hanalog : selectedSource s = .analog) :
    (lossOfLock s).rights.period = s.rights.period := by
  have hheard : (lossHeard s).rights.period = s.rights.period := (lossHeard_heard s).notCounted hanalog
  cases husable : usable s with
  | false => rw [lossOfLock_of_not_usable husable, hheard]
  | true => rw [(lossOfLock_quiet husable (.inl hanalog)).1.rights]; exact hheard

theorem lossOfLock_period_of_digital (hdigital : selectedSource s = .digital)
    (hstated : s.rights.digital ≠ .rightsUnstated) : (lossOfLock s).rights.period = .rightsUnstated := by
  have hheard : (lossHeard s).rights.period = .rightsUnstated :=
    ((lossHeard_heard s).counted hstated hdigital).trans (unstated_moreRestrictive _)
  cases husable : usable s with
  | false => rw [lossOfLock_of_not_usable husable, hheard]
  | true =>
    rw [lossOfLock_of_usable husable]
    exact evaluateInputAction_unstatedKept _ hheard

theorem lossOfLock_event (hstated : s.rights.digital ≠ .rightsUnstated) (q : Port)
    (hq : EventSet.has (s.ports.get q).report .rightsChanged = true) :
    EventSet.has ((lossOfLock s).ports.get q).events .rightsChanged = true := by
  have hheard := (lossHeard_heard s).raised hstated q hq
  rw [lossOfLock_eq]
  exact ((afterUsability_seqFrame s _).ports q).grows _ hheard

theorem lossOfLock_raises (husable : usable s = true) (hdigital : selectedSource s = .digital)
    (hgone : s.faults.records.input.present = false) (hon : s.faults.records.input.mode ≠ .off) (q : Port)
    (hq : EventSet.has (s.ports.get q).report .faultRaised = true) :
    EventSet.has ((lossOfLock s).ports.get q).events .faultRaised = true := by
  have hfaults : (emptyFifo (lossHeard s)).faults = s.faults := (lossHeard_heard s).faults
  rw [lossOfLock_of_usable husable]
  refine evaluateInputAction_ports _ ?_ (by rw [hfaults]; exact hgone) (by rw [hfaults]; exact hon) q ?_
  · rw [inputCondition_lossHeard, if_pos hdigital]
    rfl
  · have hports := ((lossHeard_heard s).frame.ports q).rest
    show EventSet.has ((lossHeard s).ports.get q).report .faultRaised = true
    rw [hports]
    exact hq

/-- A loss with nothing to lose. -/
theorem lossOfLock_of_unstated (hunstated : s.rights.digital = .rightsUnstated) (husable : usable s = false) :
    lossOfLock s = unlocked s := by
  rw [lossOfLock_of_not_usable husable]
  exact if_pos hunstated

/-! ## LOCK_REGAINED (R37, R146) -/

def relocked (s : State) : State := { s with rights := { s.rights with lock := true } }

/-- The state after LOCK_REGAINED. -/
def lockRegained (s : State) : State := afterUsability s (relocked s)

theorem lockRegained_seqFrame (s : State) : SeqFrame (relocked s) (lockRegained s) := afterUsability_seqFrame _ _

theorem usable_relocked_iff :
    usable (relocked s) = true ↔ s.formatter.linkRate = some (.known s.formatter.recordRate) := by
  rw [usable_iff]
  exact ⟨fun h => h.2, fun h => ⟨rfl, h⟩⟩

/-- A source that is usable again is reported to the fault monitor: no INPUT condition holds. -/
theorem lockRegained_gained (hlock : s.rights.lock = false)
    (hrate : s.formatter.linkRate = some (.known s.formatter.recordRate)) :
    lockRegained s = conditionTo .input none (relocked s) := by
  have hafter := usable_relocked_iff.mpr hrate
  have hnone : inputCondition (relocked s) = none := if_neg fun hc => by rw [hafter] at hc; exact absurd hc.2 (by decide)
  have hbefore : usable s = false := not_usable_iff.mpr (.inl hlock)
  unfold lockRegained
  rw [afterUsability_gained hbefore hafter, evaluateInputAction_quiet (.inl hnone), hnone]

theorem lockRegained_of_same (h : s.rights.lock = true ∨ s.formatter.linkRate ≠ some (.known s.formatter.recordRate)) :
    lockRegained s = relocked s := by
  refine afterUsability_of_same ?_
  rcases h with hlock | hrate
  · show (s.rights.lock && _) = (true && _)
    rw [hlock]
    rfl
  · rw [not_usable_iff.mpr (.inr hrate)]
    exact (not_usable_iff (s := relocked s).mpr (.inr hrate)).symm

theorem conditionTo_none_of_gone (k : FaultKind) (h : (s.faults.records.get k).present = false) :
    conditionTo k none s = s := by
  unfold conditionTo
  simp [h]

theorem lockRegained_quiet (hgone : s.faults.records.input.present = false) : lockRegained s = relocked s := by
  by_cases hsame : s.rights.lock = true ∨ s.formatter.linkRate ≠ some (.known s.formatter.recordRate)
  · exact lockRegained_of_same hsame
  · obtain ⟨hlock, hrate⟩ := not_or.mp hsame
    rw [lockRegained_gained (by simpa using hlock) (by simpa using hrate)]
    exact conditionTo_none_of_gone .input hgone

theorem lockRegained_ends (hauto : s.faults.records.input.mode = .auto)
    (hrate : s.formatter.linkRate = some (.known s.formatter.recordRate)) (hlock : s.rights.lock = false)
    (hpresent : s.faults.records.input.present = true) :
    (lockRegained s).faults.records.input.present = false ∧ (lockRegained s).faults.records.input.action = false := by
  have hrecord : (lockRegained s).faults.records.input = s.faults.records.input.under none (knownAfa s) := by
    rw [lockRegained_gained hlock hrate]
    exact conditionTo_get (k := .input) none (relocked s)
  rw [hrecord]
  simp [FaultRecord.under, hpresent, hauto]

end

/-- Settles O37: the rights unit takes the loss first; what follows at the formatter and the fault monitor is one evaluation
of INPUT, quiet or ending the entry that writes. -/
theorem lockLostAndRegained : Obligations.LockLostAndRegained := by
  intro s
  have hlost := lossOfLock_seqFrame s
  have husable : s.rights.lock = true → s.formatter.linkRate = some (.known s.formatter.recordRate) → usable s = true :=
    fun hlock hrate => (usable_iff s).mpr ⟨hlock, hrate⟩
  refine ⟨⟨lossOfLock s, rfl, hlost.lock, hlost.history, hlost.accepted, hlost.digital, fun hlock hrate => ?_,
    fun hanalog => ?_, lossOfLock_period_of_digital, fun hlock hrate hdigital => ?_, lossOfLock_event,
    fun hunstated hnot => lossOfLock_of_unstated hunstated (not_usable_iff.mpr hnot), ?_, hlost.tape, hlost.candidate,
    hlost.linkRate, hlost.writeEnable, hlost.recordRate, hlost.written⟩, lockRegained s, rfl, ?_⟩
  · have hempty := lossOfLock_empties (husable hlock hrate)
    exact ⟨hempty.fifo, hempty.fifoState⟩
  · have hquiet := lossOfLock_lossQuiet (.inl hanalog)
    exact ⟨hquiet.seq, hquiet.blend, lossOfLock_period_of_analog hanalog, hquiet.gate, hquiet.closePoint⟩
  · have hon := husable hlock hrate
    refine ⟨lossOfLock_raises hon hdigital, fun hnone => ?_, fun j hheld hw hplay hgone hmode => ?_⟩
    · have hquiet := lossOfLock_lossQuiet (.inr hnone)
      exact ⟨lossOfLock_quiet_input hon hdigital hnone, hquiet.seq, hquiet.blend, hquiet.gate, hquiet.closePoint⟩
    · have hends := lossOfLock_ends hon hdigital hheld hw hplay hgone hmode
      exact ⟨hends.seq, hends.gate, hends.pendingOpen, hends.build, hends.closePoint, hends.blend, hends.seen,
        hends.detail, hends.present⟩
  · have hstate := hlost.state_eq
    generalize lossOfLock s = t at hstate
    rw [hstate]
    rfl
  · have hback := lockRegained_seqFrame s
    refine ⟨hback.lock, hback.history, hback.accepted, hback.digital, hback.tape, hback.candidate,
      fun _ hgone => lockRegained_quiet hgone, fun hauto hrate hlock => ?_, ?_, hback.linkRate, hback.writeEnable⟩
    · cases hpresent : s.faults.records.input.present with
      | false => exact .inr rfl
      | true => exact .inl (lockRegained_ends hauto hrate hlock hpresent)
    · have hstate := hback.state_eq
      generalize lockRegained s = t at hstate
      rw [hstate]
      rfl

end Sys2Proof.Machine

namespace Sys2Proof.Machine
open Sys2Proof

-- One theorem at a time: the whole text is also compiled as one, where a thread for each theorem in flight asks for more
-- memory than the check allows.
set_option Elab.async false

/-! ## The status history (R145) -/

section
variable {h : List StatusRecord} {r n : StatusRecord}

theorem joinHistory_of_follows (hlast : h.getLast? = some n) (htag : n.tag = r.tag) : joinHistory h r = [n, r] := by
  obtain ⟨l, rfl⟩ := List.getLast?_eq_some_iff.mp hlast
  have hlen : (l ++ [n]).length + 1 - 2 = l.length := by simp
  unfold joinHistory
  rw [hlast]
  simp only [if_pos htag, hlen]
  simp

theorem joinHistory_of_new (hnew : ¬ ∃ n, h.getLast? = some n ∧ n.tag = r.tag) : joinHistory h r = [r] := by
  unfold joinHistory
  split
  · next n hlast => exact if_neg fun htag => hnew ⟨n, hlast, htag⟩
  · rfl

theorem historyAgrees_join : historyAgrees (joinHistory h r) = true ↔ ∃ n, h.getLast? = some n ∧ n.tag = r.tag ∧
    n.cls = r.cls ∧ n.permit = r.permit ∧ n.generation = r.generation := by
  by_cases hfollows : ∃ n, h.getLast? = some n ∧ n.tag = r.tag
  · obtain ⟨n, hlast, htag⟩ := hfollows
    rw [joinHistory_of_follows hlast htag]
    simp [historyAgrees, hlast, htag, and_assoc]
  · rw [joinHistory_of_new hfollows]
    refine iff_of_false (by simp [historyAgrees]) ?_
    rintro ⟨n, hlast, htag, _⟩
    exact hfollows ⟨n, hlast, htag⟩

end

/-! ## A selected digital state that falls to NONE (R147, R148) -/

section
variable {s t : State} {k : Fin 32}

theorem noneReport_of_not_new (h : ∀ k, s.seq.held = some k → recordsNew s.editList[k] = false) : noneReport s = s := by
  unfold noneReport
  cases hheld : s.seq.held with
  | none => simp [heldEntry, hheld]
  | some k =>
    simp only [heldEntry_of_held hheld, h k hheld, Bool.false_eq_true, false_and, and_false, if_false]

/-- The new audio of the held entry silenced, and its fade-out begun unless one runs. -/
def silencedOut (e : EditEntry) (s : State) : State :=
  if fadeOutRuns (silenceRequest s) then silenceRequest s else fadeOutNowRequest e (silenceRequest s)

section
variable (hw : writingEntry s = true) (hheld : s.seq.held = some k) (hnew : recordsNew s.editList[k] = true)
include hw hheld hnew

theorem noneReport_opened (hopen : s.formatter.gate = .opened) : noneReport s =
    setSeqState .closing (recordError .denied .run (nextEntry k) .rightsNone (silencedOut s.editList[k] s)) := by
  obtain ⟨hstate, j, hj, hreal⟩ := (writingEntry_iff s).mp hw
  obtain rfl : j = k := Option.some.inj (hj.symm.trans hheld)
  unfold noneReport
  simp only [heldEntry_of_held hheld, if_pos (And.intro ((inWrite_iff s).mpr hstate) (And.intro hnew hreal))]
  exact if_pos hopen

theorem noneReport_pending (hclosed : s.formatter.gate = .closed) (hpending : s.formatter.pendingOpen.isSome = true) :
    noneReport s = failEntry .denied .rightsNone k (cutRequest (forcedCloseRequest s)) := by
  obtain ⟨hstate, j, hj, hreal⟩ := (writingEntry_iff s).mp hw
  obtain rfl : j = k := Option.some.inj (hj.symm.trans hheld)
  have hclose := seqForcedClose_writing hw hheld (by simp [gateInPlay, hpending]) .denied .rightsNone
  have hnotOpen : ¬ s.formatter.gate = .opened := by simp [hclosed]
  unfold noneReport
  simp only [heldEntry_of_held hheld, if_pos (And.intro ((inWrite_iff s).mpr hstate) (And.intro hnew hreal)),
    if_neg hnotOpen, if_pos hpending]
  exact hclose

end

theorem silencedOut_seq (e : EditEntry) (s : State) : (silencedOut e s).seq = s.seq := by
  unfold silencedOut
  split <;> rfl

theorem silencedOut_tapeMap (e : EditEntry) (s : State) : (silencedOut e s).tapeMap = s.tapeMap := by
  unfold silencedOut
  split <;> rfl

theorem silencedOut_formatter (e : EditEntry) (s : State) :
    (silencedOut e s).formatter = (silenceRequest s).formatter := by
  unfold silencedOut
  split <;> rfl

theorem fadeOutRuns_iff : fadeOutRuns s = true ↔ ∃ ch f, (s.blend.get ch).running = some f ∧ f.dir = .fadeOut := by
  unfold fadeOutRuns
  rw [Bool.or_eq_true, Option.any_eq_true, Option.any_eq_true]
  simp only [beq_iff_eq]
  constructor
  · rintro (⟨f, hf, hdir⟩ | ⟨f, hf, hdir⟩)
    · exact ⟨.left, f, hf, hdir⟩
    · exact ⟨.right, f, hf, hdir⟩
  · rintro ⟨ch, f, hf, hdir⟩
    cases ch with
    | left => exact .inl ⟨f, hf, hdir⟩
    | right => exact .inr ⟨f, hf, hdir⟩

theorem silencedOut_blend_of_runs (e : EditEntry) (h : fadeOutRuns s = true) :
    (silencedOut e s).blend = { s.blend with silence := true } := by
  have hruns : fadeOutRuns (silenceRequest s) = true := h
  unfold silencedOut
  rw [if_pos hruns]
  rfl

theorem silencedOut_blend_of_not_runs (e : EditEntry) (h : fadeOutRuns s = false) : (silencedOut e s).blend =
    ⟨s.blend.left.askOutNow (fadeLength e.fadeOut.toNat), s.blend.right.askOutNow (fadeLength e.fadeOut.toNat),
      true, true, none⟩ := by
  have hruns : ¬ fadeOutRuns (silenceRequest s) = true := by
    rw [show fadeOutRuns (silenceRequest s) = false from h]
    decide
  unfold silencedOut
  rw [if_neg hruns]
  rfl

theorem silencedOut_silence (e : EditEntry) (s : State) : (silencedOut e s).blend.silence = true := by
  unfold silencedOut
  split <;> rfl

/-- The sequencer's record of a denied write whose gate is OPEN. -/
theorem noneReport_opened_seq (e : EditEntry) (k : Fin 32) (s : State) :
    (setSeqState .closing (recordError .denied .run (nextEntry k) .rightsNone (silencedOut e s))).seq =
      { s.seq with
        state := .closing
        error := if s.seq.error.isSome then s.seq.error else some ⟨.denied, .run, k + 1, .rightsNone, knownAfa s⟩ } := by
  have hafa : knownAfa (silencedOut e s) = knownAfa s := by
    unfold knownAfa
    rw [silencedOut_tapeMap]
  show { (recordError _ _ _ _ _).seq with state := SeqState.closing } = _
  rw [recordError_seq, silencedOut_seq, hafa]
  simp
  rfl

/-! ## A status record as a whole -/

/-- The record at the formatter: its rate, and the usability that follows. -/
def rateHeard (r : StatusRecord) (s : State) : State :=
  afterUsability s { s with formatter := { s.formatter with linkRate := some r.rate } }

theorem rateHeard_of_same {r : StatusRecord} (h : s.formatter.linkRate = some r.rate) : rateHeard r s = s := by
  have hself : { s with formatter := { s.formatter with linkRate := some r.rate } } = s := by
    rw [← h]
  unfold rateHeard
  rw [hself]
  exact afterUsability_of_same rfl

theorem SeqFrame.setLinkRate (h : SeqFrame s t) (x : Option LinkRate) :
    SeqFrame { s with formatter := { s.formatter with linkRate := x } }
      { t with formatter := { t.formatter with linkRate := x } } := { h with linkRate := rfl }

theorem statusRecord_of_locked (r : StatusRecord) (hlock : s.rights.lock = true) :
    statusRecord r s = rateHeard r (rightsRecord r s) := if_pos hlock

/-- The record in the history. -/
def recordJoined (r : StatusRecord) (s : State) : State :=
  { s with rights := { s.rights with history := joinHistory s.rights.history r } }

def acceptedOf (r : StatusRecord) : AcceptedRecord := ⟨r.cls, r.permit, r.generation, r.tag⟩

/-- The record as the accepted one. -/
def recordAccepted (r : StatusRecord) (s : State) : State :=
  { recordJoined r s with rights := { (recordJoined r s).rights with accepted := some (acceptedOf r) } }

theorem rightsRecord_of_agrees {r : StatusRecord} (h : historyAgrees (joinHistory s.rights.history r) = true) :
    rightsRecord r s = setDigital (digitalStateOf (some (acceptedOf r))) (recordAccepted r s) := if_pos h

theorem rightsRecord_of_not {r : StatusRecord} (h : historyAgrees (joinHistory s.rights.history r) = false) :
    rightsRecord r s = recordJoined r s := if_neg (by simp [h])

theorem setDigital_seqFrame (st : SourceState) (s : State) : SeqFrame (withDigital st s) (setDigital st s) := by
  have hheard := (digitalHeard_heard st s).frame
  rw [setDigital_eq]
  split
  · exact hheard.trans (noneReport_seqFrame _)
  · exact hheard

theorem setDigital_self {st : SourceState} (h : s.rights.digital = st) : setDigital st s = s := if_pos h

theorem setDigital_raised {st : SourceState} (h : s.rights.digital ≠ st) (q : Port)
    (hq : EventSet.has (s.ports.get q).report .rightsChanged = true) :
    EventSet.has ((setDigital st s).ports.get q).events .rightsChanged = true := by
  have hheard := (digitalHeard_heard st s).raised h q hq
  rw [setDigital_eq]
  split
  · exact ((noneReport_seqFrame _).ports q).grows _ hheard
  · exact hheard

theorem rateHeard_seqFrame (r : StatusRecord) (h : SeqFrame s t) :
    SeqFrame { s with formatter := { s.formatter with linkRate := some r.rate } } (rateHeard r t) :=
  (h.setLinkRate (some r.rate)).trans (afterUsability_seqFrame _ _)

theorem statusRecord_seqFrame_of_agrees {r : StatusRecord} (hlock : s.rights.lock = true)
    (h : historyAgrees (joinHistory s.rights.history r) = true) :
    SeqFrame { s with
        rights := { s.rights with
          history := joinHistory s.rights.history r, accepted := some (acceptedOf r)
          digital := digitalStateOf (some (acceptedOf r)) }
        formatter := { s.formatter with linkRate := some r.rate } } (statusRecord r s) := by
  rw [statusRecord_of_locked r hlock, rightsRecord_of_agrees h]
  exact rateHeard_seqFrame r (setDigital_seqFrame _ (recordAccepted r s))

theorem statusRecord_seqFrame_of_not {r : StatusRecord} (hlock : s.rights.lock = true)
    (h : historyAgrees (joinHistory s.rights.history r) = false) :
    SeqFrame { s with
        rights := { s.rights with history := joinHistory s.rights.history r }
        formatter := { s.formatter with linkRate := some r.rate } } (statusRecord r s) := by
  rw [statusRecord_of_locked r hlock, rightsRecord_of_not h]
  exact rateHeard_seqFrame r (.refl (recordJoined r s))

/-- What a status record never changes, and what it sets whether it agrees or not. -/
structure StatusTaken (r : StatusRecord) (s t : State) : Prop where
  history : t.rights.history = joinHistory s.rights.history r
  linkRate : t.formatter.linkRate = some r.rate
  lock : t.rights.lock = true
  tape : t.rights.tape = s.rights.tape
  candidate : t.rights.candidate = s.rights.candidate
  recordRate : t.formatter.recordRate = s.formatter.recordRate
  defaultSource : t.formatter.defaultSource = s.formatter.defaultSource
  analogRights : t.formatter.analogRights = s.formatter.analogRights
  writeEnable : t.formatter.writeEnable = s.formatter.writeEnable
  written : t.formatter.written = s.formatter.written
  lastPosition : t.seq.lastPosition = s.seq.lastPosition
  rest : t = { s with
    ports := t.ports, blend := t.blend, seq := t.seq, rights := t.rights
    formatter := t.formatter
    monitor := { s.monitor with switch := t.monitor.switch, pending := t.monitor.pending }
    outputs := { s.outputs with txWorst := t.outputs.txWorst }
    faults := { s.faults with records := t.faults.records } }

theorem SeqFrame.statusTaken {r : StatusRecord} {u : RightsUnit}
    (h : SeqFrame { s with rights := u, formatter := { s.formatter with linkRate := some r.rate } } t)
    (hlock : u.lock = true) (hhistory : u.history = joinHistory s.rights.history r) (htape : u.tape = s.rights.tape)
    (hcandidate : u.candidate = s.rights.candidate) :
    StatusTaken r s t := by
  refine ⟨h.history.trans hhistory, h.linkRate, h.lock.trans hlock, h.tape.trans htape, h.candidate.trans hcandidate,
    h.recordRate, h.defaultSource, h.analogRights, h.writeEnable, h.written, h.lastPosition, ?_⟩
  have hstate := h.state_eq
  rw [hstate]

theorem statusRecord_taken (r : StatusRecord) (hlock : s.rights.lock = true) : StatusTaken r s (statusRecord r s) := by
  cases h : historyAgrees (joinHistory s.rights.history r) with
  | true =>
    have hframe := statusRecord_seqFrame_of_agrees hlock h
    exact hframe.statusTaken hlock rfl rfl rfl
  | false =>
    have hframe := statusRecord_seqFrame_of_not hlock h
    exact hframe.statusTaken hlock rfl rfl rfl

theorem statusRecord_event {r : StatusRecord} (hlock : s.rights.lock = true)
    (h : historyAgrees (joinHistory s.rights.history r) = true)
    (hchange : s.rights.digital ≠ digitalStateOf (some (acceptedOf r))) (q : Port)
    (hq : EventSet.has (s.ports.get q).report .rightsChanged = true) :
    EventSet.has ((statusRecord r s).ports.get q).events .rightsChanged = true := by
  have hraised := setDigital_raised (s := recordAccepted r s) hchange q hq
  rw [statusRecord_of_locked r hlock, rightsRecord_of_agrees h]
  exact ((rateHeard_seqFrame r (.refl _)).ports q).grows _ hraised

/-- A record that brings nothing new but itself. -/
theorem statusRecord_of_same {r : StatusRecord} (hlock : s.rights.lock = true)
    (hsame : (statusRecord r s).rights.digital = s.rights.digital) (hrate : s.formatter.linkRate = some r.rate) :
    statusRecord r s = { s with rights := { s.rights with
      history := (statusRecord r s).rights.history, accepted := (statusRecord r s).rights.accepted } } := by
  have hplain : statusRecord r s = recordAccepted r s ∨ statusRecord r s = recordJoined r s := by
    cases h : historyAgrees (joinHistory s.rights.history r) with
    | true =>
      have hst : s.rights.digital = digitalStateOf (some (acceptedOf r)) :=
        hsame.symm.trans (statusRecord_seqFrame_of_agrees hlock h).digital
      rw [statusRecord_of_locked r hlock, rightsRecord_of_agrees h, setDigital_self (s := recordAccepted r s) hst]
      exact .inl (rateHeard_of_same (s := recordAccepted r s) hrate)
    | false =>
      rw [statusRecord_of_locked r hlock, rightsRecord_of_not h]
      exact .inr (rateHeard_of_same (s := recordJoined r s) hrate)
  rcases hplain with h | h <;> rw [h] <;> rfl

/-- A record by which the selected digital state falls to NONE, the rate as it was. -/
theorem statusRecord_fall {r : StatusRecord} (hlock : s.rights.lock = true)
    (hchange : (statusRecord r s).rights.digital ≠ s.rights.digital)
    (hnone : (statusRecord r s).rights.digital = .rightsNone) (hdigital : selectedSource s = .digital)
    (hrate : s.formatter.linkRate = some r.rate) :
    ∃ v, DigitalHeard .rightsNone (recordAccepted r s) v ∧ statusRecord r s = noneReport v := by
  have hagrees : historyAgrees (joinHistory s.rights.history r) = true := by
    by_contra h
    exact hchange (statusRecord_seqFrame_of_not hlock (by simpa using h)).digital
  have hst : digitalStateOf (some (acceptedOf r)) = .rightsNone :=
    (statusRecord_seqFrame_of_agrees hlock hagrees).digital.symm.trans hnone
  have hfalls : (recordAccepted r s).rights.digital ≠ .rightsNone ∧ selectedSource (recordAccepted r s) = .digital ∧
      SourceState.rightsNone = .rightsNone := ⟨fun hc => hchange (hnone.trans hc.symm), hdigital, rfl⟩
  refine ⟨_, digitalHeard_heard _ _, ?_⟩
  rw [statusRecord_of_locked r hlock, rightsRecord_of_agrees hagrees, hst, setDigital_eq, if_pos hfalls]
  have hframe := (digitalHeard_heard .rightsNone (recordAccepted r s)).frame.trans
    (noneReport_seqFrame (digitalHeard .rightsNone (recordAccepted r s)))
  exact rateHeard_of_same (hframe.linkRate.trans hrate)

end

/-- Settles O36: the rights unit takes the record first; the fall to NONE reaches the sequencer through `noneReport`. -/
theorem statusRecordsAccepted : Obligations.StatusRecordsAccepted := by
  intro r s
  refine ⟨fun hlock => congrArg Host.Outcome.next (if_neg (by simp [hlock])), fun hlock => ?_⟩
  have htaken := statusRecord_taken r hlock
  refine ⟨statusRecord r s, rfl, ?_⟩
  intro newest follows agrees
  have hagrees : historyAgrees (joinHistory s.rights.history r) = true ↔ agrees := historyAgrees_join
  refine ⟨fun n hlast htag => htaken.history.trans (joinHistory_of_follows hlast htag),
    fun hnew => htaken.history.trans (joinHistory_of_new hnew), fun h => ?_, fun h => ?_, fun hchange q hq => ?_,
    htaken.linkRate, fun hsame hrate => statusRecord_of_same hlock hsame hrate, fun hchange hnone hdigital hrate => ?_,
    htaken.rest, htaken.lock, htaken.tape, htaken.candidate, htaken.recordRate, htaken.defaultSource,
    htaken.analogRights, htaken.writeEnable, htaken.written, htaken.lastPosition⟩
  · have hframe := statusRecord_seqFrame_of_agrees hlock (hagrees.mpr h)
    exact ⟨hframe.accepted, hframe.digital⟩
  · have hframe := statusRecord_seqFrame_of_not hlock (by simpa using fun hc => h (hagrees.mp hc))
    exact ⟨hframe.accepted, hframe.digital⟩
  · have hjoins : historyAgrees (joinHistory s.rights.history r) = true := by
      by_contra hc
      exact hchange (statusRecord_seqFrame_of_not hlock (by simpa using hc)).digital
    refine statusRecord_event hlock hjoins (fun hc => hchange ?_) q hq
    exact (statusRecord_seqFrame_of_agrees hlock hjoins).digital.trans hc.symm
  · obtain ⟨v, hheard, heq⟩ := statusRecord_fall hlock hchange hnone hdigital hrate
    have hseq : v.seq = s.seq := hheard.seq
    have hblend : v.blend = s.blend := hheard.blend
    have hformatter : v.formatter = s.formatter := hheard.formatter
    have hlist : v.editList = s.editList := hheard.frame.editList
    have hafa : knownAfa v = knownAfa s := by
      unfold knownAfa
      rw [hheard.frame.tapeMap]
      rfl
    have hwriting : writingEntry v = writingEntry s := writingEntry_congr hseq hlist
    rw [heq]
    refine ⟨fun k hw hheld hnew => ⟨fun hopen => ?_, fun hclosed hpending => ?_⟩, fun hnot => ?_⟩
    · rw [noneReport_opened (hwriting.trans hw) (by rw [hseq]; exact hheld) (by rw [hlist]; exact hnew)
        (by rw [hformatter]; exact hopen), hlist]
      have hruns : fadeOutRuns v = true ↔ _ := fadeOutRuns_iff
      rw [hblend] at hruns
      generalize s.editList[k] = e
      refine ⟨?_, ?_, ?_, fun hr => ?_, fun hr => ?_⟩
      · rw [noneReport_opened_seq, hseq, hafa]
        rfl
      · show (recordError _ _ _ _ _).blend.silence = true
        rw [recordError_blend, silencedOut_silence]
      · show (recordError _ _ _ _ _).formatter = _
        rw [recordError_formatter, silencedOut_formatter, ← hformatter]
        rfl
      · show (recordError _ _ _ _ _).blend = _
        rw [recordError_blend, silencedOut_blend_of_runs e (hruns.mpr hr), hblend]
      · show (recordError _ _ _ _ _).blend = _
        rw [recordError_blend, silencedOut_blend_of_not_runs e (by simpa using fun hc => hr (hruns.mp hc)), hblend]
        rfl
    · have hvheld : v.seq.held = some k := by rw [hseq]; exact hheld
      have hvclosed : v.formatter.gate = .closed := by rw [hformatter]; exact hclosed
      have hvpending : v.formatter.pendingOpen.isSome = true := by rw [hformatter]; exact hpending
      rw [noneReport_pending (hwriting.trans hw) hvheld (by rw [hlist]; exact hnew) hvclosed hvpending]
      have hgate := (failEntry_walkFrame .denied .rightsNone k _).openDiscarded hvclosed hvpending
      obtain ⟨hg, hp, hb, hr⟩ := hgate
      refine ⟨?_, hg, hp, hb, hr, forcedFail_blend _ _ hvheld⟩
      rw [forcedFail_seq (by decide), hseq, hafa]
      rfl
    · have hquiet : noneReport v = v := by
        rcases hnot with hnot | hnot
        · exact noneReport_of_not_writing (hwriting.trans hnot)
        · refine noneReport_of_not_new fun k hk => ?_
          rw [hlist]
          exact hnot k (by rw [← hseq]; exact hk)
      rw [hquiet]
      exact ⟨hseq, hblend, hformatter⟩

end Sys2Proof.Machine

namespace Sys2Proof.Machine
open Sys2Proof

-- One theorem at a time: the whole text is also compiled as one, where a thread for each theorem in flight asks for more
-- memory than the check allows.
set_option Elab.async false

/-! ## One channel of the blend unit (R87, R88) -/

section
variable {c : BlendChannel}

theorem BlendChannel.start_of_due {q : PendingFade} {n : Nat} (hpending : c.pending = some q) (hticks : q.ticks = 0)
    (hoffset : q.offset ≤ n) :
    c.start n = { c with pending := none, running := some (startFade q.dir q.length (c.fadeFrom q.dir)) } := by
  unfold BlendChannel.start
  rw [hpending]
  exact if_pos ⟨hticks, hoffset⟩

theorem BlendChannel.inEnd_of_due {f : Fade} (hrunning : c.running = some f) (hdir : f.dir = .fadeIn)
    (hdone : f.length ≤ f.pos) : c.inEnd = { c with running := none, weight := 4096 } :=
  if_pos (by simp [BlendChannel.inEndDue, hrunning, hdir, Fade.live, hdone])

/-- A channel at the report of FADE_OUT_END: weight 0 where a fade-out has ended. -/
theorem BlendChannel.outEnd_eq (c : BlendChannel) : c.outEnd = match c.running with
    | some ⟨.fadeOut, len, k⟩ => if len ≤ k then { c with running := none, weight := 0, last := 0 } else c
    | _ => c := by
  unfold BlendChannel.outEnd
  rcases c.running with _ | ⟨_ | _, len, k⟩ <;> simp [Fade.live]

end

/-! ## What a completion raises and leaves (R89, R131) -/

section
variable {s : State} {k : Fin 32}

theorem entryEnded_seqFrame (k : Fin 32) (s : State) : SeqFrame s (entryEnded k s) := by
  have hstart : SeqFrame s { s with seq := { s.seq with state := .idle, pointer := k } } := by
    constructor <;> first | rfl | exact fun _ => .refl _
  exact (hstart.trans (giveUp_seqFrame _)).trans (clearPending_seqFrame _)

theorem complete_blend (h : s.seq.held = some k) : (complete s).blend = (releaseBlend s).blend := by
  have hended : (entryEnded k s).blend = (releaseBlend s).blend :=
    (giveUp_blend { s with seq := { s.seq with state := .idle, pointer := k } }).trans (if_pos (by rw [h]; rfl))
  have hseq := entryEnded_seq k s
  rw [complete_eq h]
  repeat' split
  case isFalse.isFalse.isFalse.isFalse =>
    refine (fetchFrom_still 34
      (s := { entryEnded k s with seq := { (entryEnded k s).seq with pointer := nextEntry k } }) ?_ ?_).2.trans hended
    · simp [inWrite, hseq, Sequencer.ended]
    · simp [hseq, Sequencer.ended]
  all_goals exact hended

theorem complete_raises_fault (h : s.seq.held = some k) (herror : s.seq.error.isSome = true) (q : Port)
    (hq : EventSet.has (s.ports.get q).report .seqFault = true) :
    EventSet.has ((complete s).ports.get q).events .seqFault = true := by
  rw [complete_eq h, if_pos herror]
  exact raised_has ((entryEnded_seqFrame k s).trans (setSeqState_seqFrame _ _)) .seqFault q hq

theorem endWalk_raises (c : CloseKind) (k j : Fin 32) (q : Port)
    (hq : EventSet.has (s.ports.get q).report .seqDone = true) :
    EventSet.has ((endWalk c j (entryEnded k s)).ports.get q).events .seqDone = true := by
  have hset : SeqFrame (entryEnded k s)
      { entryEnded k s with seq := { (entryEnded k s).seq with state := .idle, lastClose := some (c, j) } } := by
    constructor <;> first | rfl | exact fun _ => .refl _
  exact raised_has ((entryEnded_seqFrame k s).trans hset) .seqDone q hq

theorem complete_raises_done (h : s.seq.held = some k) (hnone : s.seq.error = none)
    (hend : s.seq.abortPending = true ∨ s.editList[k].endFlag = true) (q : Port)
    (hq : EventSet.has (s.ports.get q).report .seqDone = true) :
    EventSet.has ((complete s).ports.get q).events .seqDone = true := by
  have hne : ¬ s.seq.error.isSome = true := by simp [hnone]
  rw [complete_eq h, if_neg hne]
  by_cases habort : s.seq.abortPending = true
  · rw [if_pos habort]
    exact endWalk_raises _ _ _ q hq
  · rw [if_neg habort, if_pos (hend.resolve_left habort)]
    exact endWalk_raises _ _ _ q hq

end

/-! ## The close request (R50) -/

section
variable {s : State} {g : FrameNo}

theorem closeRequest_closed (hclosed : s.formatter.gate = .closed) (hpending : s.formatter.pendingOpen = none) :
    closeRequest g s = s := by
  unfold closeRequest
  rw [hclosed, hpending]

theorem closeRequest_pending {sp : Span} (hclosed : s.formatter.gate = .closed)
    (hpending : s.formatter.pendingOpen = some sp) : closeRequest g s =
      { s with formatter := { s.formatter with closePoint := some (.normal (max g sp.first)) } } := by
  unfold closeRequest
  rw [hclosed, hpending]

/-- A frame being built that the close point leaves out. -/
def Dropped (g : FrameNo) (s : State) : Prop :=
  ∃ b g', s.formatter.build = some b ∧ closePointFor g s = .normal g' ∧ g' < b.frame

theorem closeRequest_opened (hopen : s.formatter.gate = .opened) (h : ¬ Dropped g s) : closeRequest g s =
    { s with formatter := { s.formatter with closePoint := some (closePointFor g s) } } := by
  unfold closeRequest
  rw [hopen]
  rcases hb : s.formatter.build with _ | b
  · simp only [hb, if_true]
  · rcases hp : closePointFor g s with g' | _
    · have hle : decide (b.frame ≤ g') = true :=
        decide_eq_true (Nat.le_of_not_lt fun hlt => h ⟨b, g', hb, hp, hlt⟩)
      simp only [hb, hle, if_true]
    · simp only [hb, if_true]

theorem closeRequest_opened_drops (hopen : s.formatter.gate = .opened) (h : Dropped g s) : closeRequest g s =
    { s with formatter := { s.formatter with closePoint := some (closePointFor g s), build := none, run := none } } := by
  obtain ⟨b, g', hb, hp, hlt⟩ := h
  have hdrop : decide (b.frame ≤ g') = false := decide_eq_false (Nat.not_le_of_lt hlt)
  unfold closeRequest
  rw [hopen]
  simp only [hb, hp, hdrop, Bool.false_eq_true, if_false]

end

/-! ## FADE_OUT_END (R88, R131) -/

/-- The blend unit with the end of the fade-out reported. -/
def fadedOutState (s : State) : State :=
  { s with blend := { s.blend with
    left := s.blend.left.outEnd, right := s.blend.right.outEnd, outAsked := false, lastFade := none } }

section
variable {s : State} {k : Fin 32}

theorem fadeOutEnd_of_due (hasked : s.blend.outAsked = true) (hended : ∀ ch, (s.blend.get ch).fadingOut = false) :
    fadeOutEnd s = fadeOutReport (s.blend.lastFade.getD (s.transport.tick - 1)) (fadedOutState s) := by
  have hleft : s.blend.left.fadingOut = false := hended .left
  have hright : s.blend.right.fadingOut = false := hended .right
  exact if_pos (by simp [fadeOutEndDue, hasked, hleft, hright])

theorem fadeOutReport_of_not_inWrite {g : FrameNo} (h : inWrite s = false) : fadeOutReport g s = s :=
  if_neg (by simp [h])

theorem fadeOutReport_of_writing {g : FrameNo} (h : writingEntry s = true) : fadeOutReport g s = closeRequest g s := by
  obtain ⟨hstate, k, hheld, hreal⟩ := (writingEntry_iff s).mp h
  have hnot : ¬ heldRehearsal s = true := by
    unfold heldRehearsal
    rw [heldEntry_of_held hheld]
    simpa using hreal
  exact (if_pos ((inWrite_iff s).mpr hstate)).trans (if_neg hnot)

theorem fadeOutReport_of_rehearsal {g : FrameNo} (hstate : s.seq.state = .recording ∨ s.seq.state = .closing)
    (hheld : s.seq.held = some k) (hrehearsal : isRehearsal s.editList[k] = true) : fadeOutReport g s = complete s := by
  have hyes : heldRehearsal s = true := by
    unfold heldRehearsal
    rw [heldEntry_of_held hheld]
    exact hrehearsal
  exact (if_pos ((inWrite_iff s).mpr hstate)).trans (if_pos hyes)

theorem fadedOutState_frame (s : State) : SeqFrame s (fadedOutState s) := by
  constructor <;> first | rfl | exact fun _ => .refl _

end

/-- Settles O32: the steps of one channel are those of `BlendChannel`; the report goes by `fadeOutReport`, to the close
request of a write (`closeRequest`) or to the completion of a rehearsal (`complete_seq`). -/
theorem fadesStartAndEnd : Obligations.FadesStartAndEnd := by
  refine ⟨fun ch s => ⟨fun q hpending hticks hoffset => ?_, fun f hrunning hdir hdone => ?_⟩, fun s hasked hended => ?_⟩
  · refine congrArg Host.Outcome.next ?_
    unfold fadeStart mapBlend
    simp only [BlendChannel.start_of_due hpending hticks hoffset]
    obtain ⟨dir, length, offset, ticks⟩ := q
    cases dir <;> rfl
  · refine congrArg Host.Outcome.next ?_
    unfold fadeInEnd mapBlend
    simp only [BlendChannel.inEnd_of_due hrunning hdir hdone]
  · intro named f ended faded
    have hfaded : fadedOutState s = faded := by
      have houtEnd : ∀ c, BlendChannel.outEnd c = ended c := BlendChannel.outEnd_eq
      unfold fadedOutState
      rw [houtEnd, houtEnd]
    have hexec : exec .fadeOutEnd s = .next (fadeOutReport named (fadedOutState s)) :=
      congrArg Host.Outcome.next (fadeOutEnd_of_due hasked hended)
    refine ⟨fun hr hc => ?_, fun hw => ?_, fun k hstate hheld hrehearsal => ?_⟩
    · have hnot : inWrite (fadedOutState s) = false := by
        rw [← Bool.not_eq_true, inWrite_iff]
        exact fun h => h.elim hr hc
      rw [hexec, fadeOutReport_of_not_inWrite hnot, hfaded]
    · intro last point dropped
      have hreport : exec .fadeOutEnd s = .next (closeRequest named faded) := by
        rw [hexec, fadeOutReport_of_writing (s := fadedOutState s) hw, hfaded]
      have hpoint : closePointFor named faded = point := rfl
      have hdropped : Dropped named faded ↔ dropped := Iff.rfl
      refine ⟨fun hopen hkeep => ?_, fun hopen hdrop => ?_, fun sp hclosed hpending => ?_, fun hclosed hpending => ?_⟩
      · rw [hreport, closeRequest_opened (s := faded) hopen (fun h => hkeep (hdropped.mp h)), hpoint]
      · rw [hreport, closeRequest_opened_drops (s := faded) hopen (hdropped.mpr hdrop), hpoint]
      · rw [hreport, closeRequest_pending (s := faded) hclosed hpending]
      · rw [hreport, closeRequest_closed (s := faded) hclosed hpending]
    · have hreport : exec .fadeOutEnd s = .next (complete (fadedOutState s)) := by
        rw [hexec, fadeOutReport_of_rehearsal (s := fadedOutState s) hstate hheld hrehearsal]
      have hx : (fadedOutState s).seq.held = some k := hheld
      have hframe := (fadedOutState_frame s).trans (complete_seqFrame _)
      have hwalk := (complete_walkFrame (fadedOutState s)).formatter
      have hblend := complete_blend hx
      have hstill := (complete_still hx).2
      have hfault := complete_raises_fault hx
      have hdone := complete_raises_done hx
      obtain ⟨herror, habort, hflag, hhold, hfetch⟩ := complete_seq hx
      refine ⟨_, hreport, fun he => ⟨herror he, hfault he⟩, habort, hflag, hdone, hhold, hfetch, hstill, ?_, ?_, ?_, ?_,
        ?_, ?_, ?_, ?_, hframe.state_eq⟩
      case refine_1 | refine_2 => rw [hblend]; rfl
      all_goals rw [hwalk]; rfl

end Sys2Proof.Machine

namespace Sys2Proof.Machine
open Sys2Proof

-- One theorem at a time: the whole text is also compiled as one, where a thread for each theorem in flight asks for more
-- memory than the check allows.
set_option Elab.async false

/-! ## A written frame at the program index (R110, R111, R112) -/

section
variable {s v : State} {a : Afa} {k : MarkerKind} {n : Nat} {e new : IndexEntry}

theorem applyWrittenRun_far (h : nearestEntry s.tapeMap.index a = none) :
    applyWrittenRun a k n s = insertEntry ⟨a, k, n, .written⟩ s := by
  unfold applyWrittenRun
  simp only [h]

theorem applyWrittenRun_near (h : nearestEntry s.tapeMap.index a = some e) : applyWrittenRun a k n s =
    if e = ⟨a, k, n, .written⟩ then s
    else indexChange (setIndex (Machine.replaceEntry e.start ⟨a, k, n, .written⟩ s.tapeMap.index) s) := by
  unfold applyWrittenRun
  simp only [h]

theorem replaceEntry_ne_of_mem (h : Rising s.tapeMap.index) (he : e ∈ s.tapeMap.index) (hne : e ≠ new) :
    replaceEntry e.start new s.tapeMap.index ≠ s.tapeMap.index := by
  intro hsame
  have hmem := mem_replaceEntry (o := e) (new := new) h he
  rw [hsame] at hmem
  exact (hmem.mp he).elim hne fun hself => hself.2 rfl

theorem applyWrittenRun_indexStep (h : indexHeld s) : IndexStep s (applyWrittenRun a k n s) := by
  cases hnear : nearestEntry s.tapeMap.index a with
  | none =>
    rw [applyWrittenRun_far hnear]
    exact insertEntry_indexStep _ s
  | some e =>
    rw [applyWrittenRun_near hnear]
    split
    · exact .refl s
    · next hne => exact indexStep_change (replaceEntry_ne_of_mem h.2 (nearestEntry_mem hnear).1 hne)

/-- The index after a frame that begins no run. -/
structure EntryRemoved (a : Afa) (s v : State) : Prop where
  index : v.tapeMap.index = s.tapeMap.index.filter fun e => e.start != a
  cleared : (∃ e ∈ s.tapeMap.index, e.start = a) → v.tapeMap.indexFull = false
  stays : (∀ e ∈ s.tapeMap.index, e.start ≠ a) → v.tapeMap.indexFull = s.tapeMap.indexFull

theorem any_start_iff : (s.tapeMap.index.any fun e => e.start == a) = true ↔ ∃ e ∈ s.tapeMap.index, e.start = a := by
  simp

theorem removeWritten_removed : EntryRemoved a s (removeWritten a s) := by
  unfold removeWritten
  split
  · next hany =>
    obtain ⟨e, he, hstart⟩ := any_start_iff.mp hany
    exact ⟨rfl, fun _ => rfl, fun hnone => absurd hstart (hnone e he)⟩
  · next hnot =>
    refine ⟨(List.filter_eq_self.mpr fun e he => ?_).symm, fun hany => absurd (any_start_iff.mpr hany) hnot, fun _ => rfl⟩
    simpa using fun hstart => hnot (any_start_iff.mpr ⟨e, he, hstart⟩)

theorem removeWritten_indexStep : IndexStep s (removeWritten a s) := by
  unfold removeWritten
  split
  · next hany =>
    obtain ⟨e, he, hstart⟩ := any_start_iff.mp hany
    have hne : (s.tapeMap.index.filter fun e => e.start != a) ≠ s.tapeMap.index := fun hsame => by
      have hkept := List.filter_eq_self.mp hsame e he
      simp [hstart] at hkept
    refine ⟨?_, fun hsame => absurd hsame hne, fun _ q => raiseEvent_port _ _ q⟩
    have hchanged : (indexChange { s with tapeMap := { s.tapeMap with
        index := s.tapeMap.index.filter fun e => e.start != a, indexFull := false } }).tapeMap.index ≠ s.tapeMap.index := hne
    rw [if_neg hchanged]
    rfl
  · exact .refl s

/-- The index after a frame that begins a run. -/
structure RunEntered (new : IndexEntry) (s v : State) : Prop where
  room : (∀ e ∈ s.tapeMap.index, ¬ (e.start ≤ new.start + 2 ∧ new.start ≤ e.start + 2)) →
    s.tapeMap.index.length < 64 →
    v.tapeMap.indexFull = s.tapeMap.indexFull ∧ ∀ e, e ∈ v.tapeMap.index ↔ e = new ∨ e ∈ s.tapeMap.index
  full : (∀ e ∈ s.tapeMap.index, ¬ (e.start ≤ new.start + 2 ∧ new.start ≤ e.start + 2)) →
    s.tapeMap.index.length = 64 → v.tapeMap.index = s.tapeMap.index ∧ v.tapeMap.indexFull = true
  replaced : (∃ e ∈ s.tapeMap.index, e.start ≤ new.start + 2 ∧ new.start ≤ e.start + 2) → new ∈ v.tapeMap.index ∧
    v.tapeMap.index.length = s.tapeMap.index.length ∧
    ∀ e ∈ s.tapeMap.index, ¬ (e.start ≤ new.start + 2 ∧ new.start ≤ e.start + 2) → e ∈ v.tapeMap.index

theorem applyWrittenRun_entered (h : indexHeld s) :
    RunEntered ⟨a, k, n, .written⟩ s (applyWrittenRun a k n s) := by
  cases hnear : nearestEntry s.tapeMap.index a with
  | none =>
    rw [applyWrittenRun_far hnear]
    refine ⟨fun _ hroom => ?_, fun _ hfull => ?_, fun ⟨e, he, hclose⟩ => absurd hclose (nearestEntry_far hnear e he)⟩
    · rw [insertEntry_of_room hroom]
      exact ⟨rfl, fun e => mem_insertOrdered⟩
    · rw [insertEntry_of_full (by omega)]
      exact ⟨rfl, rfl⟩
  | some e =>
    obtain ⟨he, hclose⟩ := nearestEntry_mem hnear
    rw [applyWrittenRun_near hnear]
    refine ⟨fun hfar => absurd hclose (hfar e he), fun hfar => absurd hclose (hfar e he), fun _ => ?_⟩
    split
    · next hsame => exact ⟨hsame ▸ he, rfl, fun o ho _ => ho⟩
    · refine ⟨(mem_replaceEntry h.2 he).mpr (.inl rfl), length_replaceEntry _ _ _, fun o ho hfar => ?_⟩
      refine (mem_replaceEntry h.2 he).mpr (.inr ⟨ho, fun hoe => hfar ?_⟩)
      rw [hoe]
      exact hclose

theorem handWritten_of_no_start {p : ProgramPack} (h : p.marker = none ∨ p.runIndex ≠ 0) :
    handWritten a p s = removeWritten a s := by
  unfold handWritten
  split
  · next k hk => exact if_neg (h.resolve_left (by simp [hk]))
  · rfl

theorem handWritten_of_start {p : ProgramPack} (hk : p.marker = some k) (h : p.runIndex = 0) :
    handWritten a p s = applyWrittenRun a k p.number s := by
  unfold handWritten
  simp only [hk, if_pos h]

theorem handWritten_indexStep (p : ProgramPack) (h : indexHeld s) : IndexStep s (handWritten a p s) := by
  unfold handWritten
  repeat' split
  · exact applyWrittenRun_indexStep h
  · exact removeWritten_indexStep
  · exact removeWritten_indexStep

theorem handWritten_indexHeld (p : ProgramPack) (h : indexHeld s) : indexHeld (handWritten a p s) :=
  have ⟨_, hindex, _⟩ := handWritten_kept a p (PromisesKept.refl s)
  hindex h

/-- What an index step counts and raises. -/
theorem IndexStep.counts (h : IndexStep s v) : (v.tapeMap.index = s.tapeMap.index →
      v.tapeMap.changeCount = s.tapeMap.changeCount) ∧
    (v.tapeMap.index ≠ s.tapeMap.index → v.tapeMap.changeCount = s.tapeMap.changeCount + 1 ∧
      ∀ q, EventSet.has (s.ports.get q).report .indexChanged = true →
        EventSet.has (v.ports.get q).events .indexChanged = true) := by
  have hcount : v.tapeMap.changeCount =
      if v.tapeMap.index = s.tapeMap.index then s.tapeMap.changeCount else s.tapeMap.changeCount + 1 :=
    (congrArg (fun u : State => u.tapeMap.changeCount) h.only).trans rfl
  refine ⟨fun hsame => by rw [hcount, if_pos hsame], fun hne => ⟨by rw [hcount, if_neg hne], fun q hq => ?_⟩⟩
  rw [h.loud hne q]
  exact notice_has _ _ hq

end

/-! ## TRACK_A_SENT and FRAME_WRITE_COMPLETE (R52, R53, R55) -/

section
variable {s : State} {f : BuiltFrame}

/-- Track A sent, before the tape map is handed the frame. -/
def trackACounted (f : BuiltFrame) (s : State) : State :=
  addBaked f.bakedA { s with formatter := { s.formatter with
    sending := if s.formatter.closePoint = some .forced then none else some (f, .b) } }

theorem trackASent_of_sending (h : s.formatter.sending = some (f, .a)) :
    trackASent s = handWritten f.afa f.program (trackACounted f s) := by
  unfold trackASent
  rw [h]
  rfl

theorem writeComplete_of_sending (h : s.formatter.sending = some (f, .b)) : writeComplete s =
    addBaked f.bakedB { s with formatter := { s.formatter with
      sending := none, written := joinWritten s.formatter.written ⟨f.afa, f.frame⟩ } } := by
  unfold writeComplete
  rw [h]

end

/-- Settles O44: TRACK_A_SENT hands the frame to the index (`handWritten_indexStep`), FRAME_WRITE_COMPLETE joins it to the
written list. -/
theorem tracksSent : Obligations.TracksSent := by
  refine ⟨fun s f hsending hheld => ?_, fun s f hsending => ?_⟩
  · have hexec : exec .trackASent s = .next (handWritten f.afa f.program (trackACounted f s)) :=
      congrArg Host.Outcome.next (trackASent_of_sending hsending)
    have honly := handWritten_only f.afa f.program (trackACounted f s)
    have hcu : indexHeld (trackACounted f s) := hheld
    have hstep := handWritten_indexStep (a := f.afa) f.program hcu
    refine ⟨_, hexec, by rw [honly]; rfl, by rw [honly]; rfl, by rw [honly]; rfl, handWritten_indexHeld _ hcu,
      fun hno => ?_, fun k hk hstart => ?_, hstep.counts.1, hstep.counts.2, ?_⟩
    · rw [handWritten_of_no_start hno]
      obtain ⟨hindex, hcleared, hstays⟩ := removeWritten_removed (s := trackACounted f s) (a := f.afa)
      exact ⟨hindex, hcleared, hstays⟩
    · rw [handWritten_of_start hk hstart]
      obtain ⟨hroom, hfull, hreplaced⟩ := applyWrittenRun_entered (a := f.afa) (k := k) (n := f.program.number) hcu
      exact ⟨hroom, hfull, hreplaced⟩
    · have hstate := hstep.only
      generalize handWritten f.afa f.program (trackACounted f s) = t at hstate
      rw [hstate]
      rfl
  · intro baked list counters
    have hjoin : joinWritten s.formatter.written ⟨f.afa, f.frame⟩ = list := rfl
    refine ⟨hjoin ▸ length_joinWritten _ _, congrArg Host.Outcome.next ?_⟩
    rw [writeComplete_of_sending hsending, hjoin]
    rfl

end Sys2Proof.Machine

namespace Sys2Proof.Machine
open Sys2Proof

-- One theorem at a time: the whole text is also compiled as one, where a thread for each theorem in flight asks for more
-- memory than the check allows.
set_option Elab.async false

/-! ## The ways an entry ends in FAULT within a tick (R129, R137) -/

/-- An entry stopped: by a forced close, as a rehearsal without one, or while it is ARMED. -/
inductive StopsAs (s : State) : State → Prop
  | forced (kind : ErrorKind) (d : ErrorDetail) (k : Fin 32) : inWrite s = true → s.seq.held = some k →
      isRehearsal s.editList[k] = false → StopsAs s (failEntry kind d k (cutRequest (forcedCloseRequest s)))
  | rehearsal (kind : ErrorKind) (d : ErrorDetail) (k : Fin 32) : inWrite s = true → s.seq.held = some k →
      isRehearsal s.editList[k] = true → StopsAs s (failEntry kind d k (cutRequest s))
  | armed (kind : ErrorKind) (d : ErrorDetail) (k : Fin 32) : s.seq.state = .armed → StopsAs s (seqStop kind d k s)

/-- Work of the fault monitor and the sequencer within a tick: an entry is stopped at most once. -/
def FaultMoves (s t : State) : Prop :=
  FaultOnly s t ∨ ∃ u v, FaultOnly s u ∧ StopsAs u v ∧ FaultOnly v t

section
variable {s t u : State}

theorem StopsAs.fault (h : StopsAs s t) : t.seq.state = .fault := by
  cases h with
  | forced => rw [failEntry_seq]
  | rehearsal => rw [failEntry_seq]
  | armed => rw [seqStop_seq]

theorem StopsAs.held (h : StopsAs s t) : t.seq.held = none := by
  cases h with
  | forced => rw [failEntry_seq]
  | rehearsal => rw [failEntry_seq]
  | armed => rw [seqStop_seq]

theorem StopsAs.not_fault (h : StopsAs s t) : s.seq.state ≠ .fault := by
  have hwrite : inWrite s = true → s.seq.state ≠ .fault := fun hw hc => by simp [inWrite, hc] at hw
  cases h with
  | forced _ _ _ hw => exact hwrite hw
  | rehearsal _ _ _ hw => exact hwrite hw
  | armed _ _ _ ha => rw [ha]; decide

theorem FaultMoves.trans (h : FaultMoves s t) (g : FaultMoves t u) : FaultMoves s u := by
  rcases h with h | ⟨a, b, ha, hab, hb⟩
  · rcases g with g | ⟨a, b, ha, hab, hb⟩
    · exact .inl (h.trans g)
    · exact .inr ⟨a, b, h.trans ha, hab, hb⟩
  · rcases g with g | ⟨c, d, hc, hcd, -⟩
    · exact .inr ⟨a, b, ha, hab, hb.trans g⟩
    · refine absurd ?_ hcd.not_fault
      rw [hc.seq, hb.seq]
      exact hab.fault

theorem FaultOnly.moves (h : FaultOnly s t) : FaultMoves s t := .inl h

theorem StopsAs.moves (h : StopsAs s t) : FaultMoves s t := .inr ⟨s, t, .refl s, h, .refl t⟩

/-! ### The operations that may stop an entry -/

theorem seqForcedClose_moves (kind : ErrorKind) (d : ErrorDetail) (s : State) :
    FaultMoves s (seqForcedClose kind d s) := by
  unfold seqForcedClose
  cases hheld : s.seq.held with
  | none =>
    rw [heldEntry_eq_none hheld]
    exact .inl (.refl s)
  | some k =>
    rw [heldEntry_of_held hheld]
    simp only
    split
    · next h => exact (StopsAs.forced kind d k h.1 hheld h.2.2).moves
    · exact .inl (.refl s)

theorem seqForcedCloseAll_moves (kind : ErrorKind) (d : ErrorDetail) (s : State) :
    FaultMoves s (seqForcedCloseAll kind d s) := by
  unfold seqForcedCloseAll
  cases hheld : s.seq.held with
  | none =>
    rw [heldEntry_eq_none hheld]
    exact .inl (.refl s)
  | some k =>
    rw [heldEntry_of_held hheld]
    simp only
    split
    · next hw =>
      split
      · next hreh => exact (StopsAs.rehearsal kind d k hw hheld hreh).moves
      · next hreal => exact (StopsAs.forced kind d k hw hheld (by simpa using hreal)).moves
    · exact .inl (.refl s)

theorem applyAction_moves (k : FaultKind) (s : State) : FaultMoves s (applyAction k s) := by
  unfold applyAction
  cases k
  case position =>
    simp only
    split
    · next harmed => exact (StopsAs.armed _ _ _ harmed).moves
    all_goals exact seqForcedClose_moves _ _ s
  case servo | confirm | input => exact seqForcedClose_moves _ _ s
  all_goals exact .inl (.refl s)

theorem evaluate_moves (k : FaultKind) (c : Option FaultDetail) (s : State) : FaultMoves s (evaluate k c s) := by
  have honly := (conditionTo_faultOnly k c s).moves
  unfold evaluate
  simp only
  split
  · exact honly.trans (applyAction_moves k _)
  · exact honly

/-- A window lost at a tick, at which the mode is not reported anew. -/
theorem windowLoss_moves (x : Transport) (s : State) (h : x.mode = s.transport.mode) :
    FaultMoves s (windowLoss x s) := by
  unfold windowLoss
  split
  · next hlost =>
    have hmode : ¬ s.transport.mode ≠ .record := by
      rw [← h]
      simpa using ((writeWindow_iff x).mp hlost.1).1
    rw [if_neg hmode]
    repeat' split
    all_goals exact seqForcedClose_moves _ _ s
  · exact .inl (.refl s)

theorem afterTransport_moves (x : Transport) (s : State) (h : x.mode = s.transport.mode) :
    FaultMoves s (afterTransport x s) := by
  have hrange := verifyRange_faultOnly x s
  refine hrange.moves.trans ((windowLoss_moves x _ ?_).trans (evaluate_moves _ _ _))
  rw [hrange.transport, h]

theorem tickTransport_moves (dir : Direction) (us : Nat) (s : State) :
    FaultMoves (s.withTransport (s.transport.atTick dir us)) (tickTransport dir us s) :=
  afterTransport_moves s.transport (s.withTransport (s.transport.atTick dir us)) rfl

theorem positionReport_moves (d : FaultDetail) (s : State) : FaultMoves s (positionReport d s) := by
  have htag : ∀ tag, FaultOnly s { s with faults := { s.faults with positionTag := tag } } := fun _ => rfl
  unfold positionReport
  split
  · exact .inl (.refl s)
  · exact (htag _).moves.trans (evaluate_moves _ _ _)

/-- The jump counted and raised, before POSITION and the sequencer hear of it. -/
def jumpCounted (s : State) : State :=
  { raiseEvent .positionJump s with faults := { s.faults with counters := { s.faults.counters with
    jumps := s.faults.counters.jumps + 1 } } }

theorem reportJump_eq (s : State) :
    reportJump s = seqJump (positionReport (.positionJump s.tapeMap.pos.afa) (jumpCounted s)) := rfl

theorem reportJump_moves (s : State) : FaultMoves s (reportJump s) := by
  have hcounted : FaultOnly s (jumpCounted s) := rfl
  rw [reportJump_eq]
  exact hcounted.moves.trans ((positionReport_moves _ _).trans (seqForcedCloseAll_moves _ _ _))

theorem rateTally_moves (t : Tally) (s : State) : FaultMoves s (rateTally t s) := by
  have hwindow : ∀ w, FaultOnly s { s with faults := { s.faults with window := w } } := fun _ => rfl
  unfold rateTally
  simp only
  split
  · exact .inl (.refl s)
  · exact (hwindow _).moves.trans (evaluate_moves _ _ _)

theorem clogTally_faultOnly (path : ReadPath) (t : Tally) (s : State) : FaultOnly s (clogTally path t s) := by
  have h := clogTally_only path t s
  unfold ClogOnly at h
  unfold FaultOnly
  generalize clogTally path t s = u at h
  rw [h]

theorem verifyStep_faultOnly (path : ReadPath) (scan : Option Afa) (j : Bool) (t : Tally) (s : State) :
    FaultOnly s (verifyStep path scan j t s) := by
  have h := verifyStep_only path scan j t s
  unfold FaultOnly
  simp only at h
  generalize verifyStep path scan j t s = u at h
  rw [h]

theorem verifyResult_faultOnly (path : ReadPath) (r : TickResult) (scan : Option Afa) (j : Bool) (s : State) :
    FaultOnly s (verifyResult path r scan j s) := by
  unfold verifyResult
  split
  · exact verifyStep_faultOnly _ _ _ _ s
  · exact .refl s
  · exact .refl s

theorem preTally_moves (r : TickResult) (s : State) : FaultMoves s (preTally r s) := by
  unfold preTally
  split
  · exact (evaluate_moves _ _ s).trans ((rateTally_moves _ _).trans (clogTally_faultOnly _ _ _).moves)
  · exact .inl (.refl s)
  · exact .inl (.refl s)

theorem positionTick_faultOnly (s : State) : FaultOnly s (positionTick s) := by
  have htag : ∀ tag, FaultOnly s { s with faults := { s.faults with positionTag := tag } } := fun _ => rfl
  unfold positionTick
  repeat' split
  · exact (htag _).trans (conditionTo_faultOnly _ _ _)
  · exact .refl s
  · exact .refl s

end

end Sys2Proof.Machine

namespace Sys2Proof.Machine
open Sys2Proof

-- One theorem at a time: the whole text is also compiled as one, where a thread for each theorem in flight asks for more
-- memory than the check allows.
set_option Elab.async false

/-! ## What a tick leaves of the write, unless it ends the entry in FAULT -/

/-- The write goes on: the gate, the frames at hand and the sequencer stand, but for its state and last frame position. -/
structure TickGoes (s t : State) : Prop where
  seq : t.seq = { s.seq with state := t.seq.state, lastPosition := t.seq.lastPosition } := by rfl
  still : s.seq.state ≠ .armed → s.seq.state ≠ .recording → t.seq.state = s.seq.state := by exact fun _ _ => rfl
  writes : inWrite s = true → inWrite t = true := by exact id
  armed : t.seq.state = .armed → s.seq.state = .armed := by exact id
  noFault : s.seq.state ≠ .fault → t.seq.state ≠ .fault := by exact id
  editList : t.editList = s.editList := by rfl
  gate : t.formatter.gate = s.formatter.gate := by rfl
  closePoint : t.formatter.closePoint = s.formatter.closePoint := by rfl
  openSpan : t.formatter.openSpan = s.formatter.openSpan := by rfl
  run : t.formatter.run = s.formatter.run := by rfl
  ready : t.formatter.ready = s.formatter.ready := by rfl
  build : t.formatter.build = s.formatter.build := by rfl
  pendingOpen : s.seq.state ≠ .armed → t.formatter.pendingOpen = s.formatter.pendingOpen := by exact fun _ => rfl
  blend : s.seq.state = .fault → (∀ ch, s.blend.get ch = ⟨0, 0, none, none, false⟩) →
    ∀ ch, t.blend.get ch = ⟨0, 0, none, none, false⟩ := by exact fun _ h => h

/-- The entry held before is stopped; one that writes with the gate OPEN, by a forced close. -/
structure TickStops (s t : State) : Prop where
  before : s.seq.state ≠ .fault
  state : t.seq.state = .fault
  shut : writingEntry s = true → s.formatter.gate = .opened → Halted t.seq t
  build : s.formatter.build = none → t.formatter.build = none

/-- A part of a tick: the write goes on or is stopped. -/
def TickMoves (s t : State) : Prop := TickGoes s t ∨ TickStops s t

section
variable {s t u : State}

theorem TickGoes.refl (s : State) : TickGoes s s := {}

theorem TickGoes.held (h : TickGoes s t) : t.seq.held = s.seq.held := by rw [h.seq]

theorem TickGoes.fault (h : TickGoes s t) (hf : s.seq.state = .fault) : t.seq.state = .fault :=
  (h.still (by rw [hf]; decide) (by rw [hf]; decide)).trans hf

theorem TickGoes.not_armed (h : TickGoes s t) (ha : s.seq.state ≠ .armed) : t.seq.state ≠ .armed :=
  fun hc => ha (h.armed hc)

theorem TickGoes.trans (h : TickGoes s t) (g : TickGoes t u) : TickGoes s u where
  seq := by rw [g.seq, h.seq]
  still ha hr := by
    have hst := h.still ha hr
    exact (g.still (by rwa [hst]) (by rwa [hst])).trans hst
  writes hw := g.writes (h.writes hw)
  armed hc := h.armed (g.armed hc)
  noFault hf := g.noFault (h.noFault hf)
  editList := g.editList.trans h.editList
  gate := g.gate.trans h.gate
  closePoint := g.closePoint.trans h.closePoint
  openSpan := g.openSpan.trans h.openSpan
  run := g.run.trans h.run
  ready := g.ready.trans h.ready
  build := g.build.trans h.build
  pendingOpen ha := (g.pendingOpen (h.not_armed ha)).trans (h.pendingOpen ha)
  blend hf hb := g.blend (h.fault hf) (h.blend hf hb)

theorem TickGoes.writingEntry (h : TickGoes s t) (hw : writingEntry s = true) : writingEntry t = true := by
  obtain ⟨hstate, k, hheld, hreal⟩ := (writingEntry_iff s).mp hw
  refine (writingEntry_iff t).mpr ⟨(inWrite_iff t).mp (h.writes ((inWrite_iff s).mpr hstate)), k, h.held.trans hheld, ?_⟩
  rw [h.editList]
  exact hreal

/-- An entry ended by a forced close stays so as a tick goes on. -/
theorem TickGoes.halted (h : TickGoes s t) (hs : Halted s.seq s) : Halted t.seq t where
  seq := rfl
  state := h.fault hs.state
  held := h.held.trans hs.held
  gate := h.gate.trans hs.gate
  closePoint := h.closePoint.trans hs.closePoint
  pendingOpen := (h.pendingOpen (by rw [hs.state]; decide)).trans hs.pendingOpen
  openSpan := h.openSpan.trans hs.openSpan
  build := h.build.trans hs.build
  ready := h.ready.trans hs.ready
  run := h.run.trans hs.run
  blend := h.blend hs.state hs.blend

theorem TickMoves.fault (h : TickMoves s t) (hf : s.seq.state = .fault) : t.seq.state = .fault :=
  h.elim (fun g => g.fault hf) fun g => g.state

theorem TickMoves.goes (h : TickMoves s t) (hf : t.seq.state ≠ .fault) : TickGoes s t :=
  h.resolve_right fun g => hf g.state

theorem TickMoves.build_none (h : TickMoves s t) (hb : s.formatter.build = none) : t.formatter.build = none :=
  h.elim (fun g => g.build.trans hb) fun g => g.build hb

theorem TickMoves.trans (h : TickMoves s t) (g : TickMoves t u) : TickMoves s u := by
  rcases h with h | h
  · refine g.imp h.trans fun g => ⟨fun hf => g.before (h.fault hf), g.state, fun hw hopen => ?_, fun hb => ?_⟩
    · exact g.shut (h.writingEntry hw) (h.gate.trans hopen)
    · exact g.build (h.build.trans hb)
  · refine .inr ⟨h.before, g.fault h.state, fun hw hopen => ?_, fun hb => g.build_none (h.build hb)⟩
    exact (g.resolve_right fun g => g.before h.state).halted (h.shut hw hopen)

/-- An entry that writes with the gate OPEN goes on so, or is ended by a forced close. -/
def WriteOrHalt (s : State) : Prop := (writingEntry s = true ∧ s.formatter.gate = .opened) ∨ Halted s.seq s

theorem TickMoves.writeOrHalt (h : TickMoves s t) (hs : WriteOrHalt s) : WriteOrHalt t := by
  rcases hs with ⟨hw, hopen⟩ | hs
  · exact h.elim (fun g => .inl ⟨g.writingEntry hw, g.gate.trans hopen⟩) fun g => .inr (g.shut hw hopen)
  · exact .inr ((h.resolve_right fun g => g.before hs.state).halted hs)

/-! ### Where the parts of a tick belong -/

theorem FaultOnly.goes (h : FaultOnly s t) : TickGoes s t := by
  rw [h]
  exact {}

theorem forcedCloseRequest_build (hb : s.formatter.build = none) :
    (cutRequest (forcedCloseRequest s)).formatter.build = none := by
  show (forcedCloseRequest s).formatter.build = none
  unfold forcedCloseRequest
  simp only
  repeat' split
  · rfl
  · rfl
  · exact hb

theorem WalkFrame.build (h : WalkFrame s t) : t.formatter.build = s.formatter.build := by rw [h.formatter]

theorem StopsAs.stops (h : StopsAs s t) : TickStops s t := by
  refine ⟨h.not_fault, h.fault, fun hw hopen => ?_, fun hb => ?_⟩
  · have hhalted : ForcedShut t → Halted t.seq t := fun hshut => ⟨hshut, rfl, h.fault, h.held⟩
    obtain ⟨hstate, j, hj, hreal⟩ := (writingEntry_iff s).mp hw
    cases h with
    | forced kind d k _ hheld _ => exact hhalted (forcedFail_forcedShut kind d hheld hopen).1
    | rehearsal kind d k _ hheld hreh =>
      obtain rfl : j = k := Option.some.inj (hj.symm.trans hheld)
      rw [hreal] at hreh
      cases hreh
    | armed _ _ _ ha => rcases hstate with hs | hs <;> cases hs.symm.trans ha
  · cases h with
    | forced kind d k => exact (failEntry_walkFrame kind d k _).build.trans (forcedCloseRequest_build hb)
    | rehearsal kind d k => exact (failEntry_walkFrame kind d k (cutRequest s)).build.trans hb
    | armed kind d k => exact (seqStop_walkFrame kind d k s).build.trans hb

theorem FaultMoves.tick (h : FaultMoves s t) : TickMoves s t := by
  rcases h with h | ⟨a, b, ha, hab, hb⟩
  · exact .inl h.goes
  · exact TickMoves.trans (.inl ha.goes) (TickMoves.trans (.inr hab.stops) (.inl hb.goes))

/-! ### The blocks that change more than the fault monitor -/

theorem decoderTick_goes (path : ReadPath) (r : TickResult) (s : State) : TickGoes s (decoderTick path r s) := by
  cases path <;> cases r <;> exact {}

theorem withPosition_goes (p : PositionRecord) (s : State) : TickGoes s (s.withPosition p) := {}

theorem withTransport_goes (x : Transport) (s : State) : TickGoes s (s.withTransport x) := {}

theorem tapeMapRest_goes (packs : FramePacks) (b : Bool) (fp : Option Afa) (s : State) :
    TickGoes s (tapeMapRest packs b fp s) := by
  rw [tapeMapRest_only packs b fp s]
  exact {}

theorem takeRightsPack_goes (k : Option RightsPack) (s : State) : TickGoes s (takeRightsPack k s) := by
  rw [takeRightsPack_only k s]
  exact {}

theorem keepOldFrame_goes (r : TickResult) (fp : Option Afa) (st : PosState) (s : State) :
    TickGoes s (keepOldFrame r fp st s) := {}

theorem tickRights_goes (s : State) : TickGoes s (tickRights s) := {}

theorem tickClock_goes (s : State) : TickGoes s (tickClock s) := {}

theorem tickBlend_goes (s : State) : TickGoes s (tickBlend s) where
  blend _ hb ch := by
    have htick : BlendChannel.tick ⟨0, 0, none, none, false⟩ = ⟨0, 0, none, none, false⟩ := rfl
    cases ch with
    | left =>
      show s.blend.left.tick = _
      rw [show s.blend.left = ⟨0, 0, none, none, false⟩ from hb .left, htick]
    | right =>
      show s.blend.right.tick = _
      rw [show s.blend.right = ⟨0, 0, none, none, false⟩ from hb .right, htick]

/-! ### A frame position at the sequencer -/

/-- The last frame position kept. -/
def positionKept (fp : Option Afa) (s : State) : State := { s with seq := { s.seq with lastPosition := fp } }

theorem positionKept_goes (fp : Option Afa) (s : State) : TickGoes s (positionKept fp s) := {}

theorem openRequest_formatter (sp : Span) (s : State) : ∃ p, openRequest sp s =
    { s with formatter := { s.formatter with pendingOpen := p } } := by
  unfold openRequest
  split
  · exact ⟨some sp, rfl⟩
  · exact ⟨s.formatter.pendingOpen, rfl⟩

/-- An entry opened: RECORDING, with an open request at most and the fades asked for. -/
theorem openEntry_only (e : EditEntry) (fp : Option Afa) (st : PosState) (o : Nat) (s : State) : ∃ p b,
    openEntry e fp st o s = { s with
      formatter := { s.formatter with pendingOpen := p }, blend := b, seq := { s.seq with state := .recording } } := by
  have hopen : ∃ p, (if isRehearsal e then s else openRequest (spanOf e fp st s) s) =
      { s with formatter := { s.formatter with pendingOpen := p } } := by
    split
    · exact ⟨s.formatter.pendingOpen, rfl⟩
    · exact openRequest_formatter _ s
  obtain ⟨p, hp⟩ := hopen
  unfold openEntry
  simp only [hp]
  split
  · exact ⟨p, _, rfl⟩
  · exact ⟨p, s.blend, rfl⟩

theorem openEntry_goes (e : EditEntry) (fp : Option Afa) (st : PosState) (o : Nat) (ha : s.seq.state = .armed) :
    TickGoes s (openEntry e fp st o s) := by
  obtain ⟨p, b, heq⟩ := openEntry_only e fp st o s
  rw [heq]
  exact {
    still := fun h => absurd ha h
    writes := fun _ => rfl
    armed := fun _ => ha
    noFault := fun _ hc => by cases hc
    pendingOpen := fun h => absurd ha h
    blend := fun hf => by cases hf.symm.trans ha }

theorem inArrival_moves (k : Fin 32) (e : EditEntry) (fp : Option Afa) (st : PosState) (o : Nat)
    (ha : s.seq.state = .armed) : TickMoves s (inArrival k e fp st o s) := by
  unfold inArrival
  repeat' split
  · exact .inl (openEntry_goes e fp st o ha)
  · exact .inr (StopsAs.armed _ _ k ha).stops
  · exact .inl (openEntry_goes e fp st o ha)

theorem armedPosition_moves (fp : Option Afa) (st : PosState) (d : Bool) (ha : s.seq.state = .armed) :
    TickMoves s (armedPosition fp st d s) := by
  unfold armedPosition
  repeat' split
  all_goals first
    | exact .inl (.refl s)
    | exact inArrival_moves _ _ _ _ _ ha
    | exact .inr (StopsAs.armed _ _ _ ha).stops

theorem recordingPosition_goes (fp : Option Afa) (hr : s.seq.state = .recording) :
    TickGoes s (recordingPosition fp s) := by
  have hclosing : ∀ e o, TickGoes s (setSeqState .closing (fadeOutRequest e o s)) := fun e o => {
    still := fun _ h => absurd hr h
    writes := fun _ => rfl
    armed := fun hc => by cases hc
    noFault := fun _ hc => by cases hc
    blend := fun hf => by cases hf.symm.trans hr }
  unfold recordingPosition
  repeat' split
  · exact .refl s
  · exact hclosing _ _
  · exact hclosing _ _
  · exact .refl s
  · exact .refl s

theorem seqFramePosition_moves (fp : Option Afa) (st : PosState) (d : Bool) (s : State) :
    TickMoves s (seqFramePosition fp st d s) := by
  refine TickMoves.trans (.inl (positionKept_goes fp s)) ?_
  show TickMoves (positionKept fp s) (match (positionKept fp s).seq.state with
    | .armed => armedPosition fp st d (positionKept fp s)
    | .recording => recordingPosition fp (positionKept fp s)
    | .idle | .closing | .held | .fault => positionKept fp s)
  split
  · next ha => exact armedPosition_moves _ _ _ ha
  · next hr => exact .inl (recordingPosition_goes _ hr)
  all_goals exact .inl (.refl _)

/-! ### The blocks of a tick from the PRE decoder to the sample clock -/

theorem arrivalMoved_moves (r : TickResult) (s : State) : TickMoves s (arrivalMoved r s) := by
  have hmoved : TickMoves s (s.withPosition (s.tapeMap.pos.handle r.packs.position).1) := .inl (withPosition_goes _ s)
  unfold arrivalMoved
  simp only
  split
  · exact hmoved.trans (reportJump_moves _).tick
  · exact hmoved

theorem beforeRightsPack_moves (r : TickResult) (s : State) : TickMoves s (beforeRightsPack r s) := by
  rw [beforeRightsPack_eq]
  exact (arrivalMoved_moves r s).trans (.inl ((tapeMapRest_goes _ _ _ _).trans (keepOldFrame_goes _ _ _ _)))

theorem afterRightsPack_moves (r : TickResult) (s0 s : State) : TickMoves s (afterRightsPack r s0 s) :=
  (preTally_moves r s).tick.trans
    ((seqFramePosition_moves _ _ _ _).trans (.inl (verifyResult_faultOnly _ _ _ _ _).goes))

theorem preTick_moves (s : State) : TickMoves s (preTick s) := by
  have hdecoder : TickMoves s (decoderTick .pre (decoderResult .pre s) s) := .inl (decoderTick_goes _ _ s)
  unfold preTick
  simp only
  split
  · exact hdecoder.trans (.inl (keepOldFrame_goes _ _ _ _))
  · rw [tapeMapArrival_eq]
    exact hdecoder.trans ((beforeRightsPack_moves _ _).trans
      (TickMoves.trans (.inl (takeRightsPack_goes _ _)) (afterRightsPack_moves _ _ _)))

theorem noteConf_faultOnly (s : State) : FaultOnly s (noteConf s) := by
  unfold noteConf
  split <;> rfl

theorem confirmTally_moves (t : Tally) (s : State) : TickMoves s (confirmTally t s) := by
  have hnote : TickMoves s (noteConf s) := .inl (noteConf_faultOnly s).goes
  have hremoved : ∀ l, TickMoves s { noteConf s with formatter := { (noteConf s).formatter with written := l } } :=
    fun l => hnote.trans (.inl {})
  unfold confirmTally
  simp only
  repeat' split
  · exact hnote
  · exact hremoved _
  · exact (hremoved _).trans (.inl (conditionTo_faultOnly _ _ _).goes)
  · exact (hremoved _).trans (evaluate_moves _ _ _).tick

theorem confUsers_moves (r : TickResult) (s : State) : TickMoves s (confUsers r s) := by
  unfold confUsers
  split
  · exact (confirmTally_moves _ s).trans
      (.inl ((clogTally_faultOnly _ _ _).goes.trans (verifyStep_faultOnly _ _ _ _ _).goes))
  · exact .inl (.refl s)
  · exact .inl (.refl s)

theorem confTick_moves (s : State) : TickMoves s (confTick s) := by
  rw [confTick_eq]
  exact TickMoves.trans (.inl (decoderTick_goes _ _ s)) (confUsers_moves _ _)

theorem tapeMapTick_moves (s : State) : TickMoves s (tapeMapTick s) := by
  have hmoved : TickMoves s { s with tapeMap := { s.tapeMap with
      periodValue := s.tapeMap.pos.afa, pos := (s.tapeMap.pos.tick s.transport.dir).1 } } := .inl {}
  unfold tapeMapTick
  simp only
  refine hmoved.trans ?_
  split
  · exact (positionReport_moves _ _).tick
  · exact .inl (.refl _)

theorem tickBack_moves (s : State) : TickMoves s (tickBack s) :=
  (tapeMapTick_moves s).trans (.inl ((tickBlend_goes _).trans
    ((positionTick_faultOnly _).goes.trans (tickClock_goes _))))

/-- The blocks between the frame just blended and the one that begins. -/
def tickMiddle (s : State) : State := tickBack (confTick (preTick s))

theorem tickMiddle_moves (s : State) : TickMoves s (tickMiddle s) :=
  (preTick_moves s).trans ((confTick_moves _).trans (tickBack_moves _))

/-- A tick up to the frame just blended. -/
theorem tickTransport_tickMoves (dir : Direction) (us : Nat) (s : State) : TickMoves s (tickTransport dir us s) :=
  TickMoves.trans (.inl (withTransport_goes _ s)) (tickTransport_moves dir us s).tick

theorem frameTick_eq_tickMiddle {dir : Direction} {us : Nat} (hb : beforeTick s = s) : frameTick dir us s =
    startSending (buildStart (tickMiddle (buildAtTick (tickRights (tickTransport dir us s))))) :=
  frameTick_of_settled dir us hb

end

end Sys2Proof.Machine

namespace Sys2Proof.Machine
open Sys2Proof

-- One theorem at a time: the whole text is also compiled as one, where a thread for each theorem in flight asks for more
-- memory than the check allows.
set_option Elab.async false

/-! ## A kind evaluated: quiet, or with a forced close (R159, R162) -/

section
variable {k : FaultKind} {s t : State} {c : Option FaultDetail} {j : Fin 32}

theorem evaluate_of_not_raised (h : raisedWithAction k s (conditionTo k c s) = false) :
    evaluate k c s = conditionTo k c s := if_neg (by simp [h])

theorem evaluate_of_no_action (h : applyAction k (conditionTo k c s) = conditionTo k c s) :
    evaluate k c s = conditionTo k c s := by
  unfold evaluate
  simp only [h, ite_self]

theorem conditionTo_of_present (d : FaultDetail) (h : (s.faults.records.get k).present = true) :
    conditionTo k (some d) s = s := if_pos (.inr h)

/-- A condition that holds already is no news. -/
theorem evaluate_of_present (d : FaultDetail) (h : (s.faults.records.get k).present = true) :
    evaluate k (some d) s = s := by
  rw [evaluate_of_not_raised (not_raisedWithAction_condition _ (.inr (.inl h))), conditionTo_of_present d h]

theorem evaluate_raises (hc : c.isSome = true) (hgone : (s.faults.records.get k).present = false)
    (hon : (s.faults.records.get k).mode ≠ .off) (q : Port)
    (hq : EventSet.has (s.ports.get q).report .faultRaised = true) :
    EventSet.has ((evaluate k c s).ports.get q).events .faultRaised = true := by
  have hraised := conditionTo_raises k c s hc hgone hon q hq
  unfold evaluate
  simp only
  split
  · exact ((applyAction_seqFrame _ _).ports q).grows _ hraised
  · exact hraised

/-- A kind whose action is a forced close, new in a mode with an action. -/
theorem evaluate_forces {d : FaultDetail} {kind : ErrorKind}
    (haction : ∀ u, applyAction k u = seqForcedClose kind .absent u) (hw : writingEntry s = true)
    (hheld : s.seq.held = some j) (hplay : gateInPlay s = true) (hgone : (s.faults.records.get k).present = false)
    (hmode : (s.faults.records.get k).mode = .latched ∨ (s.faults.records.get k).mode = .auto) :
    evaluate k (some d) s = failEntry kind .absent j (cutRequest (forcedCloseRequest (conditionTo k (some d) s))) := by
  have honly := conditionTo_faultOnly k (some d) s
  unfold evaluate
  simp only [raisedWithAction_condition d hgone hmode, if_true]
  rw [haction]
  refine seqForcedClose_writing ((writingEntry_of_faultOnly honly).trans hw) (by rw [honly.seq]; exact hheld) ?_ _ _
  unfold gateInPlay at hplay ⊢
  rwa [honly.formatter]

end

/-! ## CONFIRM fails (R162) -/

section
variable {s : State} {k : Fin 32} {c : ConfirmCause} {a : Afa}

theorem confirmFailed_record (c : ConfirmCause) (a : Afa) (s : State) : (confirmFailed c a s).faults.records.confirm =
    s.faults.records.confirm.under (some (.confirm c a)) (knownAfa s) := evaluate_get (k := .confirm) (by decide) _ s

/-- CONFIRM in WARN, or with no entry that writes, ends nothing. -/
theorem confirmFailed_quiet (h : s.faults.records.confirm.mode = .warn ∨ writingEntry s = false) :
    confirmFailed c a s = conditionTo .confirm (some (.confirm c a)) s := by
  rcases h with hwarn | hnot
  · exact evaluate_of_not_raised (not_raisedWithAction_condition _ (.inr (.inr (.inl hwarn))))
  · have honly := conditionTo_faultOnly .confirm (some (.confirm c a)) s
    exact evaluate_of_no_action (seqForcedClose_of_not_writing ((writingEntry_of_faultOnly honly).trans hnot) _ _)

theorem confirmFailed_forces (hw : writingEntry s = true) (hheld : s.seq.held = some k)
    (hopen : s.formatter.gate = .opened) (hgone : s.faults.records.confirm.present = false)
    (hmode : s.faults.records.confirm.mode = .latched ∨ s.faults.records.confirm.mode = .auto) :
    ForcedShut (confirmFailed c a s) ∧
      (confirmFailed c a s).seq = s.seq.failed k ⟨.write, .run, k + 1, .absent, knownAfa s⟩ := by
  have honly := conditionTo_faultOnly .confirm (some (.confirm c a)) s
  have heq : confirmFailed c a s = failEntry .write .absent k
      (cutRequest (forcedCloseRequest (conditionTo .confirm (some (.confirm c a)) s))) :=
    evaluate_forces (k := .confirm) (fun _ => rfl) hw hheld (by simp [gateInPlay, hopen]) hgone hmode
  have hafa : knownAfa (conditionTo .confirm (some (.confirm c a)) s) = knownAfa s := by
    unfold knownAfa
    rw [honly.tapeMap]
  have hshut := forcedFail_forcedShut (s := conditionTo .confirm (some (.confirm c a)) s) .write .absent (k := k)
    (by rw [honly.seq]; exact hheld) (by rw [honly.formatter]; exact hopen)
  rw [heq, forcedFail_seq (by decide), honly.seq, hafa]
  exact ⟨hshut.1, rfl⟩

end

/-! ## The written list as its entries time out (R53) -/

/-- The entries named taken out of a list, one by one. -/
def takenOut (l due : List WrittenFrame) : List WrittenFrame := due.foldl (fun l w => removeEntry w l) l

theorem takenOut_cons_of_other {x : WrittenFrame} {due : List WrittenFrame} (h : ∀ w ∈ due, w ≠ x) (l : List WrittenFrame) :
    takenOut (x :: l) due = x :: takenOut l due := by
  induction due generalizing l with
  | nil => rfl
  | cons w due ih =>
    have hne : x ≠ w := fun hx => h w (List.mem_cons_self ..) hx.symm
    have hskip : removeEntry w (x :: l) = x :: removeEntry w l := List.erase_cons_tail (by simpa using hne)
    show takenOut (removeEntry w (x :: l)) due = x :: takenOut (removeEntry w l) due
    rw [hskip]
    exact ih (fun v hv => h v (List.mem_cons_of_mem _ hv)) _

theorem takenOut_filter (p : WrittenFrame → Bool) (l : List WrittenFrame) :
    takenOut l (l.filter p) = l.filter fun w => !p w := by
  induction l with
  | nil => rfl
  | cons x l ih =>
    cases hx : p x with
    | true =>
      rw [List.filter_cons_of_pos hx, List.filter_cons_of_neg (by simp [hx])]
      show takenOut (removeEntry x (x :: l)) _ = _
      rw [show removeEntry x (x :: l) = l from List.erase_cons_head ..]
      exact ih
    | false =>
      rw [List.filter_cons_of_neg (by simp [hx]), List.filter_cons_of_pos (by simp [hx]), ← ih]
      refine takenOut_cons_of_other (fun w hw heq => ?_) l
      have hp := (List.mem_filter.mp hw).2
      rw [heq, hx] at hp
      cases hp

section
variable {s t : State} {w : WrittenFrame}

/-- The written list and the list handed to the fault monitor replaced. -/
def withLists (written handed : List WrittenFrame) (s : State) : State :=
  { s with formatter := { s.formatter with written := written }, faults := { s.faults with handed := handed } }

/-- Whether an entry's CONF tally has been taken by the last tick noted. -/
def notRead (s : State) (w : WrittenFrame) : Bool := s.faults.lastConf == some (w.frame + 4)

theorem withLists_self (s : State) : withLists s.formatter.written s.faults.handed s = s := rfl

theorem timeoutEntry_off (h : s.faults.records.confirm.mode = .off) (w : WrittenFrame) :
    timeoutEntry w s = withLists (removeEntry w s.formatter.written) s.faults.handed s := if_pos h

/-- An entry that raises nothing: it is handed on, or CONFIRM holds already. -/
theorem timeoutEntry_quiet (hon : s.faults.records.confirm.mode ≠ .off)
    (h : notRead s w = false ∨ s.faults.records.confirm.present = true) :
    timeoutEntry w s = withLists (removeEntry w s.formatter.written)
      (s.faults.handed ++ [w].filter fun w => !notRead s w) s := by
  cases hread : notRead s w with
  | false =>
    have hne : ¬ s.faults.lastConf = some (w.frame + 4) := by simpa [notRead] using hread
    refine (if_neg hon).trans ((if_neg hne).trans ?_)
    simp [hread, withLists]
  | true =>
    have heq : s.faults.lastConf = some (w.frame + 4) := by simpa [notRead] using hread
    have hpresent := h.resolve_left (by simp [hread])
    have hsame : confirmFailed .notRead w.afa (withLists (removeEntry w s.formatter.written) s.faults.handed s) =
        withLists (removeEntry w s.formatter.written) s.faults.handed s := evaluate_of_present _ hpresent
    refine (if_neg hon).trans ((if_pos heq).trans (hsame.trans ?_))
    simp [hread]

theorem timeoutEntry_fails (hon : s.faults.records.confirm.mode ≠ .off) (h : notRead s w = true) :
    timeoutEntry w s =
      confirmFailed .notRead w.afa (withLists (removeEntry w s.formatter.written) s.faults.handed s) := by
  have heq : s.faults.lastConf = some (w.frame + 4) := by simpa [notRead] using h
  exact (if_neg hon).trans (if_pos heq)

theorem timeoutFold_off (due : List WrittenFrame) : ∀ s : State, s.faults.records.confirm.mode = .off →
    due.foldl (fun s w => timeoutEntry w s) s = withLists (takenOut s.formatter.written due) s.faults.handed s := by
  induction due with
  | nil => exact fun _ _ => rfl
  | cons w due ih =>
    intro s h
    rw [List.foldl_cons, timeoutEntry_off h, ih (withLists (removeEntry w s.formatter.written) s.faults.handed s) h]
    rfl

theorem timeoutFold_quiet (due : List WrittenFrame) : ∀ s : State, s.faults.records.confirm.mode ≠ .off →
    ((∀ w ∈ due, notRead s w = false) ∨ s.faults.records.confirm.present = true) →
    due.foldl (fun s w => timeoutEntry w s) s =
      withLists (takenOut s.formatter.written due) (s.faults.handed ++ due.filter fun w => !notRead s w) s := by
  induction due with
  | nil => exact fun s _ _ => by simp [takenOut, withLists_self]
  | cons w due ih =>
    intro s hon h
    rw [List.foldl_cons, timeoutEntry_quiet hon (h.imp_left fun hall => hall w (List.mem_cons_self ..)),
      ih (withLists (removeEntry w s.formatter.written) (s.faults.handed ++ [w].filter fun w => !notRead s w) s) hon
        (h.imp_left fun hall v hv => hall v (List.mem_cons_of_mem _ hv))]
    have hfilter : (w :: due).filter (fun w => !notRead s w) =
        [w].filter (fun w => !notRead s w) ++ due.filter fun w => !notRead s w := List.filter_append [w] due
    rw [hfilter, ← List.append_assoc]
    rfl

theorem writtenTimeout_eq (s : State) :
    writtenTimeout s = (s.formatter.written.filter (overdue s)).foldl (fun s w => timeoutEntry w s) s := rfl

theorem takenOut_due (s : State) : takenOut s.formatter.written (s.formatter.written.filter (overdue s)) =
    s.formatter.written.filter fun w => !overdue s w := takenOut_filter _ _

/-- The entries before the first that fails, the failure, and those after it. -/
theorem writtenTimeout_fails {early late : List WrittenFrame} (hon : s.faults.records.confirm.mode ≠ .off)
    (hdue : s.formatter.written.filter (overdue s) = early ++ w :: late) (hearly : ∀ v ∈ early, notRead s v = false)
    (hw : notRead s w = true) :
    ∃ x, x = confirmFailed .notRead w.afa
        (withLists (removeEntry w (takenOut s.formatter.written early)) (s.faults.handed ++ early) s) ∧
      writtenTimeout s = withLists (s.formatter.written.filter fun w => !overdue s w)
        (s.faults.handed ++ (s.formatter.written.filter (overdue s)).filter fun w => !notRead s w) x := by
  refine ⟨_, rfl, ?_⟩
  have hallEarly : early.filter (fun w => !notRead s w) = early :=
    List.filter_eq_self.mpr fun v hv => by simp [hearly v hv]
  have hkept := takenOut_due s
  rw [writtenTimeout_eq, hdue, List.foldl_append, timeoutFold_quiet early s hon (.inl hearly), hallEarly, List.foldl_cons,
    timeoutEntry_fails (s := withLists (takenOut s.formatter.written early) (s.faults.handed ++ early) s) hon hw]
  rw [hdue] at hkept
  have hrecord := confirmFailed_record .notRead w.afa
    (withLists (removeEntry w (takenOut s.formatter.written early)) (s.faults.handed ++ early) s)
  have hframe := confirmFailed_seqFrame .notRead w.afa
    (withLists (removeEntry w (takenOut s.formatter.written early)) (s.faults.handed ++ early) s)
  show late.foldl _ (confirmFailed .notRead w.afa
    (withLists (removeEntry w (takenOut s.formatter.written early)) (s.faults.handed ++ early) s)) = _
  generalize confirmFailed .notRead w.afa
    (withLists (removeEntry w (takenOut s.formatter.written early)) (s.faults.handed ++ early) s) = x at hrecord hframe
  have hmode : x.faults.records.confirm.mode ≠ .off := by
    rw [hrecord, FaultRecord.under_mode]
    exact hon
  have hpresent : x.faults.records.confirm.present = true := by
    rw [hrecord]
    unfold FaultRecord.under
    simp only
    split
    · next h => exact h.resolve_right hon
    · rfl
  have hread : ∀ v, notRead x v = notRead s v := fun v => by
    unfold notRead
    rw [hframe.lastConf]
    rfl
  rw [timeoutFold_quiet late x hmode (.inr hpresent), hframe.written, hframe.handed]
  simp only [hread]
  have hwritten : takenOut (removeEntry w (takenOut s.formatter.written early)) late =
      s.formatter.written.filter fun w => !overdue s w := by
    rw [← hkept]
    unfold takenOut
    rw [List.foldl_append]
    rfl
  have hhanded : s.faults.handed ++ early ++ late.filter (fun v => !notRead s v) =
      s.faults.handed ++ (early ++ w :: late).filter fun v => !notRead s v := by
    rw [List.filter_append, hallEarly, List.filter_cons_of_neg (by simp [hw]), List.append_assoc]
  rw [← hwritten, ← hhanded]
  rfl

end

end Sys2Proof.Machine

namespace Sys2Proof.Machine
open Sys2Proof

-- One theorem at a time: the whole text is also compiled as one, where a thread for each theorem in flight asks for more
-- memory than the check allows.
set_option Elab.async false

/-! ## CONFIRM and the written list through the blocks of a tick that leave them alone -/

structure ConfHold (s t : State) : Prop where
  written : t.formatter.written = s.formatter.written := by rfl
  record : t.faults.records.confirm = s.faults.records.confirm := by rfl
  lastConf : t.faults.lastConf = s.faults.lastConf := by rfl

section
variable {s t u : State}

theorem ConfHold.refl (s : State) : ConfHold s s := {}

theorem ConfHold.trans (h : ConfHold s t) (g : ConfHold t u) : ConfHold s u :=
  ⟨g.written.trans h.written, g.record.trans h.record, g.lastConf.trans h.lastConf⟩

theorem SeqFrame.confHold {k : FaultKind} (h : SeqFrame s t) (r : RecFrame k s t) (hk : FaultKind.confirm ≠ k) :
    ConfHold s t := ⟨h.written, r.get .confirm hk (by decide), h.lastConf⟩

theorem evaluate_confHold {k : FaultKind} (hk : FaultKind.confirm ≠ k) (c : Option FaultDetail) (s : State) :
    ConfHold s (evaluate k c s) := (evaluate_seqFrame k c s).confHold (evaluate_recFrame k c s) hk

theorem tickTransport_confHold (dir : Direction) (us : Nat) (s : State) : ConfHold s (tickTransport dir us s) := by
  have hmoved : ConfHold s (s.withTransport (s.transport.atTick dir us)) := {}
  have hrange : ∀ u, ConfHold u (verifyRange s.transport u) := fun u => by
    unfold verifyRange
    simp only
    split <;> exact {}
  exact hmoved.trans ((hrange _).trans (((windowLoss_seqFrame _ _).confHold (windowLoss_recFrame _ _) (by decide)).trans
    (evaluate_confHold (by decide) _ _)))

theorem buildAtTick_confHold (s : State) : ConfHold s (buildAtTick s) := by
  unfold buildAtTick
  split <;> exact {}

theorem decoderTick_confHold (path : ReadPath) (r : TickResult) (s : State) : ConfHold s (decoderTick path r s) := by
  cases path <;> cases r <;> exact {}

theorem positionReport_confHold (d : FaultDetail) (s : State) : ConfHold s (positionReport d s) := by
  have htag : ∀ tag, ConfHold s { s with faults := { s.faults with positionTag := tag } } := fun _ => {}
  unfold positionReport
  split
  · exact .refl s
  · exact (htag _).trans (evaluate_confHold (by decide) _ _)

theorem reportJump_confHold (s : State) : ConfHold s (reportJump s) := by
  have hcounted : ConfHold s (jumpCounted s) := {}
  rw [reportJump_eq]
  exact hcounted.trans ((positionReport_confHold _ _).trans
    ((seqForcedCloseAll_seqFrame _ _ _).confHold (seqForcedCloseAll_recFrame _ _ _) (by decide)))

theorem arrivalMoved_confHold (r : TickResult) (s : State) : ConfHold s (arrivalMoved r s) := by
  have hmoved : ∀ p, ConfHold s (s.withPosition p) := fun _ => {}
  unfold arrivalMoved
  simp only
  split
  · exact (hmoved _).trans (reportJump_confHold _)
  · exact hmoved _

theorem tapeMapRest_confHold (packs : FramePacks) (b : Bool) (fp : Option Afa) (s : State) :
    ConfHold s (tapeMapRest packs b fp s) := by
  rw [tapeMapRest_only packs b fp s]
  exact {}

theorem beforeRightsPack_confHold (r : TickResult) (s : State) : ConfHold s (beforeRightsPack r s) := by
  have hkept : ∀ u fp st, ConfHold u (keepOldFrame r fp st u) := fun _ _ _ => {}
  rw [beforeRightsPack_eq]
  exact (arrivalMoved_confHold r s).trans ((tapeMapRest_confHold _ _ _ _).trans (hkept _ _ _))

theorem takeRightsPack_confHold (k : Option RightsPack) (s : State) : ConfHold s (takeRightsPack k s) := by
  rw [takeRightsPack_only k s]
  exact {}

theorem clogTally_confHold (path : ReadPath) (t : Tally) (s : State) : ConfHold s (clogTally path t s) := by
  rw [clogTally_only path t s]
  exact {}

theorem verifyStep_confHold (path : ReadPath) (scan : Option Afa) (j : Bool) (t : Tally) (s : State) :
    ConfHold s (verifyStep path scan j t s) := by
  rw [verifyStep_only path scan j t s]
  exact {}

theorem rateTally_confHold (t : Tally) (s : State) : ConfHold s (rateTally t s) := by
  have hwindow : ∀ w, ConfHold s { s with faults := { s.faults with window := w } } := fun _ => {}
  unfold rateTally
  simp only
  split
  · exact .refl s
  · exact (hwindow _).trans (evaluate_confHold (by decide) _ _)

theorem preTally_confHold (r : TickResult) (s : State) : ConfHold s (preTally r s) := by
  unfold preTally
  split
  · exact (evaluate_confHold (by decide) _ s).trans ((rateTally_confHold _ _).trans (clogTally_confHold _ _ _))
  · exact .refl s
  · exact .refl s

theorem seqFramePosition_confHold (fp : Option Afa) (st : PosState) (d : Bool) (s : State) :
    ConfHold s (seqFramePosition fp st d s) := by
  have hkept : ConfHold s (positionKept fp s) := {}
  refine hkept.trans ?_
  show ConfHold (positionKept fp s) (match (positionKept fp s).seq.state with
    | .armed => armedPosition fp st d (positionKept fp s)
    | .recording => recordingPosition fp (positionKept fp s)
    | .idle | .closing | .held | .fault => positionKept fp s)
  split
  · exact (armedPosition_seqFrame _ _ _ _).confHold (armedPosition_recFrame _ _ _ _) (by decide)
  · exact (recordingPosition_seqFrame _ _).confHold (recordingPosition_recFrame _ _) (by decide)
  all_goals exact .refl _

theorem verifyResult_confHold (path : ReadPath) (r : TickResult) (scan : Option Afa) (j : Bool) (s : State) :
    ConfHold s (verifyResult path r scan j s) := by
  unfold verifyResult
  split
  · exact verifyStep_confHold _ _ _ _ s
  · exact .refl s
  · exact .refl s

theorem preTick_confHold (s : State) : ConfHold s (preTick s) := by
  have hdecoder := decoderTick_confHold .pre (decoderResult .pre s) s
  have hkept : ∀ u fp st, ConfHold u (keepOldFrame (decoderResult .pre s) fp st u) := fun _ _ _ => {}
  unfold preTick
  simp only
  split
  · exact hdecoder.trans (hkept _ _ _)
  · rw [tapeMapArrival_eq]
    exact hdecoder.trans ((beforeRightsPack_confHold _ _).trans ((takeRightsPack_confHold _ _).trans
      ((preTally_confHold _ _).trans ((seqFramePosition_confHold _ _ _ _).trans (verifyResult_confHold _ _ _ _ _)))))

theorem tickBack_confHold (s : State) : ConfHold s (tickBack s) := by
  have hmap : ∀ u, ConfHold u (tapeMapTick u) := fun u => by
    have hmoved : ConfHold u { u with tapeMap := { u.tapeMap with
        periodValue := u.tapeMap.pos.afa, pos := (u.tapeMap.pos.tick u.transport.dir).1 } } := {}
    unfold tapeMapTick
    simp only
    refine hmoved.trans ?_
    split
    · exact positionReport_confHold _ _
    · exact .refl _
  have hblend : ∀ u, ConfHold u (tickBlend u) := fun _ => {}
  have hposition : ∀ u, ConfHold u (positionTick u) := fun u => by
    have htag : ∀ tag, ConfHold u { u with faults := { u.faults with positionTag := tag } } := fun _ => {}
    unfold positionTick
    repeat' split
    · exact (htag _).trans ((conditionTo_seqFrame _ _ _).confHold (conditionTo_recFrame _ _ _) (by decide))
    · exact .refl u
    · exact .refl u
  have hclock : ∀ u, ConfHold u (tickClock u) := fun _ => {}
  exact (hmap s).trans ((hblend _).trans ((hposition _).trans (hclock _)))

theorem buildStop_confHold (sp : Span) (kind : ErrorKind) (d : ErrorDetail) (s : State) :
    ConfHold s (buildStop sp kind d s) := by
  have hdiscarded : ∀ p c b r, ConfHold s { s with formatter := { s.formatter with
      pendingOpen := p, closePoint := c, build := b, run := r } } := fun _ _ _ _ => {}
  unfold buildStop
  split
  · exact (hdiscarded _ _ _ _).trans ((seqRefused_seqFrame _ _ _).confHold (seqRefused_recFrame _ _ _) (by decide))
  · have hclose : ConfHold s (closeRequest (writtenFrame s) s) :=
      ⟨(closeRequest_seqFrame _ s).written, by rw [closeRequest_faults], by rw [closeRequest_faults]⟩
    refine hclose.trans ?_
    exact (seqLaterStop_seqFrame _ _ _).confHold (seqLaterStop_recFrame _ _ _) (by decide)

theorem noteBuilt_written (f : FrameNo) (sp : Span) (m : Formatter) : (noteBuilt f sp m).written = m.written := by
  obtain ⟨p, o, h⟩ := noteBuilt_settings f sp m
  rw [h]

theorem buildStart_confHold (s : State) : ConfHold s (buildStart s) := by
  unfold buildStart
  simp only
  repeat' split
  · exact .refl s
  · exact buildStop_confHold _ _ _ s
  · exact buildStop_confHold _ _ _ s
  · exact ⟨noteBuilt_written _ _ _, rfl, rfl⟩

theorem startSending_confHold (s : State) : ConfHold s (startSending s) := by
  unfold startSending
  simp only
  split <;> exact {}

end

end Sys2Proof.Machine

namespace Sys2Proof.Machine
open Sys2Proof

-- One theorem at a time: the whole text is also compiled as one, where a thread for each theorem in flight asks for more
-- memory than the check allows.
set_option Elab.async false

/-! ## The CONFIRM check of a CONF tally (R162) -/

section
variable {s t : State} {k : Tally} {w : WrittenFrame}

theorem checkOutcome_leftOut (h : k.headA.overridden = true ∧ k.headB.overridden = true) : checkOutcome k = none :=
  if_pos h

/-- A check that is not left out fails by an uncorrectable column of a track not overridden. -/
theorem checkOutcome_checked (h : ¬ (k.headA.overridden = true ∧ k.headB.overridden = true)) :
    checkOutcome k = some (decide ¬ ((k.headA.overridden = false ∧ k.uncorrA ≠ 0) ∨
      (k.headB.overridden = false ∧ k.uncorrB ≠ 0))) := by
  refine (if_neg h).trans (congrArg some ?_)
  rw [Bool.eq_iff_iff]
  cases k.headA.overridden <;> cases k.headB.overridden <;> simp

/-- The tick of the tally noted, and the matched entry taken out. -/
def confirmTaken (w : WrittenFrame) (s : State) : State :=
  { noteConf s with formatter := { (noteConf s).formatter with written := removeEntry w s.formatter.written } }

theorem noteConf_formatter (s : State) : (noteConf s).formatter = s.formatter := (noteConf_faultOnly s).formatter

theorem confirmTally_unmatched (h : matchedEntry k s = none) : confirmTally k s = noteConf s := by
  unfold confirmTally
  simp only [h]

theorem confirmTally_matched (h : matchedEntry k s = some w) : confirmTally k s =
    match checkOutcome k with
    | none => confirmTaken w s
    | some true => conditionTo .confirm none (confirmTaken w s)
    | some false => confirmFailed .columns w.afa (confirmTaken w s) := by
  unfold confirmTally confirmTaken
  rcases checkOutcome k with _ | _ | _ <;> simp only [h, noteConf_formatter]

theorem noteConf_lastConf (s : State) : (noteConf s).faults.lastConf =
    if s.faults.records.confirm.mode = .off then s.faults.lastConf else some s.transport.tick := by
  unfold noteConf
  split <;> rfl

theorem noteConf_records (s : State) : (noteConf s).faults.records = s.faults.records := by
  unfold noteConf
  split <;> rfl

theorem noteConf_knownAfa (s : State) : knownAfa (noteConf s) = knownAfa s := by
  unfold knownAfa
  rw [(noteConf_faultOnly s).tapeMap]

theorem confirmTally_lastConf (k : Tally) (s : State) : (confirmTally k s).faults.lastConf =
    if s.faults.records.confirm.mode = .off then s.faults.lastConf else some s.transport.tick := by
  rw [← noteConf_lastConf]
  cases h : matchedEntry k s with
  | none => rw [confirmTally_unmatched h]
  | some w =>
    rw [confirmTally_matched h]
    split
    · rfl
    · exact (conditionTo_seqFrame _ _ _).lastConf
    · exact (confirmFailed_seqFrame _ _ _).lastConf

theorem confirmTally_tapeMap (k : Tally) (s : State) : (confirmTally k s).tapeMap = s.tapeMap := by
  have hnote := (noteConf_faultOnly s).tapeMap
  cases h : matchedEntry k s with
  | none => rw [confirmTally_unmatched h, hnote]
  | some w =>
    rw [confirmTally_matched h]
    split
    · exact hnote
    · exact (conditionTo_seqFrame _ _ _).tapeMap.trans hnote
    · exact (confirmFailed_seqFrame _ _ _).tapeMap.trans hnote

/-- A matched entry leaves the list and is checked. -/
structure ConfirmChecked (k : Tally) (w : WrittenFrame) (s t : State) : Prop where
  written : t.formatter.written = removeEntry w s.formatter.written
  leftOut : k.headA.overridden = true ∧ k.headB.overridden = true →
    t.faults.records.confirm = s.faults.records.confirm
  columns : ¬ (k.headA.overridden = true ∧ k.headB.overridden = true) →
    ((k.headA.overridden = false ∧ k.uncorrA ≠ 0) ∨ (k.headB.overridden = false ∧ k.uncorrB ≠ 0)) →
    t.faults.records.confirm = s.faults.records.confirm.under (some (.confirm .columns w.afa)) (knownAfa s)
  clean : ¬ (k.headA.overridden = true ∧ k.headB.overridden = true) →
    ¬ ((k.headA.overridden = false ∧ k.uncorrA ≠ 0) ∨ (k.headB.overridden = false ∧ k.uncorrB ≠ 0)) →
    t.faults.records.confirm = s.faults.records.confirm.under none (knownAfa s)

theorem confirmTaken_knownAfa (w : WrittenFrame) (s : State) : knownAfa (confirmTaken w s) = knownAfa s :=
  noteConf_knownAfa s

theorem confirmTaken_record (w : WrittenFrame) (s : State) :
    (confirmTaken w s).faults.records = s.faults.records := noteConf_records s

theorem confirmTally_failing (h : matchedEntry k s = some w)
    (hchecked : ¬ (k.headA.overridden = true ∧ k.headB.overridden = true))
    (hbad : (k.headA.overridden = false ∧ k.uncorrA ≠ 0) ∨ (k.headB.overridden = false ∧ k.uncorrB ≠ 0)) :
    confirmTally k s = confirmFailed .columns w.afa (confirmTaken w s) := by
  rw [confirmTally_matched h, checkOutcome_checked hchecked, decide_eq_false (not_not_intro hbad)]

theorem confirmTally_clean (h : matchedEntry k s = some w)
    (hchecked : ¬ (k.headA.overridden = true ∧ k.headB.overridden = true))
    (hgood : ¬ ((k.headA.overridden = false ∧ k.uncorrA ≠ 0) ∨ (k.headB.overridden = false ∧ k.uncorrB ≠ 0))) :
    confirmTally k s = conditionTo .confirm none (confirmTaken w s) := by
  rw [confirmTally_matched h, checkOutcome_checked hchecked, decide_eq_true hgood]

theorem confirmTally_checked (h : matchedEntry k s = some w) : ConfirmChecked k w s (confirmTally k s) := by
  refine ⟨?_, fun hleft => ?_, fun hchecked hbad => ?_, fun hchecked hgood => ?_⟩
  · rw [confirmTally_matched h]
    split
    · rfl
    · exact (conditionTo_seqFrame _ _ _).written
    · exact (confirmFailed_seqFrame _ _ _).written
  · rw [confirmTally_matched h, checkOutcome_leftOut hleft]
    exact congrArg FaultRecords.confirm (confirmTaken_record w s)
  · rw [confirmTally_failing h hchecked hbad, confirmFailed_record, confirmTaken_record, confirmTaken_knownAfa]
  · rw [confirmTally_clean h hchecked hgood]
    refine (conditionTo_get (k := .confirm) none (confirmTaken w s)).trans ?_
    rw [confirmTaken_record, confirmTaken_knownAfa]
    rfl

theorem matchedEntry_of_first {older newer : List WrittenFrame} (hlist : s.formatter.written = older ++ w :: newer)
    (holder : ∀ v ∈ older, matchesIdentity k.identity v = false) (hw : matchesIdentity k.identity w = true) :
    matchedEntry k s = some w ∧ removeEntry w s.formatter.written = older ++ newer := by
  have hnot : w ∉ older := fun hmem => by
    rw [holder w hmem] at hw
    cases hw
  refine ⟨?_, ?_⟩
  · unfold matchedEntry
    rw [hlist, List.find?_append, List.find?_eq_none.mpr (fun v hv => by simp [holder v hv])]
    simp [hw]
  · unfold removeEntry
    rw [hlist, List.erase_append_right _ hnot, List.erase_cons_head]

theorem matchedEntry_eq_none (h : ∀ v ∈ s.formatter.written, matchesIdentity k.identity v = false) :
    matchedEntry k s = none := List.find?_eq_none.mpr fun v hv => by simp [h v hv]

end

/-! ## CONFIRM in a whole tick -/

section
variable {s t : State} {dir : Direction} {us : Nat}

theorem atConfDecoder_eq (hb : beforeTick s = s) :
    atConfDecoder dir us s = preTick (buildAtTick (tickRights (tickTransport dir us s))) := by
  unfold atConfDecoder atPreDecoder tickFront
  rw [hb]

theorem atConfDecoder_confHold (hb : beforeTick s = s) : ConfHold s (atConfDecoder dir us s) := by
  have hrights : ∀ u, ConfHold u (tickRights u) := fun _ => {}
  rw [atConfDecoder_eq hb]
  exact (tickTransport_confHold dir us s).trans ((hrights _).trans ((buildAtTick_confHold _).trans (preTick_confHold _)))

theorem buildAtTick_writeOrHalt (h : WriteOrHalt s) : WriteOrHalt (buildAtTick s) := by
  rcases h with ⟨hw, hopen⟩ | h
  · have hkept : (buildAtTick s).seq = s.seq ∧ (buildAtTick s).editList = s.editList ∧
        (buildAtTick s).formatter.gate = s.formatter.gate := by
      unfold buildAtTick
      split <;> exact ⟨rfl, rfl, rfl⟩
    obtain ⟨hseq, hlist, hgate⟩ := hkept
    exact .inl ⟨(writingEntry_congr hseq hlist).trans hw, hgate.trans hopen⟩
  · rw [h.buildAtTick]
    exact .inr h

theorem atConfDecoder_writeOrHalt (hb : beforeTick s = s) (h : WriteOrHalt s) :
    WriteOrHalt (atConfDecoder dir us s) := by
  have hfront := (tickTransport_tickMoves dir us s).writeOrHalt h
  have hrights : WriteOrHalt (tickRights (tickTransport dir us s)) :=
    TickMoves.writeOrHalt (.inl (tickRights_goes _)) hfront
  rw [atConfDecoder_eq hb]
  exact (preTick_moves _).writeOrHalt (buildAtTick_writeOrHalt hrights)

/-- What follows the CONF decoder in a tick. -/
def tickEnd (s : State) : State := startSending (buildStart (tickBack s))

theorem frameTick_eq_tickEnd (dir : Direction) (us : Nat) (s : State) :
    frameTick dir us s = tickEnd (confTick (atConfDecoder dir us s)) := frameTick_eq dir us s

theorem tickEnd_confHold (s : State) : ConfHold s (tickEnd s) :=
  (tickBack_confHold s).trans ((buildStart_confHold _).trans (startSending_confHold _))

theorem tickEnd_halted {q : Sequencer} (h : Halted q s) : Halted q (tickEnd s) := by
  have hback := h.tickBack
  unfold tickEnd
  rw [hback.buildStart]
  exact hback.startSending

theorem buildStart_tapeMap (s : State) : (buildStart s).tapeMap = s.tapeMap := by
  have hstop : ∀ sp kind d, (buildStop sp kind d s).tapeMap = s.tapeMap := fun sp kind d => by
    unfold buildStop
    split
    · exact (seqRefused_seqFrame _ _ _).tapeMap
    · exact (seqLaterStop_seqFrame _ _ _).tapeMap.trans (closeRequest_seqFrame _ s).tapeMap
  unfold buildStart
  simp only
  repeat' split
  · rfl
  · exact hstop _ _ _
  · exact hstop _ _ _
  · rfl

theorem startSending_tapeMap (s : State) : (startSending s).tapeMap = s.tapeMap := by
  unfold startSending
  simp only
  split <;> rfl

theorem PositionRecord.tick_state (p : PositionRecord) (dir : Direction) : (p.tick dir).1.state = p.state := by
  unfold PositionRecord.tick
  split <;> rfl

/-- The AFA that a raise before the tape map's tick took is the period value after it. -/
theorem tickEnd_knownAfa (s : State) : knownAfa s =
    if (tickEnd s).tapeMap.pos.state = .unknown then none else some (tickEnd s).tapeMap.periodValue := by
  have hmap : (tickEnd s).tapeMap = { s.tapeMap with
      periodValue := s.tapeMap.pos.afa, pos := (s.tapeMap.pos.tick s.transport.dir).1 } := by
    unfold tickEnd tickBack
    rw [startSending_tapeMap, buildStart_tapeMap]
    show (positionTick (tickBlend (tapeMapTick s))).tapeMap = _
    rw [(positionTick_faultOnly _).tapeMap]
    show (tapeMapTick s).tapeMap = _
    unfold tapeMapTick
    simp only
    split
    · exact (positionReport_seqFrame _ _).tapeMap
    · rfl
  rw [hmap]
  simp only [PositionRecord.tick_state]
  rfl

/-- The CONF result of a tick, as the tick leaves the transport and the tape map. -/
theorem decoderResult_atConf (dir : Direction) (us : Nat) (s : State) :
    decoderResult .conf (atConfDecoder dir us s) = decoderResult .conf
      { s with transport := (frameTick dir us s).transport, tapeMap := (frameTick dir us s).tapeMap } := by
  have h := frameTick_atConf dir us s
  have htransport := h.transport
  have hrate : (atConfDecoder dir us s).tapeMap.pos.rate = (frameTick dir us s).tapeMap.pos.rate := h.rate
  generalize (frameTick dir us s).transport = x at htransport
  generalize (frameTick dir us s).tapeMap = m at hrate
  exact decoderResult_congr h.before.decoder htransport h.flags hrate

/-- The state at the CONF users of a tick. -/
def atConfUsers (dir : Direction) (us : Nat) (s : State) : State :=
  decoderTick .conf (decoderResult .conf (atConfDecoder dir us s)) (atConfDecoder dir us s)

theorem atConfUsers_confHold (hb : beforeTick s = s) : ConfHold s (atConfUsers dir us s) :=
  (atConfDecoder_confHold hb).trans (decoderTick_confHold _ _ _)

theorem atConfUsers_writeOrHalt (hb : beforeTick s = s) (h : WriteOrHalt s) : WriteOrHalt (atConfUsers dir us s) :=
  TickMoves.writeOrHalt (.inl (decoderTick_goes _ _ _)) (atConfDecoder_writeOrHalt hb h)

theorem frameTick_eq_confUsers (dir : Direction) (us : Nat) (s : State) : frameTick dir us s =
    tickEnd (confUsers (decoderResult .conf (atConfDecoder dir us s)) (atConfUsers dir us s)) := by
  rw [frameTick_eq_tickEnd, confTick_eq]
  rfl

theorem frameTick_confHold (hb : beforeTick s = s)
    (h : ∀ c, decoderResult .conf (atConfDecoder dir us s) ≠ .completion c) : ConfHold s (frameTick dir us s) := by
  have husers : confUsers (decoderResult .conf (atConfDecoder dir us s)) (atConfUsers dir us s) =
      atConfUsers dir us s := by
    unfold confUsers
    split
    · next c hc => exact absurd hc (h c)
    · rfl
    · rfl
  rw [frameTick_eq_confUsers, husers]
  exact (atConfUsers_confHold hb).trans (tickEnd_confHold _)

/-- A CONF completion at its users: the check, and what they leave of it. -/
theorem confUsers_of_completion (c : Completion) (x : State) :
    FaultOnly (confirmTally c.tally x) (confUsers (.completion c) x) ∧
      ConfHold (confirmTally c.tally x) (confUsers (.completion c) x) := by
  show FaultOnly _ (verifyStep .conf (confScan c (matchedEntry c.tally x)) false c.tally
    (clogTally .conf c.tally (confirmTally c.tally x))) ∧ ConfHold _ (verifyStep .conf
      (confScan c (matchedEntry c.tally x)) false c.tally (clogTally .conf c.tally (confirmTally c.tally x)))
  generalize confirmTally c.tally x = y
  exact ⟨(clogTally_faultOnly .conf c.tally y).trans (verifyStep_faultOnly _ _ _ _ _),
    (clogTally_confHold .conf c.tally y).trans (verifyStep_confHold _ _ _ _ _)⟩

theorem frameTick_of_completion {c : Completion}
    (hc : decoderResult .conf (atConfDecoder dir us s) = .completion c) :
    ∃ u, FaultOnly (confirmTally c.tally (atConfUsers dir us s)) u ∧
      ConfHold (confirmTally c.tally (atConfUsers dir us s)) u ∧ frameTick dir us s = tickEnd u := by
  obtain ⟨honly, hhold⟩ := confUsers_of_completion c (atConfUsers dir us s)
  exact ⟨_, honly, hhold, by rw [frameTick_eq_confUsers, hc]⟩

/-- The AFA a CONFIRM raise takes at a tick. -/
theorem atConfUsers_knownAfa {c : Completion} (hc : decoderResult .conf (atConfDecoder dir us s) = .completion c) :
    knownAfa (atConfUsers dir us s) = if (frameTick dir us s).tapeMap.pos.state = .unknown then none
      else some (frameTick dir us s).tapeMap.periodValue := by
  obtain ⟨u, honly, -, heq⟩ := frameTick_of_completion hc
  rw [heq, ← tickEnd_knownAfa]
  unfold knownAfa
  rw [honly.tapeMap, confirmTally_tapeMap]

theorem atConfUsers_transport (dir : Direction) (us : Nat) (s : State) :
    (atConfUsers dir us s).transport = (frameTick dir us s).transport :=
  (decoderTick_transport _ _ _).trans (frameTick_atConf dir us s).transport

end

/-! ## A CONFIRM check that ends the entry -/

section
variable {s : State} {k : Tally} {w : WrittenFrame}

/-- The identity by which a CONF tally finds its entry. -/
theorem matched_eq (k : Tally) (w : WrittenFrame) : (match k.identity with
      | .afa a => w.afa == a
      | .lowBits b => w.afa % 256 == b.toNat
      | .absent => false) = matchesIdentity k.identity w := by
  unfold matchesIdentity
  cases k.identity with
  | afa a => rfl
  | lowBits b =>
    show (w.afa % 256 == b.toNat) = (BitVec.ofNat 8 w.afa == b)
    rw [Bool.eq_iff_iff, beq_iff_eq, beq_iff_eq, ← BitVec.toNat_inj, BitVec.toNat_ofNat]
  | absent => rfl

theorem confirmTaken_writeOrHalt (w : WrittenFrame) (h : WriteOrHalt s) : WriteOrHalt (confirmTaken w s) := by
  have hnote : TickMoves s (noteConf s) := .inl (noteConf_faultOnly s).goes
  have hremoved : TickGoes (noteConf s) (confirmTaken w s) := {}
  exact TickMoves.writeOrHalt (.inl hremoved) (hnote.writeOrHalt h)

/-- A failed check in a mode with an action leaves no entry that writes. -/
theorem confirmTally_halts (h : matchedEntry k s = some w)
    (hchecked : ¬ (k.headA.overridden = true ∧ k.headB.overridden = true))
    (hbad : (k.headA.overridden = false ∧ k.uncorrA ≠ 0) ∨ (k.headB.overridden = false ∧ k.uncorrB ≠ 0))
    (hgone : s.faults.records.confirm.present = false)
    (hmode : s.faults.records.confirm.mode = .latched ∨ s.faults.records.confirm.mode = .auto)
    (hwrite : WriteOrHalt s) : ∃ q, Halted q (confirmTally k s) := by
  rw [confirmTally_failing h hchecked hbad]
  rcases confirmTaken_writeOrHalt w hwrite with ⟨hw, hopen⟩ | hhalted
  · obtain ⟨_, j, hheld, _⟩ := (writingEntry_iff _).mp hw
    obtain ⟨hshut, hseq⟩ := confirmFailed_forces (c := .columns) (a := w.afa) hw hheld hopen
      (by rw [confirmTaken_record]; exact hgone) (by rw [confirmTaken_record]; exact hmode)
    exact ⟨_, hshut, rfl, by rw [hseq]; rfl, by rw [hseq]; rfl⟩
  · exact ⟨_, hhalted.evaluate _ _⟩

end

/-! ## WRITTEN_LIST_TIMEOUT as a whole (R53) -/

section
variable {s : State} {w : WrittenFrame}

/-- What a failed timeout leaves at the sequencer and the gate. -/
structure TimeoutFailed (s t : State) : Prop where
  raised : ∀ q, EventSet.has (s.ports.get q).report .faultRaised = true →
    EventSet.has (t.ports.get q).events .faultRaised = true
  quiet : s.faults.records.confirm.mode = .warn ∨ writingEntry s = false → t.seq = s.seq ∧ t.blend = s.blend
  forced : (s.faults.records.confirm.mode = .latched ∨ s.faults.records.confirm.mode = .auto) → writingEntry s = true →
    s.formatter.gate = .opened → t.seq.state = .fault ∧ t.formatter.gate = .opened ∧
      t.formatter.closePoint = some .forced ∧ (s.seq.error = none → t.seq.error.map (·.kind) = some .write)

theorem confirmFailed_failed (c : ConfirmCause) (a : Afa) (hon : s.faults.records.confirm.mode ≠ .off)
    (hgone : s.faults.records.confirm.present = false) : TimeoutFailed s (confirmFailed c a s) := by
  refine ⟨fun q hq => evaluate_raises (k := .confirm) rfl hgone hon q hq, fun h => ?_, fun hmode hw hopen => ?_⟩
  · rw [confirmFailed_quiet h]
    have honly := conditionTo_faultOnly .confirm (some (.confirm c a)) s
    exact ⟨honly.seq, honly.blend⟩
  · obtain ⟨_, k, hheld, _⟩ := (writingEntry_iff s).mp hw
    obtain ⟨hshut, hseq⟩ := confirmFailed_forces (c := c) (a := a) hw hheld hopen hgone hmode
    rw [hseq]
    refine ⟨rfl, hshut.gate, hshut.closePoint, fun hnone => ?_⟩
    simp [Sequencer.failed, hnone]

end

/-- Settles O45: the written list by `timeoutFold_quiet` and `writtenTimeout_fails`, the CONF check by
`confirmTally_checked`, which the rest of the tick leaves alone (`ConfHold`). -/
theorem writtenFramesTimeOut : Obligations.WrittenFramesTimeOut := by
  unfold Obligations.WrittenFramesTimeOut
  intro afa
  refine ⟨fun s => ?_, fun s => ?_, fun dir us s => ⟨frameTick dir us s, rfl, fun hb => ?_⟩⟩
  · intro due kept failed handed m
    have htaken : takenOut s.formatter.written due = kept := takenOut_due s
    have hexec : exec .writtenListTimeout s = .next (due.foldl (fun s w => timeoutEntry w s) s) := rfl
    have hnotRead : ∀ v ∈ due, failed = [] → notRead s v = false := fun v hv hnone => by
      have hnot := List.filter_eq_nil_iff.mp hnone v hv
      simpa [notRead] using hnot
    refine ⟨fun h => ?_, fun hon hnone => ?_, fun w more hon hfail => ?_⟩
    · rw [hexec]
      rcases h with hoff | hnil
      · rw [timeoutFold_off due s hoff, htaken]
        rfl
      · have hsame : kept = s.formatter.written := by
          rw [← htaken, hnil]
          rfl
        rw [hnil, hsame]
        rfl
    · have hall : due.filter (fun w => !notRead s w) = due :=
        List.filter_eq_self.mpr fun v hv => by simp [hnotRead v hv hnone]
      rw [hexec, timeoutFold_quiet due s hon (.inl fun v hv => hnotRead v hv hnone), htaken, hall]
      rfl
    · obtain ⟨early, late, hdue, hearly, hw, -⟩ := List.filter_eq_cons_iff.mp hfail
      have hquiet : ∀ v ∈ early, notRead s v = false := fun v hv => by simpa [notRead] using hearly v hv
      obtain ⟨x, hx, ht⟩ := writtenTimeout_fails (s := s) hon hdue hquiet hw
      have hhanded : due.filter (fun w => !notRead s w) = handed := rfl
      have hframe := confirmFailed_seqFrame .notRead w.afa
        (withLists (removeEntry w (takenOut s.formatter.written early)) (s.faults.handed ++ early) s)
      have hrecord := confirmFailed_record .notRead w.afa
        (withLists (removeEntry w (takenOut s.formatter.written early)) (s.faults.handed ++ early) s)
      refine ⟨_, congrArg Host.Outcome.next ht, rfl, rfl, ?_, fun hpresent => ?_, fun hgone => ?_, ?_⟩
      · show x.faults.records.confirm = _
        rw [hx]
        exact hrecord
      · have hsame : x = withLists (removeEntry w (takenOut s.formatter.written early)) (s.faults.handed ++ early) s :=
          hx.trans (evaluate_of_present (k := .confirm) _ hpresent)
        rw [hsame]
        rfl
      · have hfailed := confirmFailed_failed .notRead w.afa
          (s := withLists (removeEntry w (takenOut s.formatter.written early)) (s.faults.handed ++ early) s) hon hgone
        rw [← hx] at hfailed
        exact ⟨hfailed.raised, hfailed.quiet, hfailed.forced⟩
      · rw [← hx] at hframe
        have hstate := hframe.state_eq
        clear_value handed kept
        generalize s.faults.handed ++ _ = l
        rw [hstate]
        rfl
  · refine congrArg Host.Outcome.next ?_
    unfold dropUnchecked
    have hdecide : (fun w : WrittenFrame => !decide (w.frame + 4 < s.transport.tick)) =
        fun w => decide (s.transport.tick ≤ w.frame + 4) := by
      funext w
      rw [← decide_not]
      exact decide_eq_decide.mpr Nat.not_lt
    rw [hdecide]
  · intro r at' m
    have hr : decoderResult .conf (atConfDecoder dir us s) = r := decoderResult_atConf dir us s
    refine ⟨fun hnot => ?_, fun c hc => ?_⟩
    · have hhold := frameTick_confHold (dir := dir) (us := us) hb fun c => by rw [hr]; exact hnot c
      exact ⟨hhold.written, hhold.record, hhold.lastConf⟩
    · intro k matched leftOut bad
      have hcompletion := hr.trans hc
      obtain ⟨u, honly, hhold, heq⟩ := frameTick_of_completion hcompletion
      have hbefore := atConfUsers_confHold (dir := dir) (us := us) hb
      have hafa : knownAfa (atConfUsers dir us s) = at' := atConfUsers_knownAfa hcompletion
      have htick := atConfUsers_transport dir us s
      have hwrite := atConfUsers_writeOrHalt (dir := dir) (us := us) hb
      have hafter := hhold.trans (tickEnd_confHold u)
      have hmatched : ∀ v, matched v = matchesIdentity k.identity v := matched_eq k
      have hlast := confirmTally_lastConf k (atConfUsers dir us s)
      clear_value at'
      rw [heq] at htick ⊢
      generalize atConfUsers dir us s = x at *
      rw [hbefore.record, hbefore.lastConf, htick] at hlast
      refine ⟨hafter.lastConf.trans hlast, fun hnone => ?_, fun older w newer hlist holder hw => ?_⟩
      · have hunmatched : matchedEntry k x = none :=
          matchedEntry_eq_none fun v hv => by rw [← hmatched]; exact hnone v (hbefore.written ▸ hv)
        rw [confirmTally_unmatched hunmatched] at hafter
        refine ⟨hafter.written.trans (by rw [noteConf_formatter, hbefore.written]), hafter.record.trans ?_⟩
        rw [noteConf_records, hbefore.record]
      · obtain ⟨hfirst, hremoved⟩ := matchedEntry_of_first (s := x) (k := k) (hbefore.written.trans hlist)
          (fun v hv => by rw [← hmatched]; exact holder v hv) (by rw [← hmatched]; exact hw)
        have hchecked := confirmTally_checked hfirst
        refine ⟨hafter.written.trans (hchecked.written.trans hremoved), fun hleft => ?_, fun hnot hbad => ?_,
          fun hnot hgood => ?_, fun hnot hbad hgone hmode hwriting hopen => ?_⟩
        · rw [hafter.record, hchecked.leftOut hleft, hbefore.record]
        · rw [hafter.record, hchecked.columns hnot hbad, hbefore.record, hafa]
        · rw [hafter.record, hchecked.clean hnot hgood, hbefore.record, hafa]
        · have hhalted : ∃ q, Halted q (confirmTally k x) := by
            refine confirmTally_halts hfirst hnot hbad ?_ ?_ (hwrite (.inl ⟨hwriting, hopen⟩))
            · rw [hbefore.record]
              exact hgone
            · rw [hbefore.record]
              exact hmode
          obtain ⟨q, hq⟩ := hhalted
          have hend := tickEnd_halted (hq.faultOnly honly)
          exact ⟨hend.state, hend.closePoint⟩

end Sys2Proof.Machine

namespace Sys2Proof.Machine
open Sys2Proof

-- One theorem at a time: the whole text is also compiled as one, where a thread for each theorem in flight asks for more
-- memory than the check allows.
set_option Elab.async false

/-! ## Gaps and their look-ahead (R76 to R85) -/

section
variable {α : Type} {q : α → Bool}

/-- A leading run on which a test holds, measured: it holds at each of the first `n` places. -/
theorem le_takeWhile_length_iff : ∀ {l : List α} {n : Nat},
    n ≤ (l.takeWhile q).length ↔ ∀ i, i < n → ∃ y, l[i]? = some y ∧ q y = true
  | l, 0 => by simp
  | [], n + 1 => by simpa using ⟨0, Nat.zero_le n⟩
  | a :: l, n + 1 => by
    cases ha : q a with
    | false =>
      suffices ∃ i, i < n + 1 ∧ ∀ y, (a :: l)[i]? = some y → q y = false by simpa [List.takeWhile_cons, ha]
      exact ⟨0, Nat.succ_pos n, by simpa using ha⟩
    | true =>
      have hl : n ≤ (l.takeWhile q).length ↔ _ := le_takeWhile_length_iff
      simp only [List.takeWhile_cons, ha, if_true, List.length_cons, Nat.add_le_add_iff_right, hl]
      exact ⟨fun h i hi => match i with | 0 => ⟨a, rfl, ha⟩ | i + 1 => h i (Nat.lt_of_succ_lt_succ hi),
        fun h i hi => h (i + 1) (Nat.succ_lt_succ hi)⟩

/-- The element after the leading run on which a test holds stands at that run's length. -/
theorem head?_dropWhile_eq : ∀ l : List α, (l.dropWhile q).head? = l[(l.takeWhile q).length]?
  | [] => rfl
  | a :: l => by
    cases ha : q a with
    | false => simp [ha]
    | true => simpa [ha] using head?_dropWhile_eq l

/-- A leading run on which a test holds, ended by an element on which it fails. -/
theorem takeWhile_length_eq {l : List α} {n : Nat} {b : α} (hq : ∀ i, i < n → ∃ y, l[i]? = some y ∧ q y = true)
    (hb : l[n]? = some b) (hf : q b = false) : (l.takeWhile q).length = n :=
  Nat.le_antisymm
    (Nat.le_of_not_lt fun h => by
      obtain ⟨y, hy, hqy⟩ := le_takeWhile_length_iff.1 (Nat.succ_le_of_lt h) n (Nat.lt_succ_self n)
      obtain rfl : b = y := Option.some.inj (hb.symm.trans hy)
      simp [hf] at hqy)
    (le_takeWhile_length_iff.2 hq)

end

theorem recoveryRun_iff {rest next : List DecodedSample} {p : Nat} :
    recoveryRun rest next p = true ↔ ∀ i, i < 3 → ∃ y, (rest ++ next.take (p + 1))[i]? = some y ∧ y.good = true := by
  have h : 4 ≤ 1 + ((rest ++ next.take (p + 1)).takeWhile (·.good)).length ↔
      3 ≤ ((rest ++ next.take (p + 1)).takeWhile (·.good)).length := by omega
  rw [recoveryRun, decide_eq_true_iff, h]
  exact le_takeWhile_length_iff

namespace Repairer
variable {r : Repairer} {set : RepairSettings} {x : DecodedSample} {rest next : List DecodedSample}

/-- The repairer's record at the beginning of a gap: the settings captured, nothing else changed (R77). -/
def atGap (r : Repairer) (set : RepairSettings) : Repairer := { r with captured := r.captured.captureGap set }

/-- A gap whose right neighbour lies within P (R77, R78): the first sample of its interpolation. -/
theorem beginGap_interpolated {g : Nat} {b : DecodedSample} (hg : 1 ≤ g) (hp : g ≤ set.p)
    (hbad : ∀ i, i + 1 < g → ∃ y, (rest ++ next.take (set.p + 1))[i]? = some y ∧ y.good = false)
    (hb : (rest ++ next.take (set.p + 1))[g - 1]? = some b) (hgood : b.good = true) :
    r.beginGap set rest next = (r.atGap set).planStep ⟨r.last, b.value, g, 1⟩ := by
  have hlen : ((rest ++ next.take (set.p + 1)).takeWhile fun x => !x.good).length = g - 1 := by
    refine takeWhile_length_eq (fun i hi => ?_) hb (by simp [hgood])
    obtain ⟨y, hy, hy'⟩ := hbad i (by omega)
    exact ⟨y, hy, by simp [hy']⟩
  have hg' : 1 + (g - 1) = g := by omega
  simp only [beginGap, head?_dropWhile_eq, hlen, hb, hg', if_pos hp]
  rfl

/-- A gap with no GOOD sample within P (R77, R79): it is held from the last output value. -/
theorem beginGap_held
    (hbad : ∀ i y, i < set.p → (rest ++ next.take (set.p + 1))[i]? = some y → y.good = false) :
    r.beginGap set rest next = { r.atGap set with rampBase := r.last, startGain := 4096 }.beginHold := by
  simp only [beginGap]
  split
  next b hb =>
    have hb' := hb
    rw [head?_dropWhile_eq] at hb'
    have hnot : b.good = true := by
      have := List.head?_dropWhile_not (fun x : DecodedSample => !x.good) (rest ++ next.take (set.p + 1))
      simpa [hb] using this
    have hlong : ¬ 1 + ((rest ++ next.take (set.p + 1)).takeWhile fun x => !x.good).length ≤ set.p := fun h => by
      simpa [hnot] using hbad _ b (by omega) hb'
    rw [if_neg hlong]
    rfl
  next => rfl

theorem beginHold_of_hold (h : 0 < r.captured.h) :
    r.beginHold = ⟨{ r with state := .holding, steps := 1, holdExpired := false }, r.last, .held⟩ :=
  if_neg (show ¬ r.captured.h = 0 by omega)

theorem beginHold_of_no_hold (h : r.captured.h = 0) :
    r.beginHold = { r with steps := 0, holdExpired := false }.rampStep := if_pos h

end Repairer

section
variable {c : Concealer} {set : RepairSettings} {x : Sample}

theorem Concealer.step_live_real (hs : c.state = .live) : c.step set (some x) = c.give x := by
  simp only [Concealer.step, hs]

theorem Concealer.step_muted_missing (hs : c.state = .muted) : c.step set none = c.give 0 := by
  simp only [Concealer.step, hs]

end

/-- A list met after its first `n` elements: the element there, and what follows it. -/
theorem getD_drop_append {α : Type} {older rest : List α} {x d : α} {n : Nat} (h : older.length = n) :
    (older ++ x :: rest).getD n d = x ∧ (older ++ x :: rest).drop (n + 1) = rest := by
  subst h
  constructor
  · simp
  · rw [← List.drop_drop]; simp

theorem getD_drop_beyond {α : Type} {l : List α} {d : α} {n : Nat} (h : l.length ≤ n) :
    l.getD n d = d ∧ l.drop (n + 1) = [] :=
  ⟨List.getD_eq_default l d h, List.drop_eq_nil_of_le (by omega)⟩

theorem giveLeft_at {u : RepairUnit} {set : RepairSettings} {inRange : Bool} {n : Nat} {older rest : List DecodedSample}
    {x : DecodedSample} (hl : u.output.left = older ++ x :: rest) (hn : older.length = n) :
    u.giveLeft set inRange n = u.left.step set inRange x rest u.ahead.left := by
  obtain ⟨hget, hdrop⟩ := getD_drop_append (x := x) (rest := rest) (d := ⟨0, false⟩) hn
  rw [RepairUnit.giveLeft, hl, hget, hdrop]

theorem giveRight_at {u : RepairUnit} {set : RepairSettings} {inRange : Bool} {n : Nat} {older rest : List DecodedSample}
    {x : DecodedSample} (hl : u.output.right = older ++ x :: rest) (hn : older.length = n) :
    u.giveRight set inRange n = u.right.step set inRange x rest u.ahead.right := by
  obtain ⟨hget, hdrop⟩ := getD_drop_append (x := x) (rest := rest) (d := ⟨0, false⟩) hn
  rw [RepairUnit.giveRight, hl, hget, hdrop]

theorem giveLeft_beyond {u : RepairUnit} {set : RepairSettings} {inRange : Bool} {n : Nat}
    (h : u.output.left.length ≤ n) :
    u.giveLeft set inRange n = u.left.step set inRange ⟨0, false⟩ [] u.ahead.left := by
  obtain ⟨hget, hdrop⟩ := getD_drop_beyond (d := (⟨0, false⟩ : DecodedSample)) h
  rw [RepairUnit.giveLeft, hget, hdrop]

theorem giveRight_beyond {u : RepairUnit} {set : RepairSettings} {inRange : Bool} {n : Nat}
    (h : u.output.right.length ≤ n) :
    u.giveRight set inRange n = u.right.step set inRange ⟨0, false⟩ [] u.ahead.right := by
  obtain ⟨hget, hdrop⟩ := getD_drop_beyond (d := (⟨0, false⟩ : DecodedSample)) h
  rw [RepairUnit.giveRight, hget, hdrop]

/-! ### What a repairer gives, by its state -/

namespace Repairer
variable {r : Repairer} {set : RepairSettings} {x : DecodedSample} {rest next : List DecodedSample}

theorem step_good (hx : x.good = true) : r.step set true x rest next = r.goodStep set x.value rest next := by
  simp [step, hx]

theorem step_bad (hx : x.good = false) : r.step set true x rest next = r.badStep set rest next := by
  simp [step, hx]

/-- In CLEAN a BAD sample goes on with the plan, or begins a gap (R77, R78). -/
theorem badStep_plan {q : Plan} (hs : r.state = .clean) (hq : r.plan = some q) :
    r.badStep set rest next = r.planStep q := by simp only [badStep, hs, hq]

theorem badStep_gap (hs : r.state = .clean) (hq : r.plan = none) :
    r.badStep set rest next = r.beginGap set rest next := by simp only [badStep, hs, hq]

/-- In MUTING only a run of four GOOD samples begins a recovery (R81); anything else is the next ramp step. -/
theorem step_muting_no_run (hs : r.state = .muting)
    (h : ¬ (x.good = true ∧ recoveryRun rest next r.captured.p = true)) :
    r.step set true x rest next = r.rampStep := by
  cases hx : x.good with
  | false => simp only [step_bad hx, badStep, hs]
  | true =>
    have hrun : ¬ recoveryRun rest next r.captured.p = true := fun hr => h ⟨hx, hr⟩
    simp only [step_good hx, goodStep, hs, if_neg hrun]

theorem step_muted_no_run (hs : r.state = .muted)
    (h : ¬ (x.good = true ∧ recoveryRun rest next r.captured.p = true)) :
    r.step set true x rest next = r.give 0 .muted := by
  cases hx : x.good with
  | false => simp only [step_bad hx, badStep, hs]
  | true =>
    have hrun : ¬ recoveryRun rest next r.captured.p = true := fun hr => h ⟨hx, hr⟩
    simp only [step_good hx, goodStep, hs, if_neg hrun]

theorem forcedStep_muted (hs : r.state = .muted) : r.forcedStep set = r.give 0 .muted := by
  simp only [forcedStep, hs]

theorem step_forced : r.step set false x rest next = r.forcedStep set := rfl

theorem step_recovers (hs : r.state = .muting ∨ r.state = .muted) (hx : x.good = true)
    (h : recoveryRun rest next r.captured.p = true) :
    r.step set true x rest next = r.beginRecovery set x.value := by
  rcases hs with hs | hs <;> simp only [step_good hx, goodStep, hs, if_pos h]

end Repairer

/-- Settles O30: each clause is one branch of the repairer's or concealer's step; the two that look ahead go by where the
first GOOD sample stands (`beginGap_interpolated`, `beginGap_held`) and by the run of four (`recoveryRun_iff`). -/
theorem gapsConcealed : Obligations.GapsConcealed := by
  refine ⟨fun u set inRange n => ⟨fun _ _ _ => giveLeft_at, giveLeft_beyond, fun _ _ _ => giveRight_at,
    giveRight_beyond⟩, fun r set x rest next hs => ?_, fun r set x rest next => ?_, fun c set x => ?_⟩
  · refine ⟨fun hx => ?_, fun hx q hq => ?_, fun hx hq g b hg hp hbad hb hgood => ?_,
      fun hx hq hbad => ⟨fun hh => ?_, fun hh => ?_⟩⟩
    · rw [Repairer.step_good hx, Repairer.goodStep, hs]
      exact ⟨rfl, rfl, rfl⟩
    · rw [Repairer.step_bad hx, Repairer.badStep_plan hs hq]
      exact ⟨rfl, rfl, rfl⟩
    · rw [Repairer.step_bad hx, Repairer.badStep_gap hs hq, Repairer.beginGap_interpolated hg hp hbad hb hgood]
      refine ⟨?_, rfl, hs, rfl, rfl⟩
      simp [Repairer.planStep, Repairer.give, interpolate]
    · rw [Repairer.step_bad hx, Repairer.badStep_gap hs hq, Repairer.beginGap_held hbad,
        Repairer.beginHold_of_hold hh]
      exact ⟨rfl, rfl, rfl, rfl, rfl, rfl, hq⟩
    · rw [Repairer.step_bad hx, Repairer.badStep_gap hs hq, Repairer.beginGap_held hbad,
        Repairer.beginHold_of_no_hold hh]
      refine ⟨?_, rfl, rfl, rfl⟩
      simp [Repairer.rampStep, Repairer.give, muteGain, Repairer.atGap, RepairSettings.captureGap]
  · have hrun : recoveryRun rest next r.captured.p = true ↔ _ := recoveryRun_iff
    refine ⟨fun hs hx => ?_, fun hs hx he => ?_, fun hs hx he => ?_, fun hs h => ?_, fun hs h => ?_, fun hs h => ?_,
      fun hs hx => ?_, fun hs hx => ⟨fun hh => ?_, fun hh => ?_⟩, fun hs => ?_, fun hs => ?_, fun hs => ?_, fun hs => ?_,
      fun hs => ?_⟩
    · rw [Repairer.step_good hx, Repairer.goodStep, hs]; rfl
    · simp only [Repairer.step_bad hx, Repairer.badStep, hs, he, Bool.false_eq_true, if_false]
      simp only [Repairer.holdStep, Repairer.give, ← hs, ← he]
    · simp only [Repairer.step_bad hx, Repairer.badStep, hs, he, if_true]; rfl
    · exact Repairer.step_muting_no_run hs (by rwa [hrun])
    · exact Repairer.step_muted_no_run hs (by rwa [hrun])
    · exact Repairer.step_recovers hs h.1 (hrun.2 h.2)
    · rw [Repairer.step_good hx, Repairer.goodStep, hs]; rfl
    · simp only [Repairer.step_bad hx, Repairer.badStep, hs]
      exact Repairer.beginHold_of_hold hh
    · simp only [Repairer.step_bad hx, Repairer.badStep, hs]
      exact Repairer.beginHold_of_no_hold hh
    · simp only [Repairer.step_forced, Repairer.forcedStep, hs]; rfl
    · simp only [Repairer.step_forced, Repairer.forcedStep, hs]; rfl
    · simp only [Repairer.step_forced, Repairer.forcedStep, hs]; rfl
    · simp only [Repairer.step_forced, Repairer.forcedStep, hs]; rfl
    · rw [Repairer.step_forced, Repairer.forcedStep_muted hs]; rfl
  · refine ⟨fun hs => ?_, fun hs => ⟨?_, ?_⟩, fun hs => ?_, fun hs => ?_, Concealer.step_muted_missing,
      fun hs => ⟨?_, ?_⟩⟩
    · refine ⟨Concealer.step_live_real hs, ?_⟩
      simp only [Concealer.step, hs]; rfl
    · simp only [Concealer.step, hs]; rfl
    · simp only [Concealer.step, hs]
      simp only [Concealer.holdStep, Concealer.give, ← hs]; rfl
    · rcases hs with hs | hs <;> simp only [Concealer.step, hs] <;> rfl
    all_goals simp only [Concealer.step, hs]; rfl

end Sys2Proof.Machine

namespace Sys2Proof.Machine
open Sys2Proof

-- One theorem at a time: the whole text is also compiled as one, where a thread for each theorem in flight asks for more
-- memory than the check allows.
set_option Elab.async false

/-! ## What a complete frame carries (R43, R46, R48, R55) -/

section
variable {placed : List PlacedPair} {rate : Rate} {ch : PlacedPair → PlacedSample} {n : Nat} {q : PlacedPair}

theorem slotsOf_given_length (placed : List PlacedPair) (rate : Rate) (ch : PlacedPair → PlacedSample) :
    ((placed.take (pairsPerFrame rate)).map fun p => (ch p).value).length = min (pairsPerFrame rate) placed.length := by
  rw [List.length_map, List.length_take]

theorem slotsOf_length (placed : List PlacedPair) (rate : Rate) (ch : PlacedPair → PlacedSample) :
    (slotsOf placed rate ch).length = 960 := by
  have hle := pairsPerFrame_le rate
  rw [slotsOf, List.length_append, List.length_replicate, slotsOf_given_length]
  omega

theorem slotsOf_placed (hn : n < pairsPerFrame rate) (hq : placed[n]? = some q) :
    (slotsOf placed rate ch)[n]? = some (ch q).value := by
  have hlt : n < placed.length := (List.getElem?_eq_some_iff.1 hq).1
  rw [slotsOf, List.getElem?_append_left (by rw [slotsOf_given_length]; omega), List.getElem?_map,
    List.getElem?_take_of_lt hn, hq]
  rfl

/-- A slot that takes no placed sample, padding among them, takes 0. -/
theorem slotsOf_beyond (h : pairsPerFrame rate ≤ n ∨ placed.length ≤ n) (hn : n < 960) :
    (slotsOf placed rate ch)[n]? = some 0 := by
  have hgiven := slotsOf_given_length placed rate ch
  rw [slotsOf, List.getElem?_append_right (by omega), List.getElem?_replicate, if_pos (by omega)]

end

/-- The tracks share the channels out between them: a pair counts once for each of its baked samples (R5, R55). -/
theorem bakedOf_add (b : Build) : bakedOf b .a + bakedOf b .b =
    (b.placed.countP fun q => q.l.baked) + (b.placed.countP fun q => q.r.baked) := by
  suffices ∀ (l : List PlacedPair) (k : Nat),
      ((l.zipIdx k).countP fun (p, n) => match channelOf .a n with
        | .left => p.l.baked
        | .right => p.r.baked) +
      ((l.zipIdx k).countP fun (p, n) => match channelOf .b n with
        | .left => p.l.baked
        | .right => p.r.baked) = (l.countP fun q => q.l.baked) + (l.countP fun q => q.r.baked) from this b.placed 0
  intro l
  induction l with
  | nil => intro k; rfl
  | cons p l ih =>
    intro k
    have ih := ih (k + 1)
    rcases Nat.mod_two_eq_zero_or_one k with hk | hk <;>
    · simp only [List.zipIdx_cons, List.countP_cons, channelOf, hk] at ih ⊢
      simp only [if_true, if_false, one_ne_zero] at ih ⊢
      omega

section
variable {b : Build} {s t : State} {lastRead : Nat} {e : EditPack}

theorem frameClass_old (h : b.kind = .mark ∨ ¬ hasNewWeight b = true) : frameClass b s =
    match b.old.rights with
    | some k => k.cls
    | none => .unstated := if_pos ((oldOnly_iff b).2 h)

theorem frameClass_new (hk : b.kind ≠ .mark) (hn : hasNewWeight b = true) : frameClass b s = sourceClass s :=
  if_neg fun h => ((oldOnly_iff b).1 h).elim hk fun h => h hn

theorem frameClass_congr (hsel : selectedSource t = selectedSource s) (hacc : t.rights.accepted = s.rights.accepted) :
    frameClass b t = frameClass b s := by
  unfold frameClass sourceClass
  rw [hsel, hacc]

/-- Of the old frame's EDIT pack: a MARK keeps the generation, new audio counts one on. -/
theorem frameGeneration_edit (h : b.old.edit = some e) :
    frameGeneration b lastRead = if b.kind = .mark then e.generation else min 255 (e.generation + 1) := by
  cases hk : b.kind <;> simp [frameGeneration, hk, h]

theorem frameGeneration_none (h : b.old.edit = none) : frameGeneration b lastRead =
    if b.kind = .mark then lastRead
    else if b.kind = .assemble ∧ (b.old.posState = .blank ∨ b.old.posState = .unknown) then 0
    else min 255 (lastRead + 1) := by
  cases hk : b.kind <;> simp [frameGeneration, hk, h]

/-- A fade of either channel is one of the placed samples' fades. -/
theorem mem_fades_iff (d : FadeDir) : d ∈ (placedSamples b).filterMap (·.fade) ↔
    ∃ q ∈ b.placed, q.l.fade = some d ∨ q.r.fade = some d := by
  simp only [placedSamples, List.filterMap_append, List.filterMap_map, List.mem_append, List.mem_filterMap,
    Function.comp_apply, and_or_left, exists_or]

theorem fades_ne_nil_iff : (placedSamples b).filterMap (·.fade) ≠ [] ↔
    ∃ q ∈ b.placed, q.l.fade.isSome = true ∨ q.r.fade.isSome = true := by
  have hsome : (placedSamples b).filterMap (·.fade) ≠ [] ↔ ∃ d, d ∈ (placedSamples b).filterMap (·.fade) :=
    ⟨List.exists_mem_of_ne_nil _, fun ⟨_, h⟩ => List.ne_nil_of_mem h⟩
  simp only [hsome, mem_fades_iff, Option.isSome_iff_exists]
  constructor
  · rintro ⟨d, q, hq, h⟩
    exact ⟨q, hq, h.imp (fun h => ⟨d, h⟩) fun h => ⟨d, h⟩⟩
  · rintro ⟨q, hq, ⟨d, h⟩ | ⟨d, h⟩⟩
    · exact ⟨d, q, hq, .inl h⟩
    · exact ⟨d, q, hq, .inr h⟩

theorem frameEdit_splice_iff : (frameEdit b lastRead).splice = true ↔
    b.kind ≠ .mark ∧ ∃ q ∈ b.placed, q.l.fade.isSome = true ∨ q.r.fade.isSome = true := by
  rw [← fades_ne_nil_iff]
  simp [frameEdit]

/-- The splice is of kind OUT when one of its fades is a fade-out. -/
theorem frameEdit_kind_iff : (frameEdit b lastRead).kind = .spliceOut ↔
    b.kind ≠ .mark ∧ ∃ q ∈ b.placed, q.l.fade = some .fadeOut ∨ q.r.fade = some .fadeOut := by
  have hout : (frameEdit b lastRead).kind = .spliceOut ↔
      (frameEdit b lastRead).splice = true ∧ FadeDir.fadeOut ∈ (placedSamples b).filterMap (·.fade) := by
    rw [← List.contains_iff_mem, ← Bool.and_eq_true]
    simp only [frameEdit]
    split
    · next h => exact iff_of_true rfl h
    · next h => exact iff_of_false (by decide) h
  rw [hout, mem_fades_iff, frameEdit_splice_iff]
  constructor
  · rintro ⟨⟨hk, -⟩, h⟩
    exact ⟨hk, h⟩
  · rintro ⟨hk, q, hq, h⟩
    exact ⟨⟨hk, q, hq, h.imp (fun h => by simp [h]) fun h => by simp [h]⟩, q, hq, h⟩

/-- What the complete frame takes from the state besides the build and the rights. -/
theorem completeBuild_congr {period : SourceState} (hsel : selectedSource t = selectedSource s)
    (hacc : t.rights.accepted = s.rights.accepted)
    (hread : t.tapeMap.pos.lastGeneration = s.tapeMap.pos.lastGeneration) :
    completeBuild b period t = completeBuild b period s := by
  unfold completeBuild
  rw [frameClass_congr hsel hacc, hread]

theorem sourceClass_analog (h : selectedSource s = .analog) : sourceClass s = .analog := by rw [sourceClass, h]

theorem sourceClass_digital (h : selectedSource s = .digital) : sourceClass s =
    match s.rights.accepted with
    | some ⟨.pro, _, _, _⟩ => .pro
    | some ⟨.consumer, _, _, _⟩ => .consumer
    | none => .unstated := by
  rw [sourceClass, h]
  cases s.rights.accepted with
  | none => rfl
  | some r => cases r with | mk cls _ _ _ => cases cls <;> rfl

/-! ## The complete frame waits for its write (R43, R52) -/

/-- FRAME_BUILD_COMPLETE is due once the last sample of an incomplete frame has been placed. -/
theorem buildDue_iff : buildDue s = true ↔
    ∃ b, s.formatter.build = some b ∧ b.built = none ∧ pairsPerFrame b.rate ≤ b.placed.length := by
  cases hb : s.formatter.build <;> simp [buildDue, hb]

theorem buildComplete_due (hb : s.formatter.build = some b) (h : buildDue s = true) : buildComplete s =
    { s with formatter := { s.formatter with
        build := some { b with built := some (completeBuild b s.rights.period s) } } } := by
  simp only [buildComplete, hb, if_pos h]

theorem buildComplete_not_due (h : ¬ buildDue s = true) : buildComplete s = s := by
  unfold buildComplete
  split
  · rfl
  · rw [if_neg h]

theorem buildAtTick_ready (hb : s.formatter.build = some b) :
    (buildAtTick s).formatter.ready = some (b.built.getD (completeBuild b s.rights.kept s)) := by
  simp only [buildAtTick, hb]
  cases b.built <;> rfl

theorem buildAtTick_seq (s : State) : (buildAtTick s).seq = s.seq := by
  unfold buildAtTick
  split <;> rfl

/-- The frame that waits is kept, and an entry ended in FAULT stays so. -/
structure ReadyHeld (s t : State) : Prop where
  ready : t.formatter.ready = s.formatter.ready := by rfl
  fault : s.seq.state = .fault → t.seq.state = .fault := by exact id

theorem seqRefused_readyHeld (kind : ErrorKind) (d : ErrorDetail) (s : State) : ReadyHeld s (seqRefused kind d s) := by
  unfold seqRefused
  split
  · exact {}
  · split
    · exact ⟨by rw [(failEntry_walkFrame kind d _ _).formatter]; rfl, fun _ => by rw [failEntry_seq]⟩
    · exact {}

theorem seqLaterStop_readyHeld (kind : ErrorKind) (d : ErrorDetail) (s : State) :
    ReadyHeld s (seqLaterStop kind d s) := by
  unfold seqLaterStop
  split
  · exact {}
  · split
    · next hw =>
      refine ⟨?_, fun hf => ?_⟩
      · show (recordError kind .run _ d (cutRequest s)).formatter.ready = _
        rw [recordError_formatter]
        rfl
      · simp [inWrite, hf] at hw
    · exact {}

theorem closeRequest_ready (g : FrameNo) (s : State) : (closeRequest g s).formatter.ready = s.formatter.ready := by
  unfold closeRequest
  split <;> rfl

theorem ReadyHeld.trans {u : State} (h : ReadyHeld s t) (g : ReadyHeld t u) : ReadyHeld s u :=
  ⟨g.ready.trans h.ready, fun hf => g.fault (h.fault hf)⟩

theorem buildStop_readyHeld (sp : Span) (kind : ErrorKind) (d : ErrorDetail) (s : State) :
    ReadyHeld s (buildStop sp kind d s) := by
  have hdiscarded : ∀ p c b r, ReadyHeld s { s with formatter := { s.formatter with
      pendingOpen := p, closePoint := c, build := b, run := r } } := fun _ _ _ _ => {}
  unfold buildStop
  split
  · exact (hdiscarded _ _ _ _).trans (seqRefused_readyHeld _ _ _)
  · have hclose : ReadyHeld s (closeRequest (writtenFrame s) s) :=
      ⟨closeRequest_ready _ s, fun hf => by rwa [closeRequest_seq]⟩
    exact hclose.trans (seqLaterStop_readyHeld _ _ _)

theorem buildStart_readyHeld (s : State) : ReadyHeld s (buildStart s) := by
  have hbegun : ∀ f sp o, ReadyHeld s (beginBuild f sp o s) := fun f sp o => by
    refine ⟨?_, id⟩
    show (noteBuilt f _ s.formatter).ready = _
    obtain ⟨p, x, h⟩ := noteBuilt_settings f { sp with prev := some (spanAfa sp, _) } s.formatter
    rw [h]
  unfold buildStart
  simp only
  repeat' split
  · exact {}
  · exact buildStop_readyHeld _ _ _ s
  · exact buildStop_readyHeld _ _ _ s
  · exact hbegun _ _ _

/-- At the boundary the frame that waits goes on waiting, or its write begins. -/
theorem startSending_ready {f : BuiltFrame} (h : s.formatter.ready = some f) :
    (startSending s).formatter.ready = some f ∨ (startSending s).formatter.sending = some (f, .a) := by
  unfold startSending
  simp only
  split
  · exact .inr (by rw [h]; rfl)
  · exact .inl h

theorem startSending_seq (s : State) : (startSending s).seq = s.seq := by
  unfold startSending
  simp only
  split <;> rfl

/-- A tick that ends in FAULT leaves nothing to say of the frame; one that does not has kept it since it was blended. -/
theorem tick_after_blend_ready {f : BuiltFrame} (h : s.formatter.ready = some f)
    (hf : (startSending (buildStart (tickMiddle s))).seq.state ≠ .fault) :
    (startSending (buildStart (tickMiddle s))).formatter.ready = some f ∨
      (startSending (buildStart (tickMiddle s))).formatter.sending = some (f, .a) := by
  rw [startSending_seq] at hf
  have hgoes := (tickMiddle_moves s).goes fun hc => hf ((buildStart_readyHeld _).fault hc)
  exact startSending_ready ((buildStart_readyHeld _).ready.trans (hgoes.ready.trans h))

end

/-- Settles O41: the fields of `completeBuild` one by one; at a FRAME_TICK the transport hands its change on to the fault
monitor alone, or ends the entry in FAULT, and no later part of the tick lets go of the frame without ending it too. -/
theorem framesCompleted : Obligations.FramesCompleted := by
  unfold Obligations.FramesCompleted
  intro completes
  have hcompletes : ∀ b period s, completes b period s (completeBuild b period s) := fun b period s => by
    refine ⟨rfl, rfl, rfl, rfl, rfl, fun h => ?_, fun hk h => ?_, fun e he => frameGeneration_edit he,
      frameGeneration_none, frameEdit_splice_iff, frameEdit_kind_iff, slotsOf_length _ _ _, slotsOf_length _ _ _,
      fun n q hn hq => ⟨slotsOf_placed hn hq, slotsOf_placed hn hq⟩,
      fun n h hn => ⟨slotsOf_beyond h hn, slotsOf_beyond h hn⟩, bakedOf_add b⟩
    · refine frameClass_old (h.imp_right fun hz hc => ?_)
      obtain ⟨q, hq, hw⟩ := (hasNewWeight_iff b).1 hc
      obtain ⟨hl, hr⟩ := hz q hq
      omega
    · have hcls : (completeBuild b period s).rights.cls = sourceClass s :=
        frameClass_new hk ((hasNewWeight_iff b).2 h)
      rw [hcls]
      exact ⟨sourceClass_analog, sourceClass_digital⟩
  refine ⟨fun s b hb hbuilt hn => ⟨completeBuild b s.rights.period s, ?_, hcompletes _ _ _⟩, fun s h => ?_,
    fun dir us s b hbefore hb => ?_⟩
  · exact congrArg Host.Outcome.next (buildComplete_due hb (buildDue_iff.2 ⟨b, hb, hbuilt, hn⟩))
  · refine congrArg Host.Outcome.next (buildComplete_not_due fun hdue => ?_)
    obtain ⟨b, hb, hnone, hn⟩ := buildDue_iff.1 hdue
    rcases h b hb with h | h
    · exact h hnone
    · omega
  · refine ⟨frameTick dir us s, b.built.getD (completeBuild b s.rights.period s), rfl, fun g hg => by rw [hg]; rfl,
      fun hnone _ => by rw [hnone]; exact hcompletes _ _ _, ?_⟩
    rw [frameTick_eq_tickMiddle hbefore]
    intro hf
    refine tick_after_blend_ready ?_ hf
    rcases tickTransport_moves dir us s with h | ⟨u, v, -, huv, hv⟩
    · have hkeep : tickTransport dir us s = _ := h
      have hbuild : (tickRights (tickTransport dir us s)).formatter.build = some b := by
        show (tickTransport dir us s).formatter.build = _
        rw [h.formatter]
        exact hb
      have hsame : completeBuild b s.rights.period (tickRights (tickTransport dir us s)) =
          completeBuild b s.rights.period s :=
        completeBuild_congr (by rw [hkeep]; rfl) (by rw [hkeep]; rfl) (by rw [hkeep]; rfl)
      have hkept : (tickRights (tickTransport dir us s)).rights.kept = s.rights.period := by
        show (tickTransport dir us s).rights.period = _
        rw [h.rights]
        rfl
      rw [buildAtTick_ready hbuild, hkept, hsame]
    · refine absurd ?_ hf
      have hstop : (buildAtTick (tickRights (tickTransport dir us s))).seq.state = .fault := by
        rw [buildAtTick_seq]
        show (tickTransport dir us s).seq.state = _
        rw [hv.seq]
        exact huv.fault
      rw [startSending_seq]
      exact (buildStart_readyHeld _).fault ((tickMiddle_moves _).fault hstop)

end Sys2Proof.Machine

namespace Sys2Proof.Machine
open Sys2Proof

-- One theorem at a time: the whole text is also compiled as one, where a thread for each theorem in flight asks for more
-- memory than the check allows.
set_option Elab.async false

/-! ## MARKER_RUN_END (R54, R132) -/

section
variable {s : State} {g : FrameNo} {k : Fin 32}

theorem runEndDue_iff : runEndDue s = true ↔ ∃ r, s.formatter.run = some r ∧ 100 ≤ r.next := by
  cases hr : s.formatter.run <;> simp [runEndDue, hr]

/-- The run counter holding nothing. -/
def runEnded (s : State) : State := { s with formatter := { s.formatter with run := none } }

theorem runEnd_of_due (h : runEndDue s = true) : runEnd s = markRunReport (s.transport.tick - 1) (runEnded s) := if_pos h

theorem runEnd_of_not_due (h : ¬ runEndDue s = true) : runEnd s = s := if_neg h

theorem markRunReport_mark (hheld : s.seq.held = some k) (hmark : entryAction s.editList[k] = .mark)
    (hstate : s.seq.state = .recording ∨ s.seq.state = .closing) :
    markRunReport g s = setSeqState .closing (closeRequest g s) := by
  unfold markRunReport
  rw [heldEntry_of_held hheld]
  exact if_pos ⟨(inWrite_iff s).2 hstate, hmark⟩

theorem markRunReport_other (h : ∀ k, s.seq.held = some k → entryAction s.editList[k] ≠ .mark) :
    markRunReport g s = s := by
  unfold markRunReport
  cases hheld : s.seq.held with
  | none =>
    rw [heldEntry_eq_none hheld]
  | some k =>
    rw [heldEntry_of_held hheld]
    exact if_neg fun hc => h k hheld hc.2

/-- The close point of a request that names the frame being built: it is not yet written. -/
theorem closePointFor_blended (s : State) : closePointFor (s.transport.tick - 1) s =
    match s.formatter.closePoint with
    | some .forced => .forced
    | some (.normal g) => .normal (min g (s.transport.tick - 1))
    | none => .normal (s.transport.tick - 1) := by
  have hmax : max (s.transport.tick - 1) (writtenFrame s) = s.transport.tick - 1 :=
    Nat.max_eq_left (Nat.sub_le_sub_left (by decide) _)
  unfold closePointFor
  rcases s.formatter.closePoint with _ | _ | _ <;> simp only [hmax]

end

/-! ## The start of building at a tick (R43 to R47, R54) -/

/-- A frame marked by the span whose open is pending. -/
def SpanPending (s : State) (f : FrameNo) (sp : Span) : Prop :=
  s.formatter.pendingOpen = some sp ∧ sp.first ≤ f ∧
    (s.formatter.gate = .opened ∨ ∀ g, s.formatter.closePoint = some (.normal g) → f ≤ g)

/-- A frame marked by the span being written. -/
def SpanGoes (s : State) (f : FrameNo) (sp : Span) : Prop :=
  (∀ q, ¬ SpanPending s f q) ∧ s.formatter.gate = .opened ∧ s.formatter.openSpan = some sp ∧
    s.formatter.closePoint ≠ some .forced ∧ ∀ g, s.formatter.closePoint = some (.normal g) → f ≤ g

section
variable {s : State} {f : FrameNo} {sp : Span}

/-- Whether a close point set with the gate CLOSED leaves a frame in the span that follows. -/
def withinPending (s : State) (f : FrameNo) : Bool :=
  match s.formatter.gate, s.formatter.closePoint with
  | .closed, some (.normal g) => decide (f ≤ g)
  | _, _ => true

theorem withinPending_iff : withinPending s f = true ↔
    s.formatter.gate = .opened ∨ ∀ g, s.formatter.closePoint = some (.normal g) → f ≤ g := by
  unfold withinPending
  cases s.formatter.gate <;> rcases s.formatter.closePoint with _ | g | _ <;> simp

/-- The pending span, when it marks the frame. -/
def pendingSpan (s : State) (f : FrameNo) : Option Span :=
  match s.formatter.pendingOpen with
  | some sp => if sp.first ≤ f ∧ withinPending s f then some sp else none
  | none => none

theorem pendingSpan_iff : pendingSpan s f = some sp ↔ SpanPending s f sp := by
  unfold pendingSpan SpanPending
  rw [← withinPending_iff]
  cases hp : s.formatter.pendingOpen with
  | none => simp
  | some p =>
    simp only [Option.ite_none_right_eq_some, Option.some.injEq]
    constructor
    · rintro ⟨h, rfl⟩
      exact ⟨rfl, h⟩
    · rintro ⟨rfl, h⟩
      exact ⟨h, rfl⟩

/-- The open span, when it marks the frame. -/
def goingSpan (s : State) (f : FrameNo) : Option Span :=
  match s.formatter.gate, s.formatter.openSpan, s.formatter.closePoint with
  | .opened, some sp, none => some sp
  | .opened, some sp, some (.normal g) => if f ≤ g then some sp else none
  | _, _, _ => none

theorem goingSpan_iff : goingSpan s f = some sp ↔ s.formatter.gate = .opened ∧ s.formatter.openSpan = some sp ∧
    s.formatter.closePoint ≠ some .forced ∧ ∀ g, s.formatter.closePoint = some (.normal g) → f ≤ g := by
  unfold goingSpan
  cases s.formatter.gate <;> cases s.formatter.openSpan <;> rcases s.formatter.closePoint with _ | g | _ <;>
    simp [and_comm]

theorem markedSpan_eq (s : State) (f : FrameNo) : markedSpan s f = (pendingSpan s f).or (goingSpan s f) := by
  show (match pendingSpan s f with
    | some sp => some sp
    | none => goingSpan s f) = _
  cases pendingSpan s f <;> rfl

/-- A frame is marked by the pending span, and else by the open one (R43, R49, R50). -/
theorem markedSpan_iff : markedSpan s f = some sp ↔ SpanPending s f sp ∨ SpanGoes s f sp := by
  rw [markedSpan_eq, Option.or_eq_some_iff, pendingSpan_iff, goingSpan_iff, SpanGoes, Option.eq_none_iff_forall_ne_some]
  simp only [ne_eq, pendingSpan_iff]

theorem markedSpan_none (h : ∀ sp, ¬ SpanPending s f sp ∧ ¬ SpanGoes s f sp) : markedSpan s f = none :=
  Option.eq_none_iff_forall_ne_some.2 fun sp hm => (markedSpan_iff.1 hm).elim (h sp).1 (h sp).2

theorem buildStart_unmarked (h : markedSpan s (blendedFrame s) = none) : buildStart s = s := by
  unfold buildStart
  simp only [h]

theorem buildStart_marked (h : markedSpan s (blendedFrame s) = some sp) : buildStart s =
    if spanRate s sp (oldFrameFor s (blendedFrame s)) ≠ s.clock.rate then buildStop sp .rate .absent s
    else if afaMax < spanAfa sp then buildStop sp .range .address s
    else beginBuild (blendedFrame s) sp (oldFrameFor s (blendedFrame s)) s := by
  unfold buildStart
  simp only [h]

theorem oldFrameFor_eq (s : State) (f : FrameNo) : oldFrameFor s f = s.formatter.oldNow.getD
    ⟨f, none, .unknown, .absent, s.tapeMap.pos.rate.getD .r48k, none, none, none, false⟩ := by
  unfold oldFrameFor
  cases s.formatter.oldNow <;> rfl

theorem spanAfa_eq (sp : Span) : spanAfa sp = match sp.prev with
    | some (a, _) => a + 1
    | none => (if sp.kind = .assemble ∧ (sp.posState = .unknown ∨ sp.posState = .blank) then sp.startAfa
        else sp.firstAfa).getD 0 := by
  unfold spanAfa
  rcases sp.prev with _ | ⟨a, n⟩
  · simp only
    split <;> rfl
  · rfl

theorem programNumber_eq (s : State) (sp : Span) (o : OldFrame) : programNumber s sp o = match sp.kind, sp.prev with
    | .assemble, some (_, n) => n
    | .assemble, none => if sp.posState = .unknown ∨ sp.posState = .blank then 0 else s.formatter.carried
    | _, _ => (o.program.map fun k => k.number).getD s.formatter.carried := by
  unfold programNumber
  cases sp.kind <;> rcases sp.prev with _ | ⟨a, n⟩ <;> cases o.program <;> rfl

/-- A span's record of its last frame goes with the open that it belongs to (R45). -/
theorem noteBuilt_pending {m : Formatter} {x : Span} (hp : m.pendingOpen = some sp) (hf : sp.first ≤ f)
    (hx : x.first = sp.first) : noteBuilt f x m = { m with pendingOpen := some x } := by
  unfold noteBuilt
  rw [hp]
  exact if_pos ⟨hf, hx.symm⟩

theorem noteBuilt_going {m : Formatter} {x : Span} (hp : m.pendingOpen = none) :
    noteBuilt f x m = { m with openSpan := some x } := by
  unfold noteBuilt
  rw [hp]

end

/-! ### The number of an AUTO marker (R113) -/

section
variable {ix : List IndexEntry} {afa : Afa} {e : IndexEntry}

theorem autoNumber_first (h : ∀ e ∈ ix, afa ≤ e.start) : autoNumber ix afa = 1 := by
  have hnone : ix.filter (fun e => decide (e.start < afa)) = [] :=
    List.filter_eq_nil_iff.2 fun e he => by simpa using h e he
  unfold autoNumber
  rw [hnone]
  rfl

/-- In an index in order the last entry below an AFA is the highest of them. -/
theorem Rising.getLast?_below (h : Rising ix) (he : e ∈ ix) (hlt : e.start < afa)
    (hmost : ∀ x ∈ ix, x.start < afa → x.start ≤ e.start) :
    (ix.filter fun e => decide (e.start < afa)).getLast? = some e := by
  have hmem : e ∈ ix.filter fun e => decide (e.start < afa) := List.mem_filter.2 ⟨he, by simpa using hlt⟩
  obtain ⟨older, x, hsplit⟩ := List.eq_nil_or_concat _ |>.resolve_left (List.ne_nil_of_mem hmem)
  rw [List.concat_eq_append] at hsplit
  have hx : x ∈ ix.filter fun e => decide (e.start < afa) := by simp [hsplit]
  obtain ⟨hxm, hxlt⟩ := List.mem_filter.1 hx
  have hrising : ∀ y ∈ older, y.start < x.start := by
    have hp := List.Pairwise.filter (fun e => decide (e.start < afa)) h
    rw [hsplit, List.pairwise_append] at hp
    exact fun y hy => hp.2.2 y hy x (List.mem_singleton_self x)
  have hle := hmost x hxm (by simpa using hxlt)
  rw [hsplit, List.mem_append, List.mem_singleton] at hmem
  rcases hmem with hold | rfl
  · exact absurd hle (Nat.not_le_of_lt (hrising e hold))
  · rw [hsplit, List.getLast?_append]
    rfl

theorem autoNumber_after (h : Rising ix) (he : e ∈ ix) (hlt : e.start < afa)
    (hmost : ∀ x ∈ ix, x.start < afa → x.start ≤ e.start) : autoNumber ix afa = min 999 (e.number + 1) := by
  unfold autoNumber
  rw [h.getLast?_below he hlt hmost]

end

/-! ### A build stop (R44, R129) -/

section
variable {s : State} {sp : Span} {k : Fin 32} {kind : ErrorKind}

/-- The pending open of a span whose first frame is not built, discarded. -/
def openCancelled (s : State) : State :=
  { s with formatter := { s.formatter with
      pendingOpen := none, closePoint := if s.formatter.gate = .opened then s.formatter.closePoint else none
      build := none, run := none } }

theorem buildStop_first (d : ErrorDetail) (hprev : sp.prev = none) (hpending : s.formatter.pendingOpen.isSome = true)
    (hheld : s.seq.held = some k) (hwrite : inWrite s = true) :
    buildStop sp kind d s = failEntry kind d k (cutRequest (openCancelled s)) :=
  (if_pos ⟨by rw [hprev]; rfl, hpending⟩).trans (seqRefused_eq (u := openCancelled s) hheld hwrite kind d)

theorem seqLaterStop_eq (d : ErrorDetail) (hheld : s.seq.held = some k) (hwrite : inWrite s = true) :
    seqLaterStop kind d s = setSeqState .closing (recordError kind .run (k + 1) d (cutRequest s)) := by
  unfold seqLaterStop
  rw [heldEntry_of_held hheld]
  exact if_pos hwrite

theorem recordError_eq (ph : Phase) (j : Fin 32) (d : ErrorDetail) (hkind : kind ≠ .unloaded) :
    recordError kind ph j d s = { s with seq := { s.seq with
      error := if s.seq.error.isSome then s.seq.error else some ⟨kind, ph, j, d, knownAfa s⟩ } } := by
  have hseq := recordError_seq kind ph j d s
  simp only [hkind, ne_eq, not_false_eq_true, and_true] at hseq
  rw [← hseq]
  unfold recordError
  split <;> rfl

/-- The span closing after the frame being written. -/
def closingWritten (s : State) : State :=
  { s with formatter := { s.formatter with closePoint := some (.normal (s.transport.tick - 2)) } }

/-- A close request for the frame being written, of a span that no close point bounds and with no frame being built. -/
theorem closeRequest_written (hopen : s.formatter.gate = .opened) (hpoint : s.formatter.closePoint = none)
    (hbuild : s.formatter.build = none) : closeRequest (writtenFrame s) s = closingWritten s := by
  have hfor : closePointFor (writtenFrame s) s = .normal (s.transport.tick - 2) := by
    unfold closePointFor
    rw [hpoint]
    exact congrArg ClosePoint.normal (Nat.max_self _)
  rw [closeRequest_opened hopen, hfor]
  · rfl
  rintro ⟨b, g, hb, -⟩
  cases hbuild.symm.trans hb

theorem buildStop_later (d : ErrorDetail) (hprev : sp.prev.isSome = true) :
    buildStop sp kind d s = seqLaterStop kind d (closeRequest (writtenFrame s) s) :=
  if_neg fun h => by
    obtain ⟨hnone, -⟩ := h
    rw [Option.isNone_iff_eq_none] at hnone
    rw [hnone] at hprev
    cases hprev

theorem buildStop_later_eq (d : ErrorDetail) (hkind : kind ≠ .unloaded) (hprev : sp.prev.isSome = true)
    (hopen : s.formatter.gate = .opened) (hpoint : s.formatter.closePoint = none) (hbuild : s.formatter.build = none)
    (hheld : s.seq.held = some k) (hwrite : inWrite s = true) : buildStop sp kind d s = { s with
      formatter := { s.formatter with closePoint := some (.normal (s.transport.tick - 2)) }
      seq := { s.seq with
        state := .closing
        error := if s.seq.error.isSome then s.seq.error else some ⟨kind, .run, k + 1, d, knownAfa s⟩ }
      blend := (cutRequest s).blend } := by
  rw [buildStop_later d hprev, closeRequest_written hopen hpoint hbuild,
    seqLaterStop_eq (s := closingWritten s) d hheld hwrite, recordError_eq _ _ _ hkind]
  rfl

end

end Sys2Proof.Machine

namespace Sys2Proof.Machine
open Sys2Proof

-- One theorem at a time: the whole text is also compiled as one, where a thread for each theorem in flight asks for more
-- memory than the check allows.
set_option Elab.async false

/-! ## What the formatter keeps of the old frame (R67) -/

/-- The old frames and the carried number stand. -/
structure OldKept (s t : State) : Prop where
  now : t.formatter.oldNow = s.formatter.oldNow := by rfl
  next : t.formatter.oldNext = s.formatter.oldNext := by rfl
  carried : t.formatter.carried = s.formatter.carried := by rfl

section
variable {s t u : State}

theorem OldKept.refl (s : State) : OldKept s s := {}

theorem OldKept.trans (h : OldKept s t) (g : OldKept t u) : OldKept s u :=
  ⟨g.now.trans h.now, g.next.trans h.next, g.carried.trans h.carried⟩

theorem OldKept.of_formatter (h : t.formatter = s.formatter) : OldKept s t := ⟨by rw [h], by rw [h], by rw [h]⟩

theorem FaultOnly.oldKept (h : FaultOnly s t) : OldKept s t := .of_formatter h.formatter

theorem WalkFrame.oldKept (h : WalkFrame s t) : OldKept s t :=
  ⟨by rw [h.formatter], by rw [h.formatter], by rw [h.formatter]⟩

theorem forcedCloseRequest_oldKept (s : State) : OldKept s (forcedCloseRequest s) := by
  unfold forcedCloseRequest
  simp only
  repeat' split
  all_goals exact {}

theorem StopsAs.oldKept (h : StopsAs s t) : OldKept s t := by
  cases h with
  | forced kind d k =>
    have hcut : OldKept (forcedCloseRequest s) (cutRequest (forcedCloseRequest s)) := {}
    exact (forcedCloseRequest_oldKept s).trans (hcut.trans (failEntry_walkFrame kind d k _).oldKept)
  | rehearsal kind d k =>
    have hcut : OldKept s (cutRequest s) := {}
    exact hcut.trans (failEntry_walkFrame kind d k _).oldKept
  | armed kind d k => exact (seqStop_walkFrame kind d k s).oldKept

theorem FaultMoves.oldKept (h : FaultMoves s t) : OldKept s t := by
  rcases h with h | ⟨a, b, ha, hab, hb⟩
  · exact h.oldKept
  · exact ha.oldKept.trans (hab.oldKept.trans hb.oldKept)

theorem decoderTick_oldKept (path : ReadPath) (r : TickResult) (s : State) : OldKept s (decoderTick path r s) :=
  .of_formatter (decoderTick_formatter path r s)

theorem takeRightsPack_oldKept (k : Option RightsPack) (s : State) : OldKept s (takeRightsPack k s) := by
  rw [takeRightsPack_only k s]
  exact {}

theorem arrivalMoved_oldKept (r : TickResult) (s : State) : OldKept s (arrivalMoved r s) := by
  have hmoved : OldKept s (s.withPosition (s.tapeMap.pos.handle r.packs.position).1) := {}
  unfold arrivalMoved
  simp only
  split
  · exact hmoved.trans (reportJump_moves _).oldKept
  · exact hmoved

theorem tapeMapRest_oldKept (packs : FramePacks) (b : Bool) (fp : Option Afa) (s : State) :
    OldKept s (tapeMapRest packs b fp s) := by
  rw [tapeMapRest_only packs b fp s]
  exact {}

theorem openEntry_oldKept (e : EditEntry) (fp : Option Afa) (st : PosState) (o : Nat) (s : State) :
    OldKept s (openEntry e fp st o s) := by
  obtain ⟨p, b, h⟩ := openEntry_only e fp st o s
  rw [h]
  exact {}

theorem inArrival_oldKept (k : Fin 32) (e : EditEntry) (fp : Option Afa) (st : PosState) (o : Nat) (s : State) :
    OldKept s (inArrival k e fp st o s) := by
  unfold inArrival
  repeat' split
  · exact openEntry_oldKept _ _ _ _ s
  · exact (seqStop_walkFrame _ _ _ s).oldKept
  · exact openEntry_oldKept _ _ _ _ s

theorem armedPosition_oldKept (fp : Option Afa) (st : PosState) (d : Bool) (s : State) :
    OldKept s (armedPosition fp st d s) := by
  unfold armedPosition
  repeat' split
  all_goals first
    | exact .refl s
    | exact inArrival_oldKept _ _ _ _ _ s
    | exact (seqStop_walkFrame _ _ _ s).oldKept

theorem recordingPosition_oldKept (fp : Option Afa) (s : State) : OldKept s (recordingPosition fp s) := by
  unfold recordingPosition
  repeat' split
  all_goals exact {}

theorem seqFramePosition_oldKept (fp : Option Afa) (st : PosState) (d : Bool) (s : State) :
    OldKept s (seqFramePosition fp st d s) := by
  have hkept : OldKept s (positionKept fp s) := {}
  refine hkept.trans ?_
  show OldKept (positionKept fp s) (match (positionKept fp s).seq.state with
    | .armed => armedPosition fp st d (positionKept fp s)
    | .recording => recordingPosition fp (positionKept fp s)
    | .idle | .closing | .held | .fault => positionKept fp s)
  split
  · exact armedPosition_oldKept _ _ _ _
  · exact recordingPosition_oldKept _ _
  all_goals exact .refl _

theorem afterRightsPack_oldKept (r : TickResult) (s0 s : State) : OldKept s (afterRightsPack r s0 s) :=
  (preTally_moves r s).oldKept.trans
    ((seqFramePosition_oldKept _ _ _ _).trans (verifyResult_faultOnly _ _ _ _ _).oldKept)

theorem confirmTally_oldKept (t : Tally) (s : State) : OldKept s (confirmTally t s) := by
  have hnote := (noteConf_faultOnly s).oldKept
  have hremoved : ∀ l, OldKept s { noteConf s with formatter := { (noteConf s).formatter with written := l } } := fun l =>
    have hstep : OldKept (noteConf s) { noteConf s with formatter := { (noteConf s).formatter with written := l } } := {}
    hnote.trans hstep
  unfold confirmTally
  simp only
  repeat' split
  · exact hnote
  · exact hremoved _
  · exact (hremoved _).trans (conditionTo_faultOnly _ _ _).oldKept
  · exact (hremoved _).trans (evaluate_moves _ _ _).oldKept

theorem confTick_oldKept (s : State) : OldKept s (confTick s) := by
  rw [confTick_eq]
  refine (decoderTick_oldKept .conf (decoderResult .conf s) s).trans ?_
  unfold confUsers
  split
  · exact (confirmTally_oldKept _ _).trans
      ((clogTally_faultOnly _ _ _).oldKept.trans (verifyStep_faultOnly _ _ _ _ _).oldKept)
  · exact .refl _
  · exact .refl _

theorem tickBack_oldKept (s : State) : OldKept s (tickBack s) := by
  have hmap : OldKept s (tapeMapTick s) := by
    have hmoved : OldKept s { s with tapeMap := { s.tapeMap with
        periodValue := s.tapeMap.pos.afa, pos := (s.tapeMap.pos.tick s.transport.dir).1 } } := {}
    unfold tapeMapTick
    simp only
    split
    · exact hmoved.trans (positionReport_moves _ _).oldKept
    · exact hmoved
  have hblend : ∀ v, OldKept v (tickBlend v) := fun _ => {}
  have hclock : ∀ v, OldKept v (tickClock v) := fun _ => {}
  exact hmap.trans ((hblend _).trans ((positionTick_faultOnly _).oldKept.trans (hclock _)))

theorem buildAtTick_oldKept (s : State) : OldKept s (buildAtTick s) := by
  unfold buildAtTick
  split <;> exact {}

theorem closeRequest_oldKept (g : FrameNo) (s : State) : OldKept s (closeRequest g s) := by
  unfold closeRequest
  split <;> exact {}

theorem buildStop_oldKept (sp : Span) (kind : ErrorKind) (d : ErrorDetail) (s : State) :
    OldKept s (buildStop sp kind d s) := by
  have hcut : ∀ v, OldKept v (cutRequest v) := fun _ => {}
  have hcancelled : OldKept s (openCancelled s) := {}
  unfold buildStop
  split
  · refine hcancelled.trans ?_
    show OldKept (openCancelled s) (seqRefused kind d (openCancelled s))
    unfold seqRefused
    repeat' split
    · exact .refl _
    · exact (hcut _).trans (failEntry_walkFrame kind d _ _).oldKept
    · exact .refl _
  · refine (closeRequest_oldKept (writtenFrame s) s).trans ?_
    unfold seqLaterStop
    repeat' split
    · exact .refl _
    · refine (hcut _).trans (OldKept.trans ?_ (.of_formatter rfl))
      exact .of_formatter (recordError_formatter _ _ _ _ _)
    · exact .refl _

theorem buildStart_oldKept (s : State) : OldKept s (buildStart s) := by
  have hbegun : ∀ f sp o, OldKept s (beginBuild f sp o s) := fun f sp o => by
    unfold beginBuild
    simp only
    obtain ⟨p, x, h⟩ := noteBuilt_settings f { sp with
      prev := some (spanAfa sp, (programFor s sp o ((runFor s sp (spanAfa sp)).filter fun r => r.next < 100)).number) }
      s.formatter
    rw [h]
    exact {}
  unfold buildStart
  simp only
  repeat' split
  · exact .refl s
  · exact buildStop_oldKept _ _ _ s
  · exact buildStop_oldKept _ _ _ s
  · exact hbegun _ _ _

theorem startSending_oldKept (s : State) : OldKept s (startSending s) := by
  unfold startSending
  simp only
  split <;> exact {}

end

/-! ### The old frame that a PRE result leaves -/

/-- What is kept of the frame that a tick's PRE result `r` ended, with the carried number of its PROGRAM pack. -/
structure OldKeptFrom (r : TickResult) (s t : State) (o : OldFrame) : Prop where
  next : t.formatter.oldNext = some o
  now : t.formatter.oldNow = s.formatter.oldNext
  carried : t.formatter.carried = match r.packs.program with
    | some k => k.number
    | none => s.formatter.carried
  frame : o.frame = s.transport.tick
  identity : o.identity = r.identity
  rights : o.rights = r.packs.rights
  program : o.program = r.packs.program
  edit : o.edit = r.packs.edit
  completed : o.completed = r.completed
  rate : ∀ c, r = .completion c → o.rate = c.frame.rate

section
variable {r : TickResult} {s t u : State} {o : OldFrame}

theorem OldKeptFrom.after (h : OldKeptFrom r s t o) (g : OldKept t u) : OldKeptFrom r s u o :=
  ⟨g.next.trans h.next, g.now.trans h.now, g.carried.trans h.carried, h.frame, h.identity, h.rights, h.program, h.edit,
    h.completed, h.rate⟩

theorem OldKeptFrom.before (g : OldKept s t) (htick : t.transport.tick = s.transport.tick) (h : OldKeptFrom r t u o) :
    OldKeptFrom r s u o :=
  ⟨h.next, h.now.trans g.next, h.carried.trans (by rw [g.carried]), h.frame.trans htick, h.identity, h.rights, h.program,
    h.edit, h.completed, h.rate⟩

/-- The old frame that `keepOldFrame` makes. -/
def oldFrameOf (r : TickResult) (fp : Option Afa) (st : PosState) (s : State) : OldFrame :=
  { frame := s.transport.tick, position := fp, posState := st, identity := r.identity
    rate := (r.repairFrame s).rate, rights := r.packs.rights, program := r.packs.program, edit := r.packs.edit
    completed := r.completed }

theorem keepOldFrame_keptFrom (r : TickResult) (fp : Option Afa) (st : PosState) (s : State) :
    OldKeptFrom r s (keepOldFrame r fp st s) (oldFrameOf r fp st s) where
  next := rfl
  now := rfl
  carried := rfl
  frame := rfl
  identity := rfl
  rights := rfl
  program := rfl
  edit := rfl
  completed := rfl
  rate := by
    rintro c rfl
    rfl

/-- The tape map's part of a PRE result keeps its old frame, with the position handed to the sequencer. -/
theorem tapeMapArrival_keptFrom (r : TickResult) (s : State) : ∃ o, OldKeptFrom r s (tapeMapArrival r s) o ∧
    o.position = (tapeMapArrival r s).seq.lastPosition := by
  have hlast := (tapeMapArrival_hold r s).2
  rw [hlast]
  have hbefore := (arrivalMoved_oldKept r s).trans
    (tapeMapRest_oldKept r.packs (blankNote r (arrivalMoved r s)) (arrivalPosition r s) (arrivalMoved r s))
  have htick : (tapeMapRest r.packs (blankNote r (arrivalMoved r s)) (arrivalPosition r s)
      (arrivalMoved r s)).transport.tick = s.transport.tick := by
    rw [tapeMapRest_only]
    show (arrivalMoved r s).transport.tick = _
    rw [(arrivalMoved_tickRights r s .pre).transport]
  rw [tapeMapArrival_eq, beforeRightsPack_eq]
  generalize tapeMapRest r.packs (blankNote r (arrivalMoved r s)) (arrivalPosition r s) (arrivalMoved r s) = v at *
  exact ⟨_, (OldKeptFrom.before hbefore htick (keepOldFrame_keptFrom r _ _ v)).after
    ((takeRightsPack_oldKept _ _).trans (afterRightsPack_oldKept _ _ _)), rfl⟩

theorem preTick_keptFrom (s : State) : ∃ o, OldKeptFrom (decoderResult .pre s) s (preTick s) o ∧
    (s.transport.mode ≠ .unloaded → o.position = (preTick s).seq.lastPosition) := by
  have hdecoder := decoderTick_oldKept .pre (decoderResult .pre s) s
  have htransport := decoderTick_transport .pre (decoderResult .pre s) s
  have htick : (decoderTick .pre (decoderResult .pre s) s).transport.tick = s.transport.tick := by rw [htransport]
  by_cases hmode : s.transport.mode = .unloaded
  · have hpre : preTick s = keepOldFrame (decoderResult .pre s) none .unknown
        (decoderTick .pre (decoderResult .pre s) s) := by
      unfold preTick
      simp only [htransport, if_pos hmode]
    rw [hpre]
    exact ⟨_, .before hdecoder htick (keepOldFrame_keptFrom _ _ _ _), fun h => absurd hmode h⟩
  · rw [preTick_of_loaded hmode]
    obtain ⟨o, ho, hposition⟩ := tapeMapArrival_keptFrom (decoderResult .pre s)
      (decoderTick .pre (decoderResult .pre s) s)
    exact ⟨o, .before hdecoder htick ho, fun _ => hposition⟩

/-- A completion's frame is at its rate. -/
theorem decoderResult_rate {path : ReadPath} {c : Completion} (h : decoderResult path s = .completion c) :
    c.frame.rate = c.rate := by
  unfold decoderResult at h
  simp only at h
  repeat' split at h
  all_goals cases h
  rfl

theorem TickResult.not_completion (h : ∀ c, r ≠ .completion c) : r.identity = .absent ∧ r.completed = false := by
  cases r with
  | completion c => exact absurd rfl (h c)
  | subcode p => exact ⟨rfl, rfl⟩
  | noFrame => exact ⟨rfl, rfl⟩

end

end Sys2Proof.Machine

namespace Sys2Proof.Machine
open Sys2Proof

-- One theorem at a time: the whole text is also compiled as one, where a thread for each theorem in flight asks for more
-- memory than the check allows.
set_option Elab.async false

/-! ## The state at the start of building in a tick (R22, R67) -/

/-- The state of a tick, nothing due before it, as the building of its frame begins. -/
def beforeBuild (dir : Direction) (us : Nat) (s : State) : State :=
  tickMiddle (buildAtTick (tickRights (tickTransport dir us s)))

section
variable {dir : Direction} {us : Nat} {s : State}

theorem frameTick_eq_beforeBuild (hb : beforeTick s = s) :
    frameTick dir us s = startSending (buildStart (beforeBuild dir us s)) := frameTick_eq_tickMiddle hb

theorem buildAtTick_build (s : State) : (buildAtTick s).formatter.build = none := by
  unfold buildAtTick
  split
  · next h => exact h
  · rfl

theorem buildAtTick_formatter (s : State) : (buildAtTick s).formatter = { s.formatter with
    build := (buildAtTick s).formatter.build, ready := (buildAtTick s).formatter.ready } := by
  unfold buildAtTick
  split <;> rfl

theorem beforeBuild_build : (beforeBuild dir us s).formatter.build = none :=
  (tickMiddle_moves _).build_none (buildAtTick_build _)

/-- A frame that begins to be built, or does not, is settled after the blocks of the tick. -/
theorem startSending_only (s : State) : startSending s = { s with formatter := { s.formatter with
    ready := (startSending s).formatter.ready, sending := (startSending s).formatter.sending } } := by
  unfold startSending
  simp only
  split <;> rfl

theorem beforeBuild_settings : TickBase (setRecord .servo (servoAfter s (s.transport.atTick dir us)) s)
    (beforeBuild dir us s) := by
  have hmoved : TickBase s (s.withTransport (s.transport.atTick dir us)) := {}
  have hafter : TickBase (setRecord .servo (servoAfter s (s.transport.atTick dir us))
      (s.withTransport (s.transport.atTick dir us))) (tickTransport dir us s) := afterTransport_tickBase _ _
  have hrights : ∀ u, TickBase u (tickRights u) := fun _ => {}
  exact (hmoved.setServo _).trans (hafter.trans ((hrights _).trans ((buildAtTick_tickHold _).toTickBase.trans
    ((preTick_tickBase _).trans ((confTick_tickHold _).toTickBase.trans (tickBack_tickHold _).toTickBase)))))

/-- A tick that does not end the entry in FAULT before the building begins leaves the span and the gate as they were. -/
theorem beforeBuild_goes (h : (beforeBuild dir us s).seq.state ≠ .fault) :
    (beforeBuild dir us s).formatter.openSpan = s.formatter.openSpan ∧
      (beforeBuild dir us s).formatter.run = s.formatter.run ∧
      (beforeBuild dir us s).formatter.gate = s.formatter.gate ∧
      (beforeBuild dir us s).formatter.closePoint = s.formatter.closePoint ∧
      (s.seq.state ≠ .armed → (beforeBuild dir us s).formatter.pendingOpen = s.formatter.pendingOpen) := by
  unfold beforeBuild at h ⊢
  have hseq := buildAtTick_seq (tickRights (tickTransport dir us s))
  have hfront : TickGoes s (tickRights (tickTransport dir us s)) :=
    ((tickTransport_tickMoves dir us s).trans (.inl (tickRights_goes _))).goes fun hf =>
      h ((tickMiddle_moves _).fault ((congrArg Sequencer.state hseq).trans hf))
  generalize tickRights (tickTransport dir us s) = v at h hseq hfront ⊢
  have hkept := buildAtTick_formatter v
  generalize buildAtTick v = w at h hseq hkept ⊢
  have hback := (tickMiddle_moves w).goes h
  generalize tickMiddle w = u at h hback ⊢
  have harmed' : s.seq.state ≠ .armed → w.seq.state ≠ .armed := fun ha => by
    rw [hseq]
    exact hfront.not_armed ha
  have hspan : w.formatter.openSpan = v.formatter.openSpan := by rw [hkept]
  have hrun : w.formatter.run = v.formatter.run := by rw [hkept]
  have hgate : w.formatter.gate = v.formatter.gate := by rw [hkept]
  have hpoint : w.formatter.closePoint = v.formatter.closePoint := by rw [hkept]
  have hpending : w.formatter.pendingOpen = v.formatter.pendingOpen := by rw [hkept]
  exact ⟨hback.openSpan.trans (hspan.trans hfront.openSpan), hback.run.trans (hrun.trans hfront.run),
    hback.gate.trans (hgate.trans hfront.gate), hback.closePoint.trans (hpoint.trans hfront.closePoint),
    fun ha => (hback.pendingOpen (harmed' ha)).trans (hpending.trans (hfront.pendingOpen ha))⟩

/-- From the PRE decoder on, the tick keeps the packs of its PRE result with the old frame. -/
theorem tickMiddle_keptFrom (s : State) : ∃ o, OldKeptFrom (decoderResult .pre s) s (tickMiddle s) o ∧
    (s.transport.mode ≠ .unloaded → o.position = (startSending (buildStart (tickMiddle s))).seq.lastPosition) := by
  obtain ⟨o, ho, hposition⟩ := preTick_keptFrom s
  have hmiddle : tickMiddle s = tickBack (confTick (preTick s)) := rfl
  rw [hmiddle]
  generalize preTick s = v at ho hposition ⊢
  refine ⟨o, ho.after ((confTick_oldKept v).trans (tickBack_oldKept _)), fun h => ?_⟩
  rw [(fromConf_tickHold v).lastPosition]
  exact hposition h

theorem atPreDecoder_eq (hb : beforeTick s = s) :
    atPreDecoder dir us s = buildAtTick (tickRights (tickTransport dir us s)) := by
  unfold atPreDecoder tickFront
  rw [hb]

theorem atPreDecoder_oldKept (hb : beforeTick s = s) : OldKept s (atPreDecoder dir us s) := by
  have hrights : ∀ u, OldKept u (tickRights u) := fun _ => {}
  have hmoved : OldKept s (s.withTransport (s.transport.atTick dir us)) := {}
  rw [atPreDecoder_eq hb]
  exact hmoved.trans ((tickTransport_moves dir us s).oldKept.trans ((hrights _).trans (buildAtTick_oldKept _)))

theorem frameTick_eq_middle (hb : beforeTick s = s) :
    frameTick dir us s = startSending (buildStart (tickMiddle (atPreDecoder dir us s))) := by
  rw [atPreDecoder_eq hb]
  exact frameTick_eq_tickMiddle hb

/-- The tick keeps the packs of its PRE result with the old frame, up to its end. -/
theorem beforeBuild_oldFrame (hb : beforeTick s = s) : ∃ o,
    OldKeptFrom (decoderResult .pre (s.withTransport (frameTick dir us s).transport))
      (s.withTransport (frameTick dir us s).transport) (beforeBuild dir us s) o ∧
    (s.transport.mode ≠ .unloaded → o.position = (frameTick dir us s).seq.lastPosition) := by
  have hresult := decoderResult_atPreDecoder dir us s
  have hkeep : (atPreDecoder dir us s).transport = (frameTick dir us s).transport := (frameTick_atPre dir us s).transport
  have htick := frameTick_transport dir us s
  have hfront := atPreDecoder_oldKept (dir := dir) (us := us) hb
  have hmiddle := frameTick_eq_middle (dir := dir) (us := us) hb
  unfold beforeBuild
  rw [← atPreDecoder_eq hb, ← hresult]
  generalize frameTick dir us s = t at *
  generalize atPreDecoder dir us s = a at *
  obtain ⟨o, ho, hposition⟩ := tickMiddle_keptFrom a
  have hmode : a.transport.mode = s.transport.mode := by
    rw [hkeep, htick]
    rfl
  have hstart : OldKept (s.withTransport t.transport) a := ⟨hfront.now, hfront.next, hfront.carried⟩
  refine ⟨o, .before hstart (by rw [hkeep]; rfl) ho, fun h => ?_⟩
  rw [hmiddle]
  exact hposition (hmode ▸ h)

end

end Sys2Proof.Machine

namespace Sys2Proof.Machine
open Sys2Proof

-- One theorem at a time: the whole text is also compiled as one, where a thread for each theorem in flight asks for more
-- memory than the check allows.
set_option Elab.async false

section
variable {s : State} {sp : Span} {o : OldFrame} {f : FrameNo}

/-- The marker run that a frame of a span goes by (R54). -/
theorem runFor_eq (s : State) (sp : Span) (afa : Afa) : runFor s sp afa = match sp.prev with
    | some _ => s.formatter.run
    | none => sp.marker.map fun k =>
        ⟨k.kind, if k.number = 0 then autoNumber s.tapeMap.index afa else k.number, 0⟩ := by
  unfold runFor
  cases sp.prev <;> rfl

theorem programFor_eq (s : State) (sp : Span) (o : OldFrame) (run : Option MarkerRun) : programFor s sp o run =
    match run with
    | some r => ⟨r.number, some r.kind, r.next⟩
    | none => ⟨programNumber s sp o, none, 0⟩ := by
  unfold programFor
  cases run <;> rfl

/-- A build stop of a first frame: the open is cancelled and the entry ends in FAULT (R44, R129). -/
theorem buildStop_first_ends {kind : ErrorKind} {k : Fin 32} (d : ErrorDetail) (hkind : kind ≠ .unloaded)
    (hprev : sp.prev = none) (hpending : s.formatter.pendingOpen.isSome = true) (hheld : s.seq.held = some k)
    (hwrite : inWrite s = true) :
    let v := buildStop sp kind d s
    v.seq = s.seq.failed k ⟨kind, .run, k + 1, d, knownAfa s⟩ ∧
      v.formatter.pendingOpen = none ∧ v.formatter.build = none ∧ v.formatter.run = none ∧
      v.formatter.gate = s.formatter.gate ∧ v.formatter.written = s.formatter.written ∧
      ∀ ch, v.blend.get ch = ⟨0, 0, none, none, false⟩ := by
  intro v
  have hv : v = failEntry kind d k (cutRequest (openCancelled s)) := buildStop_first d hprev hpending hheld hwrite
  have hwalk := (failEntry_walkFrame kind d k (cutRequest (openCancelled s))).formatter
  have hseq := failEntry_seq_of_ne d hkind k (cutRequest (openCancelled s))
  have hblend := failEntry_blend_get kind d (s := cutRequest (openCancelled s)) hheld k
  rw [← hv] at hwalk hseq hblend
  exact ⟨hseq, by rw [hwalk]; rfl, by rw [hwalk]; rfl, by rw [hwalk]; rfl, by rw [hwalk]; rfl, by rw [hwalk]; rfl, hblend⟩

end

/-- Settles O46: MARKER_RUN_END is a close request naming the frame being built; in a tick nothing between the frame just
blended and the next lets go of the span (`TickGoes`) or of the old frame (`OldKept`); and the building begins by the three
branches of `buildStart_marked`. -/
theorem markRunEnds : Obligations.MarkRunEnds := by
  refine ⟨fun s => ⟨fun r hr hdue => ?_, fun h => congrArg Host.Outcome.next (runEnd_of_not_due fun hdue => ?_)⟩,
    fun dir us s hb => ?_, fun u hbuild => ?_⟩
  · intro f
    have hexec : exec .markerRunEnd s = .next (markRunReport (s.transport.tick - 1) (runEnded s)) :=
      congrArg Host.Outcome.next (runEnd_of_due (runEndDue_iff.2 ⟨r, hr, hdue⟩))
    refine ⟨fun k hheld hmark hstate => ?_, fun h => by rw [hexec, markRunReport_other (s := runEnded s) h]; rfl⟩
    intro last closing point dropped
    rw [hexec, markRunReport_mark (s := runEnded s) hheld hmark hstate]
    have hpoint : closePointFor last (runEnded s) = point := closePointFor_blended (runEnded s)
    have hdropped : Dropped last (runEnded s) ↔ dropped := by
      unfold Dropped
      rw [hpoint]
      rfl
    refine ⟨fun hopen hkeep => ?_, fun hopen hdrop => ?_, fun sp hclosed hpending => ?_, fun hclosed hpending => ?_⟩
    · rw [closeRequest_opened (s := runEnded s) hopen (fun h => hkeep (hdropped.1 h)), hpoint]
      rfl
    · rw [closeRequest_opened_drops (s := runEnded s) hopen (hdropped.2 hdrop), hpoint]
      rfl
    · rw [closeRequest_pending (s := runEnded s) hclosed hpending]
      rfl
    · rw [closeRequest_closed (s := runEnded s) hclosed hpending]
      rfl
  · obtain ⟨r, hr, hge⟩ := runEndDue_iff.1 hdue
    have := h r hr
    omega
  · have ht := frameTick_eq_beforeBuild (dir := dir) (us := us) hb
    have hset := beforeBuild_settings (dir := dir) (us := us) (s := s)
    obtain ⟨o, ho, hposition⟩ := beforeBuild_oldFrame (dir := dir) (us := us) hb
    have hgoes := beforeBuild_goes (dir := dir) (us := us) (s := s)
    have hnone := beforeBuild_build (dir := dir) (us := us) (s := s)
    have hlist : (beforeBuild dir us s).editList = s.editList := hset.editList
    have hrate : (beforeBuild dir us s).formatter.recordRate = s.formatter.recordRate := hset.recordRate
    refine ⟨frameTick dir us s, beforeBuild dir us s, rfl, ?_⟩
    clear hset
    generalize frameTick dir us s = t at *
    generalize beforeBuild dir us s = u at *
    have hstart := buildStart_workFrame u
    have hsend := startSending_workFrame (buildStart u)
    have hend := ho.after ((buildStart_oldKept u).trans (startSending_oldKept (buildStart u)))
    rw [← ht] at hend
    refine ⟨?_, ?_, ?_, hlist, hnone, ho.now, hrate, fun hf => ?_, ⟨?_, ?_, ?_⟩, ho.carried, o, hend.next, ho.frame,
      ho.rights, ho.program, ho.edit, hposition, fun c hc => ⟨?_, ?_, ?_⟩, fun hc => ?_⟩
    · rw [ht, hsend.transport, hstart.transport]
    · rw [ht, hsend.clock, hstart.clock]
    · rw [ht, startSending_tapeMap, buildStart_tapeMap]
    · obtain ⟨hspan, hrun, hgate, hpoint, hpending⟩ := hgoes hf
      exact ⟨hspan, hrun, hgate, hpoint, fun _ => hpending⟩
    · rw [ht, startSending_seq]
    · rw [ht, startSending_only]
    · rw [ht, startSending_only]
    · rw [ho.rate c hc, decoderResult_rate hc]
    · exact ho.identity.trans (congrArg TickResult.identity hc)
    · exact ho.completed.trans (congrArg TickResult.completed hc)
    · obtain ⟨hidentity, hcompleted⟩ := TickResult.not_completion hc
      exact ⟨ho.identity.trans hidentity, ho.completed.trans hcompleted⟩
  · intro v m f pend going
    refine ⟨fun h => buildStart_unmarked (markedSpan_none h), fun sp hmarked => ?_⟩
    intro unread o rate fresh afa numbered begun run number pack error stops
    have hold : oldFrameFor u f = o := oldFrameFor_eq u f
    have hafa : spanAfa sp = afa := spanAfa_eq sp
    have hrate : spanRate u sp o = rate := rfl
    have hrun : (runFor u sp afa).filter (fun r => r.next < 100) = run :=
      congrArg (Option.filter fun r => decide (r.next < 100)) (runFor_eq u sp afa)
    have hpack : programFor u sp o run = pack := (programFor_eq u sp o run).trans <|
      congrArg (fun n => match run with
        | some r => (⟨r.number, some r.kind, r.next⟩ : ProgramPack)
        | none => ⟨n, none, 0⟩) (programNumber_eq u sp o)
    have hv : v = if rate ≠ u.clock.rate then buildStop sp .rate .absent u
        else if 1048575 < afa then buildStop sp .range .address u else beginBuild f sp o u := by
      have h := buildStart_marked (markedSpan_iff.2 hmarked)
      rw [show oldFrameFor u (blendedFrame u) = o from hold, hrate, hafa] at h
      exact h
    have hstops : ∀ kind d, kind ≠ .unloaded → v = buildStop sp kind d u → stops kind d := fun kind d hkind hstop => by
      intro k hheld hstate
      have hwrite := (inWrite_iff u).2 hstate
      refine ⟨fun hprev hpending => ?_, fun hprev hopen hpoint => ?_⟩
      · rw [hstop]
        exact buildStop_first_ends d hkind hprev hpending hheld hwrite
      · rw [hstop]
        exact buildStop_later_eq d hkind hprev hopen hpoint hbuild hheld hwrite
    refine ⟨fun hne => hstops _ _ (by decide) ?_, fun heq hlt => hstops _ _ (by decide) ?_, fun heq hle => ?_,
      fun hheld => ?_⟩
    · rw [hv, if_pos hne]
    · rw [hv, if_neg (not_not_intro heq), if_pos hlt]
    · have hbegin : v = { u with formatter := { noteBuilt f { sp with prev := some (afa, pack.number) } m with
          build := some ⟨f, afa, rate, sp.kind, pack, o, [], none⟩
          run := run.map fun r => { r with next := r.next + 1 } } } := by
        rw [hv, if_neg (not_not_intro heq), if_neg (Nat.not_lt.2 hle)]
        unfold beginBuild
        simp only [hafa, hrun, hpack, hrate]
        rfl
      refine ⟨?_, fun hpend => ?_, fun hgoing hnone => ?_⟩
      · obtain ⟨p, x, hnote⟩ := noteBuilt_settings f { sp with prev := some (afa, pack.number) } m
        rw [hnote] at hbegin
        rw [hbegin]
      · rw [noteBuilt_pending (x := { sp with prev := some (afa, pack.number) }) hpend.1 hpend.2.1 rfl] at hbegin
        rw [hbegin]
        exact ⟨rfl, rfl⟩
      · rw [noteBuilt_going hnone] at hbegin
        rw [hbegin]
        exact ⟨rfl, hnone⟩
    · exact ⟨autoNumber_first, fun e he hlt hmost => autoNumber_after hheld.2 he hlt hmost⟩

end Sys2Proof.Machine

namespace Sys2Proof.Machine
open Sys2Proof

-- One theorem at a time: the whole text is also compiled as one, where a thread for each theorem in flight asks for more
-- memory than the check allows.
set_option Elab.async false

/-! ## A fetch at the pointer (R123, R124) -/

section
variable {s : State} {p q : Fin 32} {more : State → State} {x : ErrorKind}

/-- A sequencer stopped in FAULT by an error of phase FETCH. -/
def Sequencer.stoppedAt (q : Sequencer) (k : Fin 32) (r : ErrorRecord) : Sequencer :=
  { q with
    state := .fault, pointer := k, held := none, kept := false
    error := if q.error.isSome then q.error else some r }

theorem seqStop_stoppedAt {kind : ErrorKind} (hkind : kind ≠ .unloaded) (d : ErrorDetail) (k : Fin 32) (s : State) :
    (seqStop kind d k s).seq = s.seq.stoppedAt k ⟨kind, .fetch, k, d, knownAfa s⟩ := by
  rw [seqStop_seq]
  simp only [hkind, ne_eq, not_false_eq_true, and_true]
  rfl

/-- A stop is told to each port that reports it. -/
theorem seqStop_raises (kind : ErrorKind) (d : ErrorDetail) (k : Fin 32) (s : State) (q : Port)
    (hq : EventSet.has (s.ports.get q).report .seqFault = true) :
    EventSet.has ((seqStop kind d k s).ports.get q).events .seqFault = true := by
  have hframe := (recordError_seqFrame kind .fetch k d
    { s with seq := { s.seq with state := .fault, pointer := k } }).trans (giveUp_seqFrame _)
  unfold seqStop
  exact raised_has hframe .seqFault q hq

/-- The guard counting one entry passed. -/
def guarded (s : State) : State := { s with seq := { s.seq with guard := s.seq.guard + 1 } }

theorem fetchPass_loop (h : 32 ≤ s.seq.guard) : fetchPass p q more s = seqStop .loop .absent p (guarded s) :=
  if_pos (Nat.lt_succ_of_le h)

theorem fetchPass_end (h : s.seq.guard < 32) (hend : s.editList[p].endFlag = true) :
    fetchPass p q more s = endWalk .complete p (guarded s) :=
  (if_neg (Nat.not_lt.2 h)).trans (if_pos hend)

theorem fetchPass_more (h : s.seq.guard < 32) (hend : s.editList[p].endFlag = false) :
    fetchPass p q more s = more { s with seq := { s.seq with guard := s.seq.guard + 1, pointer := q } } :=
  (if_neg (Nat.not_lt.2 h)).trans (if_neg fun hc => by cases hend.symm.trans hc)

/-- The guard begun anew by an entry found. -/
def unguarded (s : State) : State := { s with seq := { s.seq with guard := 0 } }

theorem fetchFound_takes (h : entryError s s.editList[p] = none) : fetchFound p s = takeEntry p (unguarded s) := by
  have hsame : entryError (unguarded s) (unguarded s).editList[p] = none := h
  unfold fetchFound
  show (match entryError (unguarded s) (unguarded s).editList[p] with
    | some err => seqStop err .absent p (unguarded s)
    | none => takeEntry p (unguarded s)) = _
  rw [hsame]

theorem fetchFound_stops (h : entryError s s.editList[p] = some x) :
    fetchFound p s = seqStop x .absent p (unguarded s) := by
  have hsame : entryError (unguarded s) (unguarded s).editList[p] = some x := h
  unfold fetchFound
  show (match entryError (unguarded s) (unguarded s).editList[p] with
    | some err => seqStop err .absent p (unguarded s)
    | none => takeEntry p (unguarded s)) = _
  rw [hsame]

theorem fetch_nop (hp : s.seq.pointer = p) (h : entryAction s.editList[p] = .nop) :
    fetch s = fetchPass p (p + 1) fetch s := by
  subst hp
  rw [fetch_eq, h]
  rfl

theorem fetch_link (hp : s.seq.pointer = p) (h : entryAction s.editList[p] = .link) :
    fetch s = fetchPass p (entryTarget s.editList[p]) fetch s := by
  subst hp
  rw [fetch_eq, h]

theorem fetch_found (hp : s.seq.pointer = p) (h : entryAction s.editList[p] = .punch ∨
    entryAction s.editList[p] = .assemble ∨ entryAction s.editList[p] = .mark) : fetch s = fetchFound p s := by
  subst hp
  rw [fetch_eq]
  rcases h with h | h | h <;> rw [h]

/-! ### The checks of an entry found (R124) -/

variable {e : EditEntry}

theorem fieldAbsent_iff (h : entryAction e = .punch ∨ entryAction e = .assemble ∨ entryAction e = .mark) :
    fieldAbsent e = true ↔ (entryAction e ≠ .assemble ∧ entryIn e = none) ∨
      (entryAction e = .mark ∧ entryMarker e = none) := by
  rcases h with h | h | h <;> simp [fieldAbsent, h]

theorem recordsNew_iff (h : entryAction e = .punch ∨ entryAction e = .assemble ∨ entryAction e = .mark) :
    recordsNew e = true ↔ entryAction e ≠ .mark := by
  rcases h with h | h | h <;> simp [recordsNew, h]

theorem offsetFits_false_iff (s : State) (a : Option (Afa × Nat)) :
    offsetFits s a = false ↔ a.any (fun x => decide (pairsPerFrame s.formatter.recordRate ≤ x.2)) = true := by
  cases a <;> simp [offsetFits]

/-- An out-address two frames on lies after the in-address, so R124's order check adds nothing. -/
theorem spanFails_iff (a b : Option (Afa × Nat)) : spanFails a b = true ↔
    (match a, b with
      | some (ia, _), some (oa, _) => decide (oa < ia + 2)
      | _, _ => false) = true := by
  have hstart : ∀ ia io oa oo : ℕ,
      (!(decide (ia < oa) || (ia == oa && decide (io < oo))) || decide (oa < ia + 2)) = true ↔
        decide (oa < ia + 2) = true := fun ia io oa oo => by
    simp only [Bool.or_eq_true, Bool.not_eq_true', Bool.or_eq_false_iff, decide_eq_false_iff_not, decide_eq_true_eq]
    omega
  rcases a with _ | ⟨ia, io⟩ <;> rcases b with _ | ⟨oa, oo⟩
  · exact Iff.rfl
  · exact Iff.rfl
  · exact Iff.rfl
  · exact hstart ia io oa oo

/-- The first check that an entry found fails. -/
theorem entryError_eq (s : State)
    (h : entryAction e = .punch ∨ entryAction e = .assemble ∨ entryAction e = .mark) : entryError s e =
      if (entryAction e ≠ .assemble ∧ entryIn e = none) ∨ (entryAction e = .mark ∧ entryMarker e = none) then some .range
      else if entryAction e ≠ .mark ∧
        ((entryIn e).any (fun x => decide (pairsPerFrame s.formatter.recordRate ≤ x.2)) = true ∨
        (entryOut e).any (fun x => decide (pairsPerFrame s.formatter.recordRate ≤ x.2)) = true) then some .range
      else if entryAction e ≠ .mark ∧ (match entryIn e, entryOut e with
        | some (ia, _), some (oa, _) => decide (oa < ia + 2)
        | _, _ => false) = true then some .range
      else if entryAction e ≠ .assemble ∧ (s.tapeMap.pos.state = .unknown ∨ s.tapeMap.pos.state = .blank) then
        some .position
      else if isLate s e then some .late
      else if entryAction e = .punch ∧ isRehearsal e = false ∧ s.tapeMap.pos.rate ≠ some s.formatter.recordRate then
        some .rate
      else none := by
  unfold entryError
  simp only [fieldAbsent_iff h, recordsNew_iff h, Bool.and_eq_false_iff, offsetFits_false_iff, spanFails_iff]

theorem entryError_ne_unloaded (h : entryError s e = some x) : x ≠ .unloaded := by
  unfold entryError at h
  repeat' split at h
  all_goals
    rintro rfl
    cases h

end

end Sys2Proof.Machine

namespace Sys2Proof.Machine
open Sys2Proof

-- One theorem at a time: the whole text is also compiled as one, where a thread for each theorem in flight asks for more
-- memory than the check allows.
set_option Elab.async false

/-! ## A frame position at the sequencer (R122, R126 to R130) -/

/-- The in-address arrival of an entry: at its AFA, or within the write window when it names none (R126). -/
def Arrives (e : EditEntry) (fp : Option Afa) (decoding : Bool) (x : Transport) : Prop :=
  if e.inPresent then x.dir = .forward ∧ fp = some e.inAfa.toNat else decoding = true ∧ writeWindow x = true

/-- A frame position past the in-address (R126). -/
def PastIn (e : EditEntry) (fp : Option Afa) (x : Transport) : Prop :=
  e.inPresent = true ∧ x.dir = .forward ∧ ∃ p, fp = some p ∧ e.inAfa.toNat < p

section
variable {s : State} {fp : Option Afa} {st : PosState} {d : Bool} {k : Fin 32} {e : EditEntry}

theorem seqFramePosition_eq (fp : Option Afa) (st : PosState) (d : Bool) (s : State) : seqFramePosition fp st d s =
    match s.seq.state with
    | .armed => armedPosition fp st d (positionKept fp s)
    | .recording => recordingPosition fp (positionKept fp s)
    | .idle | .closing | .held | .fault => positionKept fp s := rfl

theorem seqFramePosition_armed (h : s.seq.state = .armed) :
    seqFramePosition fp st d s = armedPosition fp st d (positionKept fp s) := by
  rw [seqFramePosition_eq, h]

theorem seqFramePosition_recording (h : s.seq.state = .recording) :
    seqFramePosition fp st d s = recordingPosition fp (positionKept fp s) := by
  rw [seqFramePosition_eq, h]

theorem seqFramePosition_elsewhere (ha : s.seq.state ≠ .armed) (hr : s.seq.state ≠ .recording) :
    seqFramePosition fp st d s = positionKept fp s := by
  rw [seqFramePosition_eq]
  split
  · next h => exact absurd h ha
  · next h => exact absurd h hr
  all_goals rfl

/-- A position taken while ARMED: the arrival, LATE past it, and nothing before it (R126). -/
theorem armedPosition_arrives (hheld : s.seq.held = some k) (h : Arrives s.editList[k] fp d s.transport) :
    armedPosition fp st d s =
      inArrival k s.editList[k] fp st (if s.editList[k].inPresent then s.editList[k].inOffset.toNat else 0) s := by
  unfold armedPosition
  rw [heldEntry_of_held hheld]
  generalize s.editList[k] = e at h ⊢
  unfold Arrives at h
  cases hin : e.inPresent with
  | true =>
    rw [hin, if_pos rfl] at h
    obtain ⟨hdir, rfl⟩ := h
    simp only [entryIn, hin, if_true, hdir]
  | false =>
    rw [hin, if_neg Bool.false_ne_true] at h
    simp only [entryIn, hin, Bool.false_eq_true, if_false, if_pos h]

theorem armedPosition_late (hheld : s.seq.held = some k) (h : PastIn s.editList[k] fp s.transport) :
    armedPosition fp st d s = seqStop .late .absent k s := by
  obtain ⟨hin, hdir, p, rfl, hp⟩ := h
  unfold armedPosition
  rw [heldEntry_of_held hheld]
  generalize s.editList[k] = e at hin hp ⊢
  have hne : ¬ p = e.inAfa.toNat := Nat.ne_of_gt hp
  simp only [entryIn, hin, if_true, hdir, hne, if_false, if_pos hp]

theorem armedPosition_waits (hheld : s.seq.held = some k) (harrives : ¬ Arrives s.editList[k] fp d s.transport)
    (hlate : ¬ PastIn s.editList[k] fp s.transport) : armedPosition fp st d s = s := by
  unfold armedPosition
  rw [heldEntry_of_held hheld]
  generalize s.editList[k] = e at harrives hlate ⊢
  unfold Arrives at harrives
  cases hin : e.inPresent with
  | false =>
    rw [hin, if_neg Bool.false_ne_true] at harrives
    simp only [entryIn, hin, Bool.false_eq_true, if_false, if_neg harrives]
  | true =>
    rw [hin, if_pos rfl] at harrives
    simp only [entryIn, hin, if_true]
    cases hfp : fp with
    | none => rfl
    | some p =>
      by_cases hdir : s.transport.dir = .forward
      · have hne : ¬ p = e.inAfa.toNat := fun hp => harrives ⟨hdir, by rw [hfp, hp]⟩
        have hle : ¬ e.inAfa.toNat < p := fun hp => hlate ⟨hin, hdir, p, hfp, hp⟩
        simp only [hdir, if_true, hne, if_false, if_neg hle]
      · simp only [hdir, if_false]

/-! ### The conditions of the gate (R127) -/

/-- The first of the gate-open conditions that fails, the rights last. -/
theorem gateRefusal_eq (s : State) (e : EditEntry) : gateRefusal s e =
    if s.formatter.writeEnable = false then some (.writeOff, .absent)
    else if s.transport.prot then some (.tapeProtected, .absent)
    else if s.transport.mode ≠ .record then some (.mode, .notRecord)
    else if s.transport.lock = false then some (.mode, .noLock)
    else if s.transport.stalled = true ∨ s.transport.dir ≠ .forward ∨ s.transport.ratio < 990 ∨
      1010 < s.transport.ratio then some (.mode, .speed)
    else if recordsNew e = false then none
    else if selectedState s = .rightsNone then some (.denied, .rightsNone)
    else if selectedState s = .rightsUnstated then some (.denied, .rightsUnstated)
    else if entrySource e = .digital ∧ s.faults.records.input.action = true then some (.input, .absent) else none := by
  unfold gateRefusal
  by_cases hen : s.formatter.writeEnable = false
  · rw [if_pos hen, if_pos hen]
  rw [if_neg hen, if_neg hen]
  by_cases hprot : s.transport.prot = true
  · rw [if_pos hprot, if_pos hprot]
  rw [if_neg hprot, if_neg hprot]
  have hprot' : s.transport.prot = false := by simpa using hprot
  by_cases hmode : s.transport.mode ≠ .record
  · have hlost : writeWindow s.transport = false := by
      rw [← Bool.not_eq_true, writeWindow_iff]
      exact fun h => hmode h.1
    rw [if_pos hlost, if_pos hmode, if_pos hmode]
  rw [if_neg hmode, if_neg hmode]
  by_cases hlock : s.transport.lock = false
  · have hlost : writeWindow s.transport = false := by
      rw [← Bool.not_eq_true, writeWindow_iff]
      rintro ⟨-, h, -⟩
      cases hlock.symm.trans h
    rw [if_pos hlost, if_pos hlock, if_pos hlock]
  rw [if_neg hlock, if_neg hlock]
  have hspeed : writeWindow s.transport = false ↔ s.transport.stalled = true ∨ s.transport.dir ≠ .forward ∨
      s.transport.ratio < 990 ∨ 1010 < s.transport.ratio := by
    rw [← Bool.not_eq_true, writeWindow_iff]
    have hlock' : s.transport.lock = true := by simpa using hlock
    have hmode' : s.transport.mode = .record := not_not.1 hmode
    simp only [hmode', hlock', hprot', true_and, not_and_or, Bool.not_eq_false, not_le]
  simp only [hspeed]
  split
  · rfl
  · cases hnew : recordsNew e with
    | false => simp only [Bool.false_eq_true, if_false, if_true]
    | true => cases selectedState s <;> simp

theorem gateRefusal_ne_unloaded {y : ErrorKind × ErrorDetail} (h : gateRefusal s e = some y) : y.1 ≠ .unloaded := by
  rw [gateRefusal_eq] at h
  repeat' split at h
  all_goals cases h <;> decide

/-! ### An entry opened, and its out-address (R128, R130) -/

/-- A blend unit asked for an entry's fade-in at an offset. -/
def fadedIn (e : EditEntry) (o : Nat) (b : Blend) : Blend :=
  if recordsNew e then { b with
      left := if entryHasChannel e .left then b.left.askIn (fadeLength e.fadeIn.toNat) o else b.left
      right := if entryHasChannel e .right then b.right.askIn (fadeLength e.fadeIn.toNat) o else b.right }
  else b

/-- The formatter with an open request taken, where one is (R43). -/
def openAsked (sp : Span) (m : Formatter) : Formatter :=
  if m.gate = .closed ∨ m.closePoint.isSome then { m with pendingOpen := some sp } else m

theorem openEntry_rehearsal (o : Nat) (h : isRehearsal e = true) : openEntry e fp st o s =
    { s with blend := fadedIn e o s.blend, seq := { s.seq with state := .recording } } := by
  unfold openEntry fadedIn
  simp only [h, if_true]
  split <;> rfl

theorem openEntry_real (o : Nat) (h : isRehearsal e = false) : openEntry e fp st o s =
    { s with blend := fadedIn e o s.blend, seq := { s.seq with state := .recording }
             formatter := openAsked (spanOf e fp st s) s.formatter } := by
  unfold openEntry openRequest fadedIn openAsked
  simp only [h, Bool.false_eq_true, if_false]
  split <;> split <;> rfl

theorem inArrival_rehearsal (o : Nat) (h : isRehearsal e = true) : inArrival k e fp st o s = openEntry e fp st o s :=
  if_pos h

theorem inArrival_refused {y : ErrorKind × ErrorDetail} (o : Nat) (h : isRehearsal e = false)
    (hy : gateRefusal s e = some y) : inArrival k e fp st o s = seqStop y.1 y.2 k s := by
  unfold inArrival
  simp only [h, Bool.false_eq_true, if_false, hy]

theorem inArrival_opens (o : Nat) (h : isRehearsal e = false) (hy : gateRefusal s e = none) :
    inArrival k e fp st o s = openEntry e fp st o s := by
  unfold inArrival
  simp only [h, Bool.false_eq_true, if_false, hy]

/-- A position at or past the out-address: the fade-out is asked for (R130). -/
theorem recordingPosition_out {p : Afa} (hheld : s.seq.held = some k) (hdir : s.transport.dir = .forward)
    (hnew : recordsNew s.editList[k] = true) (hout : s.editList[k].outPresent = true)
    (hp : s.editList[k].outAfa.toNat ≤ p) : recordingPosition (some p) s =
      setSeqState .closing (fadeOutRequest s.editList[k]
        (if p = s.editList[k].outAfa.toNat then s.editList[k].outOffset.toNat else 0) s) := by
  unfold recordingPosition
  rw [heldEntry_of_held hheld]
  generalize s.editList[k] = e at *
  have hgo : s.transport.dir = .forward ∧ e.outAfa.toNat ≤ p := ⟨hdir, hp⟩
  simp only [entryOut, hout, hnew, Bool.and_self, if_true, if_pos hgo]

theorem recordingPosition_stays (hheld : s.seq.held = some k)
    (h : ¬ s.transport.dir = .forward ∨ recordsNew s.editList[k] = false ∨ s.editList[k].outPresent = false ∨
      ∀ p, fp = some p → p < s.editList[k].outAfa.toNat) : recordingPosition fp s = s := by
  unfold recordingPosition
  rw [heldEntry_of_held hheld]
  generalize s.editList[k] = e at *
  cases hnew : recordsNew e with
  | false => simp only [entryOut, hnew, Bool.and_false, Bool.false_eq_true, if_false]
  | true =>
    cases hout : e.outPresent with
    | false => simp only [entryOut, hout, Bool.false_and, Bool.false_eq_true, if_false]
    | true =>
      simp only [entryOut, hnew, hout, Bool.and_self, if_true]
      cases hfp : fp with
      | none => rfl
      | some p =>
        have hnot : ¬ (s.transport.dir = .forward ∧ e.outAfa.toNat ≤ p) := by
          rintro ⟨hdir, hle⟩
          rcases h with h | h | h | h
          · exact h hdir
          · cases hnew.symm.trans h
          · cases hout.symm.trans h
          · exact absurd hle (Nat.not_le_of_lt (h p hfp))
        simp only [if_neg hnot]

/-- The blend unit with a fade-out asked for on its selected channels. -/
def fadedOut (e : EditEntry) (o : Nat) (b : Blend) : Blend :=
  { b with
    left := b.left.askOut (fadeLength e.fadeOut.toNat) o, right := b.right.askOut (fadeLength e.fadeOut.toNat) o
    outAsked := true, lastFade := none }

theorem setSeqState_fadeOutRequest (e : EditEntry) (o : Nat) (s : State) :
    setSeqState .closing (fadeOutRequest e o s) =
      { s with blend := fadedOut e o s.blend, seq := { s.seq with state := .closing } } := rfl

end

end Sys2Proof.Machine

namespace Sys2Proof.Machine
open Sys2Proof

-- One theorem at a time: the whole text is also compiled as one, where a thread for each theorem in flight asks for more
-- memory than the check allows.
set_option Elab.async false

/-! ## The jump counter in a tick (R102) -/

/-- The jumps counted stand. -/
def SameJumps (s t : State) : Prop := t.faults.counters.jumps = s.faults.counters.jumps

section
variable {s t u : State}

theorem SameJumps.trans (h : SameJumps s t) (g : SameJumps t u) : SameJumps s u := Eq.trans g h

theorem SeqFrame.sameJumps (h : SeqFrame s t) : SameJumps s t := congrArg Counters.jumps h.counters

theorem ClogOnly.sameJumps (h : ClogOnly s t) : SameJumps s t := by
  unfold ClogOnly at h
  rw [h]
  rfl

theorem verifyStep_sameJumps (path : ReadPath) (scan : Option Afa) (j : Bool) (t : Tally) (s : State) :
    SameJumps s (verifyStep path scan j t s) := by
  rw [verifyStep_only path scan j t s]
  rfl

theorem positionReport_sameJumps (d : FaultDetail) (s : State) : SameJumps s (positionReport d s) :=
  (positionReport_seqFrame d s).sameJumps

theorem tickTransport_sameJumps (dir : Direction) (us : Nat) (s : State) : SameJumps s (tickTransport dir us s) := by
  have hrange : ∀ u, SameJumps u (verifyRange s.transport u) := fun u => by
    rw [verifyRange_only]
    rfl
  have hmoved : SameJumps s (s.withTransport (s.transport.atTick dir us)) := rfl
  exact hmoved.trans ((hrange _).trans ((windowLoss_seqFrame _ _).sameJumps.trans (evaluate_seqFrame _ _ _).sameJumps))

theorem buildAtTick_sameJumps (s : State) : SameJumps s (buildAtTick s) := by
  unfold buildAtTick
  split <;> rfl

theorem decoderTick_sameJumps (path : ReadPath) (r : TickResult) (s : State) : SameJumps s (decoderTick path r s) := by
  cases path <;> cases r <;> rfl

theorem tapeMapRest_sameJumps (packs : FramePacks) (b : Bool) (fp : Option Afa) (s : State) :
    SameJumps s (tapeMapRest packs b fp s) := by
  rw [tapeMapRest_only packs b fp s]
  rfl

theorem takeRightsPack_sameJumps (k : Option RightsPack) (s : State) : SameJumps s (takeRightsPack k s) := by
  rw [takeRightsPack_only k s]
  rfl

theorem preTally_sameJumps (r : TickResult) (s : State) : SameJumps s (preTally r s) := by
  have hrate : ∀ t u, SameJumps u (rateTally t u) := fun t u => by
    have hwindow : ∀ w, SameJumps u { u with faults := { u.faults with window := w } } := fun _ => rfl
    unfold rateTally
    simp only
    split
    · rfl
    · exact (hwindow _).trans (evaluate_seqFrame _ _ _).sameJumps
  unfold preTally
  split
  · exact (evaluate_seqFrame _ _ s).sameJumps.trans ((hrate _ _).trans (clogTally_only _ _ _).sameJumps)
  · rfl
  · rfl

theorem seqFramePosition_sameJumps (fp : Option Afa) (st : PosState) (d : Bool) (s : State) :
    SameJumps s (seqFramePosition fp st d s) := by
  have hkept : SameJumps s (positionKept fp s) := rfl
  rw [seqFramePosition_eq]
  split
  · exact hkept.trans (armedPosition_seqFrame _ _ _ _).sameJumps
  · exact hkept.trans (recordingPosition_seqFrame _ _).sameJumps
  all_goals exact hkept

theorem verifyResult_sameJumps (path : ReadPath) (r : TickResult) (scan : Option Afa) (j : Bool) (s : State) :
    SameJumps s (verifyResult path r scan j s) := by
  unfold verifyResult
  split
  · exact verifyStep_sameJumps _ _ _ _ s
  · rfl
  · rfl

theorem confTick_sameJumps (s : State) : SameJumps s (confTick s) := by
  have hnote : ∀ u, SameJumps u (noteConf u) := fun u => by
    unfold noteConf
    split <;> rfl
  have hremoved : ∀ u l, SameJumps u { noteConf u with formatter := { (noteConf u).formatter with written := l } } :=
    fun u _ => hnote u
  have hcheck : ∀ t u, SameJumps u (confirmTally t u) := fun t u => by
    unfold confirmTally
    simp only
    repeat' split
    · exact hnote u
    · exact hremoved u _
    · exact (hremoved u _).trans (conditionTo_seqFrame _ _ _).sameJumps
    · exact (hremoved u _).trans (evaluate_seqFrame _ _ _).sameJumps
  rw [confTick_eq]
  refine (decoderTick_sameJumps .conf (decoderResult .conf s) s).trans ?_
  unfold confUsers
  split
  · exact (hcheck _ _).trans ((clogTally_only _ _ _).sameJumps.trans (verifyStep_sameJumps _ _ _ _ _))
  · rfl
  · rfl

theorem tickBack_sameJumps (s : State) : SameJumps s (tickBack s) := by
  have hmap : SameJumps s (tapeMapTick s) := by
    have hmoved : SameJumps s { s with tapeMap := { s.tapeMap with
        periodValue := s.tapeMap.pos.afa, pos := (s.tapeMap.pos.tick s.transport.dir).1 } } := rfl
    unfold tapeMapTick
    simp only
    split
    · exact hmoved.trans (positionReport_sameJumps _ _)
    · exact hmoved
  have hposition : ∀ u, SameJumps u (positionTick u) := fun u => by
    have htag : ∀ tag, SameJumps u { u with faults := { u.faults with positionTag := tag } } := fun _ => rfl
    unfold positionTick
    repeat' split
    · exact (htag _).trans (conditionTo_seqFrame _ _ _).sameJumps
    · rfl
    · rfl
  have hblend : ∀ u, SameJumps u (tickBlend u) := fun _ => rfl
  have hclock : ∀ u, SameJumps u (tickClock u) := fun _ => rfl
  exact hmap.trans ((hblend _).trans ((hposition _).trans (hclock _)))

theorem buildStart_sameJumps (s : State) : SameJumps s (buildStart s) := by
  have hstop : ∀ sp kind d, SameJumps s (buildStop sp kind d s) := fun sp kind d => by
    have hcancelled : SameJumps s (openCancelled s) := rfl
    unfold buildStop
    split
    · exact hcancelled.trans (seqRefused_seqFrame _ _ _).sameJumps
    · exact (closeRequest_seqFrame (writtenFrame s) s).sameJumps.trans (seqLaterStop_seqFrame _ _ _).sameJumps
  unfold buildStart
  simp only
  repeat' split
  · rfl
  · exact hstop _ _ _
  · exact hstop _ _ _
  · rfl

theorem startSending_sameJumps (s : State) : SameJumps s (startSending s) := by
  unfold startSending
  simp only
  split <;> rfl

/-- A jump is counted at the arrival (R102). -/
theorem arrivalMoved_jumps (r : TickResult) (s : State) : (arrivalMoved r s).faults.counters.jumps =
    if (s.tapeMap.pos.handle r.packs.position).2 = .jumped then s.faults.counters.jumps + 1
    else s.faults.counters.jumps := by
  unfold arrivalMoved
  simp only
  split
  · rw [reportJump_eq]
    exact SameJumps.trans (positionReport_sameJumps _ _) (seqForcedCloseAll_seqFrame _ _ _).sameJumps
  · rfl

theorem tapeMapArrival_jumps (r : TickResult) (s : State) : (tapeMapArrival r s).faults.counters.jumps =
    if (s.tapeMap.pos.handle r.packs.position).2 = .jumped then s.faults.counters.jumps + 1
    else s.faults.counters.jumps := by
  rw [← arrivalMoved_jumps, tapeMapArrival_eq, beforeRightsPack_eq]
  have hkept : ∀ fp st u, SameJumps u (keepOldFrame r fp st u) := fun _ _ _ => rfl
  have hafter : ∀ u, SameJumps u (afterRightsPack r s u) := fun u =>
    (preTally_sameJumps r u).trans ((seqFramePosition_sameJumps _ _ _ _).trans (verifyResult_sameJumps _ _ _ _ _))
  exact (tapeMapRest_sameJumps _ _ _ _).trans ((hkept _ _ _).trans ((takeRightsPack_sameJumps _ _).trans (hafter _)))

/-- A tick whose jump counter stands brought no jump. -/
theorem not_jumped_of_jumps (hloaded : s.transport.mode ≠ .unloaded)
    (hjumps : (startSending (buildStart (tickMiddle s))).faults.counters.jumps = s.faults.counters.jumps) :
    (s.tapeMap.pos.handle (decoderResult .pre s).packs.position).2 ≠ .jumped := by
  intro hjumped
  have hmiddle : tickMiddle s = tickBack (confTick (preTick s)) := rfl
  have hpre := tapeMapArrival_jumps (decoderResult .pre s) (decoderTick .pre (decoderResult .pre s) s)
  rw [← preTick_of_loaded hloaded, decoderTick_tapeMap, if_pos hjumped] at hpre
  rw [hmiddle] at hjumps
  have hend : SameJumps (preTick s) (startSending (buildStart (tickBack (confTick (preTick s))))) :=
    (confTick_sameJumps _).trans ((tickBack_sameJumps _).trans
      ((buildStart_sameJumps _).trans (startSending_sameJumps _)))
  have hdecoder : SameJumps s (decoderTick .pre (decoderResult .pre s) s) := decoderTick_sameJumps _ _ s
  unfold SameJumps at hend hdecoder
  rw [hend, hpre, hdecoder] at hjumps
  simp at hjumps

end

end Sys2Proof.Machine

namespace Sys2Proof.Machine
open Sys2Proof

-- One theorem at a time: the whole text is also compiled as one, where a thread for each theorem in flight asks for more
-- memory than the check allows.
set_option Elab.async false

/-! ## The parts of a tick that leave the entry as it is -/

/-- What the held entry goes by stands: the sequencer, the blend unit, the gate, the settings and the INPUT record. -/
structure Calm (s t : State) : Prop where
  seq : t.seq = s.seq := by rfl
  blend : t.blend = s.blend := by rfl
  editList : t.editList = s.editList := by rfl
  transport : t.transport = s.transport := by rfl
  gate : t.formatter.gate = s.formatter.gate := by rfl
  pendingOpen : t.formatter.pendingOpen = s.formatter.pendingOpen := by rfl
  writeEnable : t.formatter.writeEnable = s.formatter.writeEnable := by rfl
  defaultSource : t.formatter.defaultSource = s.formatter.defaultSource := by rfl
  analogRights : t.formatter.analogRights = s.formatter.analogRights := by rfl
  digital : t.rights.digital = s.rights.digital := by rfl
  input : t.faults.records.input = s.faults.records.input := by rfl
  position : t.faults.records.position.mode = s.faults.records.position.mode := by rfl

/-- No forced close reaches the entry: it does not write, or no gate is open or about to open. -/
def Unforced (s : State) : Prop := inWrite s = false ∨ gateInPlay s = false

/-- POSITION takes no action: it warns at most (R159). -/
def PositionWarns (s : State) : Prop := appliesAction s.faults.records.position.mode = false

section
variable {s t u : State}

theorem Calm.refl (s : State) : Calm s s := {}

theorem Calm.trans (h : Calm s t) (g : Calm t u) : Calm s u :=
  ⟨g.seq.trans h.seq, g.blend.trans h.blend, g.editList.trans h.editList, g.transport.trans h.transport,
    g.gate.trans h.gate, g.pendingOpen.trans h.pendingOpen, g.writeEnable.trans h.writeEnable,
    g.defaultSource.trans h.defaultSource, g.analogRights.trans h.analogRights, g.digital.trans h.digital,
    g.input.trans h.input, g.position.trans h.position⟩

theorem Calm.inWrite (h : Calm s t) : inWrite t = inWrite s := by
  unfold Machine.inWrite
  rw [h.seq]

theorem Calm.gateInPlay (h : Calm s t) : gateInPlay t = gateInPlay s := by
  unfold Machine.gateInPlay
  rw [h.gate, h.pendingOpen]

theorem Calm.unforced (h : Calm s t) (hs : Unforced s) : Unforced t := by
  unfold Unforced
  rw [h.inWrite, h.gateInPlay]
  exact hs

theorem Calm.positionWarns (h : Calm s t) (hs : PositionWarns s) : PositionWarns t := by
  unfold PositionWarns
  rw [h.position]
  exact hs

theorem Calm.selectedState (h : Calm s t) : selectedState t = selectedState s := by
  unfold Machine.selectedState selectedSource heldEntry stateOfSource
  rw [h.seq, h.editList, h.defaultSource, h.digital, h.analogRights]

/-! ### The fault monitor -/

/-- A condition evaluated leaves the records of the other kinds. -/
theorem conditionTo_get_of_ne {j k : FaultKind} (h : j ≠ k) (c : Option FaultDetail) (s : State) :
    (conditionTo k c s).faults.records.get j = s.faults.records.get j := by
  have hset : ∀ r u, (setRecord k r u).faults.records.get j = u.faults.records.get j := fun r u =>
    FaultRecords.get_set_of_ne _ _ _ _ h
  have hraise : ∀ d u, (faultRaise k d u).faults.records.get j = u.faults.records.get j := fun d u => by
    unfold faultRaise
    simp only
    split
    · rfl
    · exact hset _ u
  have hend : ∀ u, (endAction k u).faults.records.get j = u.faults.records.get j := fun u => by
    unfold endAction
    simp only
    split
    · exact hset _ u
    · rfl
  unfold conditionTo
  simp only
  repeat' split
  · rfl
  · exact (hraise _ _).trans (hset _ s)
  · exact (hend _).trans (hset _ s)
  · exact hset _ s
  · rfl

theorem conditionTo_calm {k : FaultKind} (hk : k ≠ .input) (c : Option FaultDetail) (s : State) :
    Calm s (conditionTo k c s) := by
  have hframe := conditionTo_seqFrame k c s
  have hformatter := conditionTo_formatter k c s
  have hposition : (conditionTo k c s).faults.records.position.mode = s.faults.records.position.mode := by
    by_cases hp : FaultKind.position = k
    · subst hp
      have hget := conditionTo_get .position c s
      exact (congrArg FaultRecord.mode hget).trans (FaultRecord.under_mode _ _ _)
    · exact congrArg FaultRecord.mode (conditionTo_get_of_ne hp c s)
  exact ⟨conditionTo_seq k c s, conditionTo_blend k c s, hframe.editList, hframe.transport, by rw [hformatter],
    by rw [hformatter], by rw [hformatter], by rw [hformatter], by rw [hformatter], hframe.digital,
    conditionTo_get_of_ne hk.symm c s, hposition⟩

theorem seqForcedClose_unforced (h : Unforced s) (kind : ErrorKind) (d : ErrorDetail) :
    seqForcedClose kind d s = s := by
  rcases h with h | h
  · refine seqForcedClose_of_not_writing ?_ kind d
    rw [← Bool.not_eq_true, writingEntry_iff]
    rintro ⟨hstate, -⟩
    rw [(inWrite_iff s).2 hstate] at h
    cases h
  · exact seqForcedClose_of_not_inPlay h kind d

theorem applyAction_unforced {k : FaultKind} (hk : k ≠ .position) (h : Unforced s) : applyAction k s = s := by
  unfold applyAction
  cases k
  case position => exact absurd rfl hk
  case servo | confirm | input => exact seqForcedClose_unforced h _ _
  all_goals rfl

/-- An evaluation with no entry to force closed leaves it as it is. -/
theorem evaluate_calm {k : FaultKind} (hk : k ≠ .position) (hi : k ≠ .input) (c : Option FaultDetail) (h : Unforced s) :
    Calm s (evaluate k c s) := by
  have hcalm := conditionTo_calm hi c s
  rw [evaluate_of_no_action (applyAction_unforced hk (hcalm.unforced h))]
  exact hcalm

theorem evaluate_calm_of_idle {k : FaultKind} (hi : k ≠ .input) (c : Option FaultDetail)
    (h : ∀ u, applyAction k u = u) : Calm s (evaluate k c s) := by
  rw [evaluate_of_no_action (h _)]
  exact conditionTo_calm hi c s

theorem raisedWithAction_of_warns (h : PositionWarns s) (c : Option FaultDetail) :
    raisedWithAction .position s (conditionTo .position c s) = false := by
  have hmode : ((conditionTo .position c s).faults.records.get .position).mode = s.faults.records.position.mode :=
    (conditionTo_calm (by decide) c s).position
  unfold raisedWithAction
  rw [hmode, h, Bool.and_false]

/-- A POSITION that only warns stops no entry. -/
theorem positionReport_calm (h : PositionWarns s) (d : FaultDetail) : Calm s (positionReport d s) := by
  unfold positionReport
  split
  · exact .refl s
  · have htag : Calm s { s with faults := { s.faults with positionTag := some s.transport.tick } } := {}
    rw [evaluate_of_not_raised (raisedWithAction_of_warns (htag.positionWarns h) _)]
    exact htag.trans (conditionTo_calm (by decide) _ _)

theorem seqForcedCloseAll_of_not_inWrite (h : inWrite s = false) (kind : ErrorKind) (d : ErrorDetail) :
    seqForcedCloseAll kind d s = s := by
  unfold seqForcedCloseAll
  split
  · rfl
  · exact if_neg (by simp [h])

theorem reportJump_calm (hw : inWrite s = false) (h : PositionWarns s) : Calm s (reportJump s) := by
  have hcounted : Calm s (jumpCounted s) := {}
  have hreport := hcounted.trans
    (positionReport_calm (hcounted.positionWarns h) (.positionJump s.tapeMap.pos.afa))
  rw [reportJump_eq]
  unfold seqJump
  rw [seqForcedCloseAll_of_not_inWrite (hreport.inWrite.trans hw)]
  exact hreport

theorem ClogOnly.calm (h : ClogOnly s t) : Calm s t := by
  unfold ClogOnly at h
  rw [h]
  exact {}

theorem verifyStep_calm (path : ReadPath) (scan : Option Afa) (j : Bool) (t : Tally) (s : State) :
    Calm s (verifyStep path scan j t s) := by
  rw [verifyStep_only path scan j t s]
  exact {}

theorem verifyResult_calm (path : ReadPath) (r : TickResult) (scan : Option Afa) (j : Bool) (s : State) :
    Calm s (verifyResult path r scan j s) := by
  unfold verifyResult
  split
  · exact verifyStep_calm _ _ _ _ s
  · exact .refl s
  · exact .refl s

theorem preTally_calm (r : TickResult) (s : State) : Calm s (preTally r s) := by
  have hrate : ∀ t u, Calm u (rateTally t u) := fun t u => by
    have hwindow : ∀ w, Calm u { u with faults := { u.faults with window := w } } := fun _ => {}
    unfold rateTally
    simp only
    split
    · exact .refl u
    · exact (hwindow _).trans (evaluate_calm_of_idle (by decide) _ fun _ => rfl)
  unfold preTally
  split
  · exact Calm.trans (evaluate_calm_of_idle (by decide) _ fun _ => rfl)
      ((hrate _ _).trans (clogTally_only _ _ _).calm)
  · exact .refl s
  · exact .refl s

/-! ### The blocks of a tick -/

/-- A change at the transport interface that ends no write: the gate is CLOSED, or the write window holds. -/
theorem tickTransport_calm {dir : Direction} {us : Nat}
    (h : (s.formatter.gate = .closed ∧ Unforced s) ∨ writeWindow (s.transport.atTick dir us) = true) :
    Calm (s.withTransport (s.transport.atTick dir us)) (tickTransport dir us s) := by
  generalize hm : s.withTransport (s.transport.atTick dir us) = m
  have hrange : Calm m (verifyRange s.transport m) := by
    rw [verifyRange_only]
    exact {}
  have hloss : windowLoss s.transport (verifyRange s.transport m) = verifyRange s.transport m := by
    refine if_neg ?_
    rintro ⟨-, hlost, hopen, -⟩
    rw [hrange.transport] at hlost
    rw [hrange.gate] at hopen
    subst hm
    rcases h with ⟨hclosed, -⟩ | hwindow
    · cases hclosed.symm.trans hopen
    · cases hwindow.symm.trans hlost
  have heq : tickTransport dir us s = evaluateServo (verifyRange s.transport m) := by
    rw [← hloss, ← hm]
    rfl
  rw [heq]
  refine hrange.trans ?_
  unfold evaluateServo
  rcases h with ⟨-, hunforced⟩ | hwindow
  · refine evaluate_calm (by decide) (by decide) _ (hrange.unforced ?_)
    rw [← hm]
    exact hunforced
  · have hquiet : servoCondition (verifyRange s.transport m).transport = none := by
      rw [hrange.transport, ← hm]
      obtain ⟨hmode, hlock, -, hstalled, -, hlow, hhigh⟩ := (writeWindow_iff _).1 hwindow
      have hspeed : ¬ ((s.transport.atTick dir us).ratio < 850 ∨ 1150 < (s.transport.atTick dir us).ratio) := by omega
      show servoCondition (s.transport.atTick dir us) = none
      simp [servoCondition, hmode, hlock, hstalled, hspeed]
    rw [hquiet, evaluate_of_not_raised (not_raisedWithAction_condition _ (.inl rfl))]
    exact conditionTo_calm (by decide) _ _

theorem buildAtTick_calm (s : State) : Calm s (buildAtTick s) := by
  unfold buildAtTick
  split <;> exact {}

theorem decoderTick_calm (path : ReadPath) (r : TickResult) (s : State) : Calm s (decoderTick path r s) := by
  cases path <;> cases r <;> exact {}

/-- The jump a completion brings is no matter to an entry that does not write. -/
theorem arrivalMoved_calm (r : TickResult) (h : PositionWarns s)
    (hw : (s.tapeMap.pos.handle r.packs.position).2 = .jumped → inWrite s = false) : Calm s (arrivalMoved r s) := by
  have hmoved : Calm s (s.withPosition (s.tapeMap.pos.handle r.packs.position).1) := {}
  unfold arrivalMoved
  simp only
  split
  · next hj => exact hmoved.trans (reportJump_calm (hmoved.inWrite.trans (hw hj)) (hmoved.positionWarns h))
  · exact hmoved

theorem tapeMapRest_calm (packs : FramePacks) (b : Bool) (fp : Option Afa) (s : State) :
    Calm s (tapeMapRest packs b fp s) := by
  rw [tapeMapRest_only packs b fp s]
  exact {}

theorem takeRightsPack_calm (k : Option RightsPack) (s : State) : Calm s (takeRightsPack k s) := by
  rw [takeRightsPack_only k s]
  exact {}

theorem beforeRightsPack_calm (r : TickResult) (h : PositionWarns s)
    (hw : (s.tapeMap.pos.handle r.packs.position).2 = .jumped → inWrite s = false) :
    Calm s (beforeRightsPack r s) := by
  have hkept : ∀ fp st u, Calm u (keepOldFrame r fp st u) := fun _ _ _ => {}
  rw [beforeRightsPack_eq]
  exact (arrivalMoved_calm r h hw).trans ((tapeMapRest_calm _ _ _ _).trans (hkept _ _ _))

/-- The PRE decoder's part of a tick: the frame position reaches the sequencer, and nothing else the entry goes by. -/
theorem preTick_calm (hloaded : s.transport.mode ≠ .unloaded) (h : PositionWarns s)
    (hw : (s.tapeMap.pos.handle (decoderResult .pre s).packs.position).2 = .jumped → inWrite s = false) :
    ∃ g fp st d, Calm s g ∧ Calm (seqFramePosition fp st d g) (preTick s) ∧ (preTick s).seq.lastPosition = fp := by
  have hdecoder := decoderTick_calm .pre (decoderResult .pre s) s
  have htape := decoderTick_tapeMap .pre (decoderResult .pre s) s
  rw [preTick_of_loaded hloaded]
  generalize decoderResult .pre s = r at hw hdecoder htape ⊢
  generalize decoderTick .pre r s = v at hdecoder htape ⊢
  rw [← htape] at hw
  have hbefore := beforeRightsPack_calm r (hdecoder.positionWarns h) fun hj => hdecoder.inWrite.trans (hw hj)
  refine ⟨preTally r (takeRightsPack r.packs.rights (beforeRightsPack r v)), arrivalPosition r v,
    (v.tapeMap.pos.handle r.packs.position).1.state, r.completed,
    hdecoder.trans (hbefore.trans ((takeRightsPack_calm _ _).trans (preTally_calm _ _))), ?_, (tapeMapArrival_hold r v).2⟩
  rw [tapeMapArrival_eq]
  exact verifyResult_calm _ _ _ _ _

/-- The CONF decoder's part: with nothing on the written list, or no entry to force closed, no check can stop it. -/
theorem confTick_calm (h : s.formatter.written = [] ∨ Unforced s) : Calm s (confTick s) := by
  have hnote : ∀ u, Calm u (noteConf u) := fun u => by
    unfold noteConf
    split <;> exact {}
  have hremoved : ∀ u l, Calm u { noteConf u with formatter := { (noteConf u).formatter with written := l } } := fun u l =>
    have hstep : Calm (noteConf u) { noteConf u with formatter := { (noteConf u).formatter with written := l } } := {}
    (hnote u).trans hstep
  have hcheck : ∀ t u, u.formatter.written = [] ∨ Unforced u → Calm u (confirmTally t u) := fun t u hu => by
    rcases hu with hempty | hunforced
    · have hunmatched : matchedEntry t u = none := by
        unfold matchedEntry
        rw [hempty]
        rfl
      rw [confirmTally_unmatched hunmatched]
      exact hnote u
    · unfold confirmTally
      simp only
      repeat' split
      · exact hnote u
      · exact hremoved u _
      · exact (hremoved u _).trans (conditionTo_calm (by decide) _ _)
      · exact (hremoved u _).trans (evaluate_calm (by decide) (by decide) _ ((hremoved u _).unforced hunforced))
  have hdecoder := decoderTick_calm .conf (decoderResult .conf s) s
  have hformatter := decoderTick_formatter .conf (decoderResult .conf s) s
  rw [confTick_eq]
  refine hdecoder.trans ?_
  unfold confUsers
  split
  · refine (hcheck _ _ ?_).trans ((clogTally_only _ _ _).calm.trans (verifyStep_calm _ _ _ _ _))
    rw [hformatter]
    exact h.imp_right hdecoder.unforced
  · exact .refl _
  · exact .refl _

theorem tapeMapTick_calm (h : PositionWarns s) : Calm s (tapeMapTick s) := by
  have hmoved : Calm s { s with tapeMap := { s.tapeMap with
      periodValue := s.tapeMap.pos.afa, pos := (s.tapeMap.pos.tick s.transport.dir).1 } } := {}
  unfold tapeMapTick
  simp only
  split
  · exact hmoved.trans (positionReport_calm (hmoved.positionWarns h) _)
  · exact hmoved

theorem positionTick_calm (s : State) : Calm s (positionTick s) := by
  have htag : ∀ tag, Calm s { s with faults := { s.faults with positionTag := tag } } := fun _ => {}
  unfold positionTick
  repeat' split
  · exact (htag _).trans (conditionTo_calm (by decide) _ _)
  · exact .refl s
  · exact .refl s

/-- The rest of a tick up to the building of its frame: the pending fades count one tick (R87). -/
theorem tickBack_calm (h : PositionWarns s) : Calm (tickBlend s) (tickBack s) := by
  have hmap := tapeMapTick_calm h
  have hclock : ∀ u, Calm u (tickClock u) := fun _ => {}
  have hblend : Calm (tickBlend s) (tickBlend (tapeMapTick s)) := by
    refine ⟨hmap.seq, ?_, hmap.editList, hmap.transport, hmap.gate, hmap.pendingOpen, hmap.writeEnable,
      hmap.defaultSource, hmap.analogRights, hmap.digital, hmap.input, hmap.position⟩
    unfold tickBlend
    simp only [hmap.blend]
  exact hblend.trans ((positionTick_calm _).trans (hclock _))

end

end Sys2Proof.Machine

namespace Sys2Proof.Machine
open Sys2Proof

-- One theorem at a time: the whole text is also compiled as one, where a thread for each theorem in flight asks for more
-- memory than the check allows.
set_option Elab.async false

/-! ## A tick's frame position (R122, R126, R130) -/

section
variable {dir : Direction} {us : Nat} {s t u : State} {k : Fin 32} {fp : Option Afa} {st : PosState} {d : Bool}
  {e : EditEntry}

theorem Calm.blendTicked (h : Calm s t) : Calm (tickBlend s) (tickBlend t) := by
  refine ⟨h.seq, ?_, h.editList, h.transport, h.gate, h.pendingOpen, h.writeEnable, h.defaultSource, h.analogRights,
    h.digital, h.input, h.position⟩
  unfold tickBlend
  simp only [h.blend]

theorem seqFramePosition_warns (h : PositionWarns s) : PositionWarns (seqFramePosition fp st d s) := by
  have hrecord : (seqFramePosition fp st d s).faults.records.get .position = s.faults.records.get .position := by
    rw [seqFramePosition_eq]
    split
    · exact (armedPosition_recFrame _ fp st d).get .position (by decide) (by decide)
    · exact (recordingPosition_recFrame _ fp).get .position (by decide) (by decide)
    all_goals rfl
  unfold PositionWarns
  have hmode : (seqFramePosition fp st d s).faults.records.position = s.faults.records.position := hrecord
  rw [hmode]
  exact h

/-- What the PRE decoder, the CONF decoder and the rest of a tick do to the held entry: its frame position is taken, then the
pending fades count one tick. -/
theorem tickMiddle_entry (hloaded : s.transport.mode ≠ .unloaded) (hwarns : PositionWarns s)
    (hw : (s.tapeMap.pos.handle (decoderResult .pre s).packs.position).2 = .jumped → inWrite s = false) :
    ∃ g st d, Calm s g ∧
      ((preTick s).formatter.written = [] ∨
          Unforced (seqFramePosition (startSending (buildStart (tickMiddle s))).seq.lastPosition st d g) →
        Calm (tickBlend (seqFramePosition (startSending (buildStart (tickMiddle s))).seq.lastPosition st d g))
          (tickMiddle s)) := by
  obtain ⟨g, fp, st, d, hg, hafter, hlast⟩ := preTick_calm hloaded hwarns hw
  have hmiddle : tickMiddle s = tickBack (confTick (preTick s)) := rfl
  rw [hmiddle]
  generalize preTick s = v at hafter hlast ⊢
  rw [(fromConf_tickHold v).lastPosition, hlast]
  refine ⟨g, st, d, hg, fun hcalm => ?_⟩
  have hconf := hafter.trans (confTick_calm (hcalm.imp_right hafter.unforced))
  have hstill := hconf.positionWarns (seqFramePosition_warns (hg.positionWarns hwarns))
  exact hconf.blendTicked.trans (tickBack_calm hstill)

/-! ### The building of the next frame -/

theorem startSending_closed (h : s.formatter.gate = .closed) : startSending s = s :=
  if_neg fun hc => by cases h.symm.trans hc.1

theorem buildStart_closed (hgate : s.formatter.gate = .closed)
    (hpending : ∀ sp, s.formatter.pendingOpen = some sp → blendedFrame s < sp.first) : buildStart s = s := by
  refine buildStart_unmarked (markedSpan_none fun sp => ⟨?_, ?_⟩)
  · rintro ⟨hsp, hle, -⟩
    exact absurd hle (Nat.not_le_of_lt (hpending sp hsp))
  · rintro ⟨-, hopen, -⟩
    cases hgate.symm.trans hopen

theorem buildStop_build (sp : Span) (kind : ErrorKind) (d : ErrorDetail) (hb : s.formatter.build = none) :
    (buildStop sp kind d s).formatter.build = none := by
  have hclose : (closeRequest (writtenFrame s) s).formatter.build = none := by
    unfold closeRequest
    split
    · show (if _ then s.formatter.build else none) = none
      rw [hb, ite_self]
    · exact hb
    · exact hb
  unfold buildStop
  split
  · show (seqRefused kind d (openCancelled s)).formatter.build = none
    unfold seqRefused
    repeat' split
    · rfl
    · rw [(failEntry_walkFrame kind d _ _).build]
      rfl
    · rfl
  · unfold seqLaterStop
    repeat' split
    · exact hclose
    · show (recordError _ _ _ _ (cutRequest (closeRequest (writtenFrame s) s))).formatter.build = none
      rw [recordError_formatter]
      exact hclose
    · exact hclose

/-- A frame whose building begins is no matter to the entry. -/
theorem buildStart_began (hb : s.formatter.build = none) (h : (buildStart s).formatter.build.isSome = true) :
    (buildStart s).seq = s.seq ∧ (buildStart s).blend = s.blend := by
  revert h
  unfold buildStart
  simp only
  repeat' split
  · exact fun _ => ⟨rfl, rfl⟩
  · intro h
    rw [buildStop_build _ _ _ hb] at h
    cases h
  · intro h
    rw [buildStop_build _ _ _ hb] at h
    cases h
  · exact fun _ => ⟨rfl, rfl⟩

/-! ### The in-address and the out-address reached at a tick -/

/-- The state of a tick, nothing due before it, as the PRE decoder takes it. -/
def beforePre (dir : Direction) (us : Nat) (s : State) : State :=
  buildAtTick (tickRights (tickTransport dir us s))

theorem frameTick_eq_beforePre (hb : beforeTick s = s) :
    frameTick dir us s = startSending (buildStart (tickMiddle (beforePre dir us s))) := frameTick_eq_tickMiddle hb

theorem beforePre_calm
    (h : (s.formatter.gate = .closed ∧ Unforced s) ∨ writeWindow (s.transport.atTick dir us) = true) :
    Calm (s.withTransport (s.transport.atTick dir us)) (beforePre dir us s) := by
  have hrights : ∀ v, Calm v (tickRights v) := fun _ => {}
  exact (tickTransport_calm h).trans ((hrights _).trans (buildAtTick_calm _))

theorem beforePre_sameJumps : SameJumps s (beforePre dir us s) := by
  have hrights : ∀ v, SameJumps v (tickRights v) := fun _ => rfl
  exact (tickTransport_sameJumps dir us s).trans ((hrights _).trans (buildAtTick_sameJumps _))

theorem preTick_written (hb : beforeTick s = s) :
    (preTick (beforePre dir us s)).formatter.written = s.formatter.written := by
  unfold beforePre
  rw [← atConfDecoder_eq hb]
  exact (atConfDecoder_confHold hb).written

/-- A tick's write window (R27): it comes forward and ends a stall. -/
theorem atTick_writeWindow (x : Transport)
    (h : (x.atTick .forward us).mode = .record ∧ (x.atTick .forward us).lock = true ∧
      (x.atTick .forward us).prot = false ∧ 990 ≤ (x.atTick .forward us).ratio ∧ (x.atTick .forward us).ratio ≤ 1010) :
    writeWindow (x.atTick .forward us) = true := by
  obtain ⟨hmode, hlock, hprot, hlow, hhigh⟩ := h
  exact (writeWindow_iff _).2 ⟨hmode, hlock, hprot, rfl, rfl, hlow, hhigh⟩

/-- With the gate's conditions met none is refused (R127). -/
theorem gateRefusal_none (hen : s.formatter.writeEnable = true) (hwindow : writeWindow s.transport = true)
    (hnew : recordsNew e = true → (selectedState s = .rightsOpen ∨ selectedState s = .rightsOne) ∧
      (entrySource e = .digital → s.faults.records.input.action = false)) : gateRefusal s e = none := by
  obtain ⟨-, -, hprot, -⟩ := (writeWindow_iff _).1 hwindow
  unfold gateRefusal
  simp only [hen, hprot, hwindow, Bool.true_eq_false, Bool.false_eq_true, if_false]
  split
  · next hrecords =>
    obtain ⟨hstate, hinput⟩ := hnew hrecords
    have hquiet : ¬ (entrySource e = .digital ∧ s.faults.records.input.action = true) := by
      rintro ⟨hdigital, haction⟩
      cases (hinput hdigital).symm.trans haction
    rcases hstate with hstate | hstate <;> simp only [hstate, if_neg hquiet]
  · rfl

/-- An entry that is opened at its in-address. -/
theorem seqFramePosition_opens (harmed : s.seq.state = .armed) (hheld : s.seq.held = some k)
    (hin : s.editList[k].inPresent = true) (hdir : s.transport.dir = .forward)
    (hreal : isRehearsal s.editList[k] = false) (hgo : gateRefusal s s.editList[k] = none) :
    seqFramePosition (some s.editList[k].inAfa.toNat) st d s = { s with
      blend := fadedIn s.editList[k] s.editList[k].inOffset.toNat s.blend
      seq := { s.seq with state := .recording, lastPosition := some s.editList[k].inAfa.toNat }
      formatter := openAsked (spanOf s.editList[k] (some s.editList[k].inAfa.toNat) st s) s.formatter } := by
  have harrives : Arrives s.editList[k] (some s.editList[k].inAfa.toNat) d s.transport := by
    unfold Arrives
    rw [if_pos hin]
    exact ⟨hdir, rfl⟩
  have harrival := armedPosition_arrives (st := st) (s := positionKept (some s.editList[k].inAfa.toNat) s) hheld harrives
  have hopens := inArrival_opens (k := k) (fp := some s.editList[k].inAfa.toNat) (st := st)
    (s := positionKept (some s.editList[k].inAfa.toNat) s) s.editList[k].inOffset.toNat hreal hgo
  rw [seqFramePosition_armed harmed]
  refine harrival.trans ?_
  show inArrival k s.editList[k] _ st (if s.editList[k].inPresent then s.editList[k].inOffset.toNat else 0) _ = _
  rw [if_pos hin, hopens, openEntry_real _ hreal]
  rfl

/-- The entry whose out-address is reached. -/
theorem seqFramePosition_closes (hrec : s.seq.state = .recording) (hheld : s.seq.held = some k)
    (hout : s.editList[k].outPresent = true) (hdir : s.transport.dir = .forward)
    (hnew : recordsNew s.editList[k] = true) :
    seqFramePosition (some s.editList[k].outAfa.toNat) st d s = { s with
      blend := fadedOut s.editList[k] s.editList[k].outOffset.toNat s.blend
      seq := { s.seq with state := .closing, lastPosition := some s.editList[k].outAfa.toNat } } := by
  have hcloses := recordingPosition_out (s := positionKept (some s.editList[k].outAfa.toNat) s) hheld hdir hnew hout
    (Nat.le_refl _)
  rw [if_pos rfl] at hcloses
  rw [seqFramePosition_recording hrec]
  exact hcloses.trans (setSeqState_fadeOutRequest _ _ _)

/-- The fade-in asked for at the in-address waits the second of its two ticks (R87). -/
theorem tickBlend_fadedIn (ch : Channel) (o : Nat) (hnew : recordsNew e = true) (hch : entryHasChannel e ch = true)
    (hb : t.blend = fadedIn e o u.blend) :
    ((tickBlend t).blend.get ch).selected = true ∧
      ((tickBlend t).blend.get ch).pending = some ⟨.fadeIn, 64 * 2 ^ e.fadeIn.toNat, o, 1⟩ := by
  have hticked : (tickBlend t).blend.get ch = (t.blend.get ch).tick := by cases ch <;> rfl
  have hasked : t.blend.get ch = (u.blend.get ch).askIn (fadeLength e.fadeIn.toNat) o := by
    rw [hb]
    unfold fadedIn
    rw [if_pos hnew]
    cases ch <;> exact if_pos hch
  rw [hticked, hasked]
  exact ⟨rfl, rfl⟩

theorem tickBlend_fadedOut (ch : Channel) (o : Nat) (hsel : (u.blend.get ch).selected = true)
    (hb : t.blend = fadedOut e o u.blend) :
    ((tickBlend t).blend.get ch).pending = some ⟨.fadeOut, 64 * 2 ^ e.fadeOut.toNat, o, 1⟩ := by
  have hticked : (tickBlend t).blend.get ch = (t.blend.get ch).tick := by cases ch <;> rfl
  have hasked : t.blend.get ch = (u.blend.get ch).askOut (fadeLength e.fadeOut.toNat) o := by
    rw [hb]
    cases ch <;> rfl
  rw [hticked, hasked, BlendChannel.askOut, if_pos hsel]
  rfl

end

end Sys2Proof.Machine

namespace Sys2Proof.Machine
open Sys2Proof

-- One theorem at a time: the whole text is also compiled as one, where a thread for each theorem in flight asks for more
-- memory than the check allows.
set_option Elab.async false

section
variable {us : Nat} {s : State} {k : Fin 32}

/-- The in-address reached at a tick, the conditions of the gate met: the entry is opened, with its fade-in a tick from
running (R126 to R128). -/
theorem frameTick_opens (hb : beforeTick s = s) (hloaded : s.transport.mode ≠ .unloaded) (hwarns : PositionWarns s)
    (hheld : s.seq.held = some k) (harmed : s.seq.state = .armed) (hgate : s.formatter.gate = .closed)
    (hwritten : s.formatter.written = []) (hin : s.editList[k].inPresent = true)
    (hlast : (frameTick .forward us s).seq.lastPosition = some s.editList[k].inAfa.toNat)
    (hreal : isRehearsal s.editList[k] = false) (hen : s.formatter.writeEnable = true)
    (hwindow : writeWindow (s.transport.atTick .forward us) = true)
    (hnew : recordsNew s.editList[k] = true → (selectedState s = .rightsOpen ∨ selectedState s = .rightsOne) ∧
      (entrySource s.editList[k] = .digital → s.faults.records.input.action = false)) :
    let t := frameTick .forward us s
    t.seq = { s.seq with state := .recording, lastPosition := some s.editList[k].inAfa.toNat } ∧
      (∃ st x, x.transport = s.transport.atTick .forward us ∧
        t.formatter.pendingOpen = some (spanOf s.editList[k] (some s.editList[k].inAfa.toNat) st x)) ∧
      ∀ ch, recordsNew s.editList[k] = true → entryHasChannel s.editList[k] ch = true →
        (t.blend.get ch).selected = true ∧ (t.blend.get ch).pending =
          some ⟨.fadeIn, 64 * 2 ^ s.editList[k].fadeIn.toNat, s.editList[k].inOffset.toNat, 1⟩ := by
  intro t
  have hidle : inWrite s = false := by simp [inWrite, harmed]
  have hpre := beforePre_calm (dir := .forward) (us := us) (.inl ⟨hgate, .inl hidle⟩)
  have hnone := preTick_written (dir := .forward) (us := us) hb
  have ht : t = startSending (buildStart (tickMiddle (beforePre .forward us s))) := frameTick_eq_beforePre hb
  rw [show frameTick .forward us s = t from rfl, ht] at hlast
  rw [ht]
  generalize beforePre .forward us s = w at hpre hnone hlast ⊢
  have hwloaded : w.transport.mode ≠ .unloaded := by
    rw [hpre.transport]
    exact hloaded
  obtain ⟨g, st, d, hg, hrest⟩ := tickMiddle_entry hwloaded (hpre.positionWarns hwarns) fun _ => hpre.inWrite.trans hidle
  rw [hlast] at hrest
  have hcalm := hrest (.inl (hnone.trans hwritten))
  have hsg := hpre.trans hg
  have hlist : g.editList[k] = s.editList[k] := by rw [hsg.editList]; rfl
  have htransport : g.transport = s.transport.atTick .forward us := hsg.transport
  have hopened := seqFramePosition_opens (s := g) (k := k) (st := st) (d := d) (by rw [hsg.seq]; exact harmed)
    (by rw [hsg.seq]; exact hheld) (by rw [hlist]; exact hin) (by rw [htransport]; rfl) (by rw [hlist]; exact hreal)
    (gateRefusal_none (by rw [hsg.writeEnable]; exact hen) (by rw [htransport]; exact hwindow) (by
      rw [hlist, hsg.selectedState, hsg.input]
      exact hnew))
  rw [hlist] at hopened
  rw [hopened] at hcalm
  have hgclosed : g.formatter.gate = .closed := hsg.gate.trans hgate
  have hasked : openAsked (spanOf s.editList[k] (some s.editList[k].inAfa.toNat) st g) g.formatter =
      { g.formatter with pendingOpen := some (spanOf s.editList[k] (some s.editList[k].inAfa.toNat) st g) } :=
    if_pos (.inl hgclosed)
  rw [hasked] at hcalm
  generalize tickMiddle w = u at hcalm ⊢
  have hugate : u.formatter.gate = .closed := hcalm.gate.trans hgclosed
  have hupending : u.formatter.pendingOpen = some (spanOf s.editList[k] (some s.editList[k].inAfa.toNat) st g) :=
    hcalm.pendingOpen
  have hutick : u.transport.tick = s.transport.tick + 1 := by
    rw [hcalm.transport]
    show g.transport.tick = _
    rw [htransport]
    rfl
  have hfirst : ∀ sp, u.formatter.pendingOpen = some sp → blendedFrame u < sp.first := fun sp hsp => by
    obtain rfl := Option.some.inj (hupending.symm.trans hsp)
    show u.transport.tick - 1 < g.transport.tick
    rw [hutick, htransport]
    exact Nat.lt_succ_self _
  rw [buildStart_closed hugate hfirst, startSending_closed hugate]
  refine ⟨?_, ⟨st, g, htransport, hupending⟩, fun ch hrec hch => ?_⟩
  · refine hcalm.seq.trans ?_
    exact congrArg (fun q : Sequencer =>
      { q with state := .recording, lastPosition := some s.editList[k].inAfa.toNat }) hsg.seq
  · rw [hcalm.blend]
    exact tickBlend_fadedIn (u := g) ch _ hrec hch rfl

/-- The out-address reached at a tick: the entry closes, with its fade-out a tick from running (R130). -/
theorem frameTick_closes (hb : beforeTick s = s) (hloaded : s.transport.mode ≠ .unloaded) (hwarns : PositionWarns s)
    (hheld : s.seq.held = some k) (hrec : s.seq.state = .recording)
    (hjumps : (frameTick .forward us s).faults.counters.jumps = s.faults.counters.jumps)
    (hcase : (s.formatter.gate = .closed ∧ s.formatter.pendingOpen = none) ∨
      (writeWindow (s.transport.atTick .forward us) = true ∧ s.formatter.written = [] ∧
        (frameTick .forward us s).formatter.build.isSome = true))
    (hnew : recordsNew s.editList[k] = true) (hout : s.editList[k].outPresent = true)
    (hlast : (frameTick .forward us s).seq.lastPosition = some s.editList[k].outAfa.toNat) :
    let t := frameTick .forward us s
    t.seq = { s.seq with state := .closing, lastPosition := some s.editList[k].outAfa.toNat } ∧ t.blend.outAsked = true ∧
      ∀ ch, (s.blend.get ch).selected = true → (t.blend.get ch).pending =
        some ⟨.fadeOut, 64 * 2 ^ s.editList[k].fadeOut.toNat, s.editList[k].outOffset.toNat, 1⟩ := by
  intro t
  have hunforced : s.formatter.gate = .closed ∧ s.formatter.pendingOpen = none → Unforced s := fun h =>
    .inr (by simp [gateInPlay, h.1, h.2])
  have hpre := beforePre_calm (dir := .forward) (us := us) (s := s)
    (hcase.imp (fun h => ⟨h.1, hunforced h⟩) fun h => h.1)
  have hnone := preTick_written (dir := .forward) (us := us) hb
  have hsame := beforePre_sameJumps (dir := .forward) (us := us) (s := s)
  have hbuild := beforeBuild_build (dir := .forward) (us := us) (s := s)
  have hmiddle : beforeBuild .forward us s = tickMiddle (beforePre .forward us s) := rfl
  rw [hmiddle] at hbuild
  clear hmiddle
  have ht : t = startSending (buildStart (tickMiddle (beforePre .forward us s))) := frameTick_eq_beforePre hb
  rw [show frameTick .forward us s = t from rfl, ht] at hlast hjumps hcase
  rw [ht]
  generalize beforePre .forward us s = w at hpre hnone hsame hbuild hlast hjumps hcase ⊢
  have hwloaded : w.transport.mode ≠ .unloaded := by
    rw [hpre.transport]
    exact hloaded
  have hstill := not_jumped_of_jumps hwloaded (hjumps.trans hsame.symm)
  obtain ⟨g, st, d, hg, hrest⟩ := tickMiddle_entry hwloaded (hpre.positionWarns hwarns) fun hj => absurd hj hstill
  rw [hlast] at hrest
  have hsg := hpre.trans hg
  have hlist : g.editList[k] = s.editList[k] := by rw [hsg.editList]; rfl
  have hcloses := seqFramePosition_closes (s := g) (k := k) (st := st) (d := d) (by rw [hsg.seq]; exact hrec)
    (by rw [hsg.seq]; exact hheld) (by rw [hlist]; exact hout) (by rw [hsg.transport]; rfl) (by rw [hlist]; exact hnew)
  rw [hlist] at hcloses
  rw [hcloses] at hrest
  have hcalm := hrest (hcase.symm.imp (fun h => hnone.trans h.2.1) fun h => .inr (by
    have hplay := hsg.gateInPlay
    have hshut : gateInPlay (s.withTransport (s.transport.atTick .forward us)) = false := by
      simp [gateInPlay, State.withTransport, h.1, h.2]
    exact hplay.trans hshut))
  generalize tickMiddle w = u at hbuild hcalm hcase ⊢
  have hentry : (buildStart u).seq = u.seq ∧ (buildStart u).blend = u.blend := by
    rcases hcase with ⟨hclosed, hpending⟩ | ⟨-, -, hsome⟩
    · have hugate : u.formatter.gate = .closed := hcalm.gate.trans (hsg.gate.trans hclosed)
      have hupending : u.formatter.pendingOpen = none := hcalm.pendingOpen.trans (hsg.pendingOpen.trans hpending)
      rw [buildStart_closed hugate fun sp hsp => by cases hupending.symm.trans hsp]
      exact ⟨rfl, rfl⟩
    · rw [startSending_only] at hsome
      exact buildStart_began hbuild hsome
  have hseq : (startSending (buildStart u)).seq = u.seq := (startSending_seq _).trans hentry.1
  have hblend : (startSending (buildStart u)).blend = u.blend := by
    rw [startSending_only]
    exact hentry.2
  rw [hseq, hblend, hcalm.seq, hcalm.blend]
  refine ⟨?_, rfl, fun ch hsel => tickBlend_fadedOut (u := g) ch _ ?_ rfl⟩
  · exact congrArg (fun q : Sequencer =>
      { q with state := .closing, lastPosition := some s.editList[k].outAfa.toNat }) hsg.seq
  · rw [hsg.blend]
    exact hsel

end

/-- Settles O48: a fetch is one entry passed (`fetchPass`) or found (`fetchFound`); a frame position goes by the sequencer's
state (`seqFramePosition_eq`); and in a tick nothing but that position and the tick of its fades reaches the entry
(`tickMiddle_entry`), where no check of the fault monitor may stop it. -/
theorem fetchFindsEntries : Obligations.FetchFindsEntries := by
  refine ⟨fun s p hp => ?_, fun fp st decoding s => ?_, fun us s k hb hloaded hheld hmode => ?_⟩
  · intro e act afa stopped pairs err t
    have hframe := fetch_seqFrame s
    have hwalk : t.formatter = _ := (fetch_walkFrame s).formatter
    have hgate : t.formatter.gate = s.formatter.gate := by rw [hwalk]
    have hpending : t.formatter.pendingOpen = s.formatter.pendingOpen := by rw [hwalk]
    have hpoint : t.formatter.closePoint = s.formatter.closePoint := by rw [hwalk]
    refine ⟨fun hact => ?_, fun hact => ?_, ⟨hgate, hpending, hpoint, hframe.written, hframe.writeEnable⟩,
      hframe.state_eq⟩
    · have ht : t = fetchPass p (if act = .nop then p + 1 else entryTarget e) fetch s := by
        rcases hact with hnop | hlink
        · rw [if_pos hnop]
          exact fetch_nop hp hnop
        · rw [if_neg (by rw [hlink]; decide)]
          exact fetch_link hp hlink
      refine ⟨fun hguard => ?_, fun hguard hend => ?_, fun hguard hend => ?_⟩
      · rw [ht, fetchPass_loop hguard]
        exact seqStop_stoppedAt (by decide) _ p (guarded s)
      · rw [ht, fetchPass_end hguard hend]
        have hset : SeqFrame s { guarded s with seq := { (guarded s).seq with
            state := .idle, lastClose := some (.complete, p) } } := by
          constructor <;> first | rfl | exact fun _ => .refl _
        exact ⟨rfl, fun q hq => raised_has hset .seqDone q hq⟩
      · rw [ht, fetchPass_more hguard hend]
    · have ht : t = fetchFound p s := fetch_found hp hact
      have herr : entryError s e = err := entryError_eq s hact
      refine ⟨fun hnone => ?_, fun x hx => ?_⟩
      · rw [ht, fetchFound_takes (herr.trans hnone), takeEntry_seq]
        rfl
      · have hsome := herr.trans hx
        rw [ht, fetchFound_stops hsome]
        exact ⟨seqStop_stoppedAt (entryError_ne_unloaded hsome) _ p (unguarded s), seqStop_raises _ _ p (unguarded s)⟩
  · intro t only x forward speed window
    have hwindow : writeWindow x = true ↔ window := writeWindow_iff x
    refine ⟨seqFramePosition_elsewhere, fun k hheld => ?_⟩
    intro e fadeIn faded asked arrival late refused stopped
    have harrival : Arrives e fp decoding x ↔ arrival := by
      show (if e.inPresent then _ else _) ↔ (if e.inPresent then _ else _)
      split
      · exact Iff.rfl
      · exact and_congr_right fun _ => hwindow
    have hrefused : gateRefusal only e = refused := gateRefusal_eq only e
    have hkind : writeKindOf e = if entryAction e = .assemble then .assemble else if entryAction e = .mark then .mark
        else .punch := by
      unfold writeKindOf
      cases entryAction e <;> rfl
    have hasked : spanOf e fp st only = asked := by
      show (⟨x.tick, fp, writeKindOf e, entryMarker e, entryStart e, st, none⟩ : Span) = _
      rw [hkind]
    have hfaded : fadedIn e (if e.inPresent then e.inOffset.toNat else 0) s.blend = faded := rfl
    refine ⟨fun harmed => ?_, fun hrec => ?_⟩
    · have ht : t = armedPosition fp st decoding only := seqFramePosition_armed harmed
      have hat : arrival → t = inArrival k e fp st (if e.inPresent then e.inOffset.toNat else 0) only := fun h =>
        ht.trans (armedPosition_arrives (s := only) hheld (harrival.2 h))
      refine ⟨fun hno hnot => ?_, fun h => ?_, fun h hreh => ?_, fun h hreal y hy => ?_, fun h hreal hy => ?_⟩
      · exact ht.trans (armedPosition_waits (s := only) hheld (fun h => hno (harrival.1 h)) hnot)
      · rw [ht, armedPosition_late (s := only) hheld h]
        exact ⟨seqStop_stoppedAt (by decide) _ k only, seqStop_raises _ _ k only⟩
      · rw [hat h, inArrival_rehearsal _ hreh, openEntry_rehearsal _ hreh, ← hfaded]
      · have hgo := hrefused.trans hy
        rw [hat h, inArrival_refused _ hreal hgo]
        have hwalk := (seqStop_walkFrame y.1 y.2 k only).formatter
        exact ⟨seqStop_stoppedAt (gateRefusal_ne_unloaded hgo) _ k only, by rw [hwalk], by rw [hwalk]⟩
      · rw [hat h, inArrival_opens _ hreal (hrefused.trans hy), openEntry_real _ hreal, hasked, ← hfaded]
        rfl
    · intro out
      have ht : t = recordingPosition fp only := seqFramePosition_recording hrec
      refine ⟨fun p hfp hdir hnew hpresent hle => ?_, fun h => ?_⟩
      · subst hfp
        exact ht.trans (recordingPosition_out (s := only) hheld hdir hnew hpresent hle)
      · exact ht.trans (recordingPosition_stays (s := only) hheld h)
  · have hwarns : PositionWarns s := by
      unfold PositionWarns
      rcases hmode with h | h <;> rw [h] <;> rfl
    have htransport := frameTick_transport .forward us s
    refine ⟨frameTick .forward us s, rfl, ?_⟩
    intro e x window
    have hx : x = s.transport.atTick .forward us := htransport
    have hin : window → writeWindow (s.transport.atTick .forward us) = true := fun h => by
      refine atTick_writeWindow _ ?_
      rw [← hx]
      exact h
    refine ⟨fun harmed hgate _ hwritten hpresent hlast hreal hen hw hnew => ?_, fun hrec hjumps hcase hnew hout hlast => ?_⟩
    · obtain ⟨hseq, ⟨st, y, hy, hpending⟩, hfades⟩ := frameTick_opens hb hloaded hwarns hheld harmed hgate hwritten
        hpresent hlast hreal hen (hin hw) hnew
      refine ⟨hseq, ⟨_, hpending, ?_, rfl, rfl, rfl, rfl, rfl⟩, hfades⟩
      show y.transport.tick = x.tick
      rw [hy, hx]
    · refine frameTick_closes hb hloaded hwarns hheld hrec hjumps ?_ hnew hout hlast
      exact hcase.imp (fun h => h.2) fun h => ⟨hin h.2.2.1, h.2.2.2.1, h.2.2.2.2⟩

end Sys2Proof.Machine

namespace Sys2Proof.Machine
open Sys2Proof

-- One theorem at a time: the whole text is also compiled as one, where a thread for each theorem in flight asks for more
-- memory than the check allows.
set_option Elab.async false

/-! ## The positions and weights of a fade (R86 to R88) -/

/-- The steps of a fade that cover a distance in weight, the last of them perhaps in part. -/
def stepsCovering (step dist : Nat) : Nat := (dist + step - 1) / step

theorem startFade_fadeIn (len g0 : Nat) :
    startFade .fadeIn len g0 = ⟨.fadeIn, len, stepsCovering (fadeStep len) g0⟩ := rfl

theorem startFade_fadeOut (len g0 : Nat) :
    startFade .fadeOut len g0 = ⟨.fadeOut, len, stepsCovering (fadeStep len) (4096 - g0)⟩ := rfl

theorem fadeWeight_fadeIn (len k : Nat) : fadeWeight ⟨.fadeIn, len, k⟩ = k * fadeStep len := rfl

theorem fadeWeight_fadeOut (len k : Nat) : fadeWeight ⟨.fadeOut, len, k⟩ = 4096 - k * fadeStep len := rfl

section
variable {step : Nat}

/-- The steps reach the distance, and stay less than one step past it. -/
theorem stepsCovering_reaches (hstep : 0 < step) (dist : Nat) :
    dist ≤ stepsCovering step dist * step ∧ stepsCovering step dist * step < dist + step := by
  have hdiv := Nat.div_add_mod' (dist + step - 1) step
  have hmod := Nat.mod_lt (dist + step - 1) hstep
  unfold stepsCovering
  omega

theorem stepsCovering_mul (hstep : 0 < step) (n : Nat) : stepsCovering step (step * n) = n := by
  unfold stepsCovering
  rw [Nat.add_sub_assoc hstep, Nat.mul_add_div hstep, Nat.div_eq_of_lt (Nat.sub_lt hstep Nat.one_pos), Nat.add_zero]

theorem stepsCovering_zero (hstep : 0 < step) : stepsCovering step 0 = 0 := stepsCovering_mul hstep 0

theorem stepsCovering_le {dist n : Nat} (hstep : 0 < step) (h : dist ≤ step * n) : stepsCovering step dist ≤ n := by
  rw [← stepsCovering_mul hstep n]
  exact Nat.div_le_div_right (by omega)

end

/-- The steps of the five fades divide the whole of the weight (R86). -/
theorem fadeStep_mul_fadeLength {code : Nat} (h : code ≤ 4) : fadeStep (fadeLength code) * fadeLength code = 4096 := by
  interval_cases code <;> rfl

/-- Settles O29: both directions cover a distance in weight by whole steps (`stepsCovering`), and `length` of them make the
whole of it. -/
theorem fadesMoveOneWay : Obligations.FadesMoveOneWay := by
  intro code g0 hcode hg0 len step
  have hwhole : step * len = 4096 := fadeStep_mul_fadeLength hcode
  have hstep : 0 < step := Nat.pos_of_mul_pos_right (show 0 < step * len by omega)
  have hposIn : stepsCovering step g0 ≤ len := stepsCovering_le hstep (by omega)
  have hposOut : stepsCovering step (4096 - g0) ≤ len := stepsCovering_le hstep (by omega)
  have hwithin : ∀ {k}, k ≤ len → k * step ≤ 4096 := fun hk => by
    rw [← hwhole, Nat.mul_comm step]
    exact Nat.mul_le_mul_right step hk
  simp only [startFade_fadeIn, startFade_fadeOut, fadeWeight_fadeIn, fadeWeight_fadeOut]
  refine ⟨rfl, hwhole, fun dir => ⟨rfl, ?pos, fun k hk => ⟨?bound, rfl, Nat.sub_add_cancel (hwithin hk)⟩⟩,
    stepsCovering_reaches hstep g0, ?fadeOut, stepsCovering_zero hstep, stepsCovering_zero hstep, ?target⟩
  case pos => cases dir <;> assumption
  case bound =>
    cases dir
    · exact hwithin hk
    · exact Nat.sub_le _ _
  case fadeOut =>
    have hreach := stepsCovering_reaches hstep (4096 - g0)
    have hle := hwithin hposOut
    rw [show fadeStep len = step from rfl]
    omega
  case target =>
    rw [Nat.sub_zero, ← hwhole]
    exact stepsCovering_mul hstep len

end Sys2Proof.Machine

namespace Sys2Proof.Machine
open Sys2Proof

-- One theorem at a time: the whole text is also compiled as one, where a thread for each theorem in flight asks for more
-- memory than the check allows.
set_option Elab.async false

/-! ## ABORT (R136) -/

section
variable {s u : State} {k : Fin 32}

theorem exec_abort {p : Port} (hfree : waitsForRise s p = false) (hclaim : s.claims.edit = some p) :
    exec (.abort p) s = .next (respond p 0x44 .ok (.seqState (abortWalk s).seq.state) (abortWalk s)) :=
  congrArg Host.Outcome.next (request_edit 0x44 hfree hclaim)

theorem abortWalk_idle (h : s.seq.state = .idle) : abortWalk s = s := by
  simp only [abortWalk, h]

theorem abortWalk_fault (h : s.seq.state = .fault) : abortWalk s = setSeqState .idle s := by
  simp only [abortWalk, h]

theorem abortWalk_closing (h : s.seq.state = .closing) :
    abortWalk s = { s with seq := { s.seq with abortPending := true } } := by
  simp only [abortWalk, h]

theorem abortWalk_waiting (h : s.seq.state = .armed ∨ s.seq.state = .held) :
    abortWalk s = giveUp (endWalk .aborted s.seq.pointer s) := by
  rcases h with h | h <;> simp only [abortWalk, h]

theorem abortWalk_recording (h : s.seq.state = .recording) (hheld : s.seq.held = some k) : abortWalk s =
    if s.formatter.pendingOpen.isSome then
      giveUp (endWalk .aborted k (clearPending (cutRequest (forcedCloseRequest s))))
    else
      { fadeOutNowRequest s.editList[k] s with seq := { s.seq with state := .closing, abortPending := true } } := by
  simp only [abortWalk, h, heldEntry_of_held hheld]
  rfl

/-- The sequencer after an ABORT that ends the walk at entry `k` (R121, R136). -/
structure WalkAborted (s : State) (k : Fin 32) (t : State) : Prop where
  state : t.seq.state = .idle
  held : t.seq.held = none
  kept : t.seq.kept = false
  error : t.seq.error = s.seq.error
  lastClose : t.seq.lastClose = some (.aborted, k)
  raises : ∀ q, EventSet.has (s.ports.get q).report .seqDone = true →
    EventSet.has (t.ports.get q).events .seqDone = true

theorem walkClosed_seqFrame (c : CloseKind) (k : Fin 32) (s : State) :
    SeqFrame s { s with seq := { s.seq with state := .idle, lastClose := some (c, k) } } := by
  constructor <;> first | rfl | exact fun _ => .refl _

theorem giveUp_walkAborted (hframe : SeqFrame s u) (herror : u.seq.error = s.seq.error) (k : Fin 32) :
    WalkAborted s k (giveUp (endWalk .aborted k u)) := by
  have hseq := giveUp_seq (endWalk .aborted k u)
  have hclosed := hframe.trans (walkClosed_seqFrame .aborted k u)
  refine ⟨?state, ?held, ?kept, ?error, ?lastClose, raised_stays hclosed .seqDone (giveUp_seqFrame _)⟩
  case error =>
    rw [hseq]
    exact herror
  case held | kept => rw [hseq]
  case state | lastClose =>
    rw [hseq]
    rfl

/-- What becomes of an open that is pending at an ABORT: it is discarded with the frames it marked, the gate stays as it is, and
both channels of the blend unit are released (R51, R89, R136). -/
structure OpenAborted (s t : State) : Prop where
  gate : t.formatter.gate = s.formatter.gate
  pendingOpen : t.formatter.pendingOpen = none
  build : t.formatter.build = none
  ready : t.formatter.ready = none
  blend : ∀ ch, t.blend.get ch = ⟨0, 0, none, none, false⟩

theorem abortWalk_opening (h : s.seq.state = .recording) (hheld : s.seq.held = some k) (hclosed : s.formatter.gate = .closed)
    (hpending : s.formatter.pendingOpen.isSome = true) : WalkAborted s k (abortWalk s) ∧ OpenAborted s (abortWalk s) := by
  have hseq : (cutRequest (forcedCloseRequest s)).seq = s.seq := forcedCloseRequest_seq s
  rw [abortWalk_recording h hheld, if_pos hpending]
  refine ⟨giveUp_walkAborted ?frame ?error k, ?opened⟩
  case frame =>
    exact ((forcedCloseRequest_seqFrame s).trans (cutRequest_seqFrame _)).trans (clearPending_seqFrame _)
  case error =>
    show (cutRequest (forcedCloseRequest s)).seq.error = _
    rw [hseq]
  case opened =>
    have hstart : WalkFrame (cutRequest (forcedCloseRequest s))
        (endWalk .aborted k (clearPending (cutRequest (forcedCloseRequest s)))) := .of_eq rfl
    obtain ⟨hgate, hopen, hbuild, hready⟩ := (hstart.trans (giveUp_walkFrame _)).openDiscarded hclosed hpending
    exact ⟨hgate.trans hclosed.symm, hopen, hbuild, hready, giveUp_blend_get ((congrArg Sequencer.held hseq).trans hheld)⟩

theorem abortWalk_waiting_gate (h : s.seq.state = .armed ∨ s.seq.state = .held) :
    (abortWalk s).formatter.gate = s.formatter.gate := by
  have hwalk := (giveUp_walkFrame (endWalk .aborted s.seq.pointer s)).formatter
  rw [abortWalk_waiting h, hwalk]
  rfl

/-- An answer to an exchange stands beside the frame of the sequencer's work. -/
theorem SeqFrame.respond_state_eq {t : State} (h : SeqFrame s t) (p : Port) (op : Byte) (res : ResultCode) (pl : Payload) :
    let r := respond p op res pl t
    r = { s with
      ports := r.ports, formatter := r.formatter, blend := r.blend, seq := r.seq
      monitor := { s.monitor with switch := r.monitor.switch, pending := r.monitor.pending }
      rights := { s.rights with word := r.rights.word, period := r.rights.period }
      outputs := { s.outputs with txWorst := r.outputs.txWorst }
      faults := { s.faults with records := r.faults.records } } := by
  have hstate := h.state_eq
  intro r
  show { t with ports := r.ports } = _
  rw [hstate]
  rfl

end

/-- Settles O50, state by state: where the walk ends the held entry is given up (`giveUp_walkAborted`), with an open pending
after a forced close (`abortWalk_opening`). -/
theorem abortByState : Obligations.AbortByState := by
  intro p s hfree hclaim
  rw [exec_abort hfree hclaim]
  refine ⟨fun h => ?_, fun h => ?_, fun h => ?_, fun k h hheld hnone => ?_, fun hends => ?_⟩
  · rw [abortWalk_idle h, h]
  · rw [abortWalk_fault h]
    rfl
  · rw [abortWalk_closing h]
    exact congrArg (fun st => Host.Outcome.next (respond p 0x44 .ok (.seqState st) _)) h
  · rw [abortWalk_recording h hheld, if_neg (by simp [hnone])]
    rfl
  · have hframe := abortWalk_seqFrame s
    obtain ⟨k, habort, hgate, hwaits, hopens⟩ : ∃ k, WalkAborted s k (abortWalk s) ∧
        (abortWalk s).formatter.gate = s.formatter.gate ∧ (s.seq.state ≠ .recording → k = s.seq.pointer) ∧
        (s.seq.state = .recording → s.seq.held = some k ∧ OpenAborted s (abortWalk s)) := by
      rcases hends with hwait | ⟨hrec, hclosed, hpending, hsome⟩
      · refine ⟨s.seq.pointer, ?_, abortWalk_waiting_gate hwait, fun _ => rfl, fun hrec => ?_⟩
        · rw [abortWalk_waiting hwait]
          exact giveUp_walkAborted (.refl s) rfl _
        · rcases hwait with h | h <;> cases hrec.symm.trans h
      · obtain ⟨k, hheld⟩ := Option.isSome_iff_exists.mp hsome
        obtain ⟨habort, hopened⟩ := abortWalk_opening hrec hheld hclosed hpending
        exact ⟨k, habort, hopened.gate, fun hne => absurd hrec hne, fun _ => ⟨hheld, hopened⟩⟩
    refine ⟨_, rfl, habort.state, habort.held, habort.kept, habort.error, fun hne => ?_, fun j hrec hheld => ?_, hgate,
      hframe.written, hframe.writeEnable, fun q hq => ?_, ?_, hframe.respond_state_eq p _ _ _⟩
    · rw [← hwaits hne]
      exact habort.lastClose
    · obtain ⟨hk, hopened⟩ := hopens hrec
      obtain rfl : k = j := Option.some.inj (hk.symm.trans hheld)
      exact ⟨habort.lastClose, hopened.pendingOpen, hopened.build, hopened.ready, hopened.blend⟩
    · rw [respond_events]
      exact habort.raises q hq
    · rw [respond_port, habort.state]

end Sys2Proof.Machine

namespace Sys2Proof.Machine
open Sys2Proof

-- One theorem at a time: the whole text is also compiled as one, where a thread for each theorem in flight asks for more
-- memory than the check allows.
set_option Elab.async false

/-! ## A change of the source called for (R92, R93, R155) -/

section
variable {s : State}

theorem reselect_settled (hnone : s.monitor.switch = none) (h : sourceCalledFor s = s.monitor.source) : reselect s = s := by
  simp only [reselect, hnone, if_pos h]

theorem reselect_begins (hnone : s.monitor.switch = none) (h : sourceCalledFor s ≠ s.monitor.source) : reselect s =
    refreshWord { s with monitor := { s.monitor with
      switch := some ⟨s.monitor.source, sourceCalledFor s, 0⟩, pending := none } } := by
  simp only [reselect, hnone, if_neg h]

theorem reselect_running {w : MonitorSwitch} (h : s.monitor.switch = some w) : reselect s =
    { s with monitor := { s.monitor with
      pending := if sourceCalledFor s = w.dst then none else some (sourceCalledFor s) } } := by
  simp only [reselect, h]

/-- The output rights word is that of the sources as they stand, and the transmitter's block counts it (R155, R156). -/
def WordFormed (s t : State) : Prop :=
  t.rights.word = wordOf (copyOfSource (outputCopy t)) ∧ t.outputs.txWorst = maxCopy s.outputs.txWorst t.rights.word.copy

theorem refreshWord_formed (s : State) : WordFormed s (refreshWord s) := ⟨rfl, rfl⟩

end

/-! ## SET MONITOR (R92) -/

theorem monitorOfCode_eq (c : Byte) : monitorOfCode c = [MonitorMode.auto, .input, .tape][c.toNat]? := by
  unfold monitorOfCode
  rcases c.toNat with _ | _ | _ | n <;> rfl

section
variable {mode : Byte} {s : State}

theorem setMonitor_of_range (h : 2 < mode.toNat) : setMonitor mode s = (s, .range, .zeros) := by
  have hnone : monitorOfCode mode = none := by
    rw [monitorOfCode_eq, List.getElem?_eq_none_iff]
    exact h
  simp only [setMonitor, hnone]

/-- The state with a monitor mode set, its source not yet looked for. -/
def inMonitorMode (m : MonitorMode) (s : State) : State := { s with monitor := { s.monitor with mode := m } }

theorem setMonitor_of_code {m : MonitorMode} (h : monitorOfCode mode = some m) : setMonitor mode s =
    (reselect (inMonitorMode m s), .ok,
      .monitor m (reselect (inMonitorMode m s)).monitor.source (reselect (inMonitorMode m s)).monitor.switch.isSome) := by
  simp only [setMonitor, h]
  rfl

/-- What SET MONITOR makes of the selection when its mode calls for `want` (R92, R93). -/
def Monitor.calling (o : Monitor) (m : MonitorMode) (want : OutputSource) : Monitor :=
  match o.switch with
  | none => if want = o.source then { o with mode := m } else ⟨m, o.source, some ⟨o.source, want, 0⟩, none⟩
  | some w => { o with mode := m, pending := if want = w.dst then none else some want }

theorem Monitor.calling_settled {o : Monitor} {want : OutputSource} (hnone : o.switch = none) (h : want = o.source)
    (m : MonitorMode) : o.calling m want = { o with mode := m } := by
  simp only [Monitor.calling, hnone, if_pos h]

theorem Monitor.calling_begins {o : Monitor} {want : OutputSource} (hnone : o.switch = none) (h : want ≠ o.source)
    (m : MonitorMode) : o.calling m want = ⟨m, o.source, some ⟨o.source, want, 0⟩, none⟩ := by
  simp only [Monitor.calling, hnone, if_neg h]

theorem Monitor.calling_running {o : Monitor} {w : MonitorSwitch} (h : o.switch = some w) (m : MonitorMode)
    (want : OutputSource) : o.calling m want = { o with mode := m, pending := if want = w.dst then none else some want } := by
  simp only [Monitor.calling, h]

/-- A source called for under a new mode: the word is formed again when a switch starts, and stands otherwise (R92, R155). -/
theorem reselect_inMonitorMode (m : MonitorMode) (s : State) :
    let want := sourceCalledFor (inMonitorMode m s)
    let t := reselect (inMonitorMode m s)
    t.monitor = s.monitor.calling m want ∧
    (s.monitor.switch = none → want ≠ s.monitor.source → WordFormed s t) ∧
    (s.monitor.switch.isSome = true ∨ want = s.monitor.source →
      t.rights.word = s.rights.word ∧ t.outputs.txWorst = s.outputs.txWorst) := by
  intro want t
  rcases Option.eq_none_or_eq_some s.monitor.switch with hnone | ⟨w, hswitch⟩
  · by_cases hwant : want = s.monitor.source
    · have ht : t = inMonitorMode m s := reselect_settled (s := inMonitorMode m s) hnone hwant
      rw [ht, Monitor.calling_settled hnone hwant]
      exact ⟨rfl, fun _ hne => absurd hwant hne, fun _ => ⟨rfl, rfl⟩⟩
    · have ht : t = _ := reselect_begins (s := inMonitorMode m s) hnone hwant
      rw [ht, Monitor.calling_begins hnone hwant]
      refine ⟨rfl, fun _ _ => refreshWord_formed _, fun h => ?_⟩
      rcases h with hsome | heq
      · simp [hnone] at hsome
      · exact absurd heq hwant
  · have ht : t = _ := reselect_running (s := inMonitorMode m s) hswitch
    rw [ht, Monitor.calling_running hswitch]
    exact ⟨rfl, fun hnone => (by simp [hswitch] at hnone), fun _ => ⟨rfl, rfl⟩⟩

end

/-! ## MONITOR_SWITCH_END (R93) -/

/-- The selection after the switch `w` has ended. -/
def Monitor.switched (o : Monitor) (w : MonitorSwitch) : Monitor :=
  { o with
    source := w.dst, pending := none
    switch := match o.pending with
      | some q => if q = w.dst then none else some ⟨w.dst, q, 0⟩
      | none => none }

theorem endSwitch_of_due {s : State} {w : MonitorSwitch} (h : s.monitor.switch = some w) (hdue : 64 ≤ w.pos) :
    endSwitch s = refreshWord { s with monitor := s.monitor.switched w } := by
  simp only [endSwitch, h, if_neg (Nat.not_lt.mpr hdue)]
  rfl

/-- Settles O33: SET MONITOR looks for the source called for (`reselect_inMonitorMode`); the end of a switch forms the word
again. -/
theorem monitorSwitches : Obligations.MonitorSwitches := by
  refine ⟨fun p mode s hfree => ⟨fun hrange => ?_, fun m hm => ?_⟩, fun s w hswitch hdue => ?_⟩
  · refine congrArg Host.Outcome.next ?_
    rw [request_open _ hfree, setMonitor_of_range hrange]
  · intro want
    have hcode : monitorOfCode mode = some m := (monitorOfCode_eq mode).trans hm
    have hexec : exec (.setMonitor p mode) s = .next (respond p 0x1C (setMonitor mode s).2.1 (setMonitor mode s).2.2
        (setMonitor mode s).1) := congrArg Host.Outcome.next (request_open _ hfree)
    have hwant : sourceCalledFor (inMonitorMode m s) = want := rfl
    have honly := reselect_only (inMonitorMode m s)
    obtain ⟨hmonitor, hformed, hstands⟩ := reselect_inMonitorMode m s
    rw [hwant] at hmonitor hformed hstands
    rw [setMonitor_of_code hcode] at hexec
    refine ⟨_, hexec, hmonitor, ?_, hformed, hstands, ?_⟩
    · rw [respond_port]
      rfl
    · generalize reselect (inMonitorMode m s) = u at honly
      rw [honly]
      rfl
  · have hexec : exec .monitorSwitchEnd s = .next (refreshWord { s with monitor := s.monitor.switched w }) :=
      congrArg Host.Outcome.next (endSwitch_of_due hswitch hdue)
    exact ⟨_, hexec, rfl, rfl, rfl, rfl, rfl, rfl⟩

end Sys2Proof.Machine

namespace Sys2Proof.Machine
open Sys2Proof

-- One theorem at a time: the whole text is also compiled as one, where a thread for each theorem in flight asks for more
-- memory than the check allows.
set_option Elab.async false

/-! ## Values brought into their allowed sets (R85, R168) -/

theorem bringP_brings (v : Nat) : 1 ≤ bringP v ∧ bringP v ≤ 8 ∧ (v < 1 → bringP v = 1) ∧ (1 ≤ v → v ≤ 8 → bringP v = v) ∧
    (8 < v → bringP v = 8) := by
  unfold bringP
  omega

theorem bringH_brings (v : Nat) : bringH v ≤ 64 ∧ (v ≤ 64 → bringH v = v) ∧ (64 < v → bringH v = 64) := by
  unfold bringH
  omega

/-- `x` is `v` brought into a list of allowed values: itself, else the next above, else the largest. -/
def BroughtInto (allowed : List Nat) (largest v x : Nat) : Prop :=
  x ∈ allowed ∧ (v ∈ allowed → x = v) ∧ (largest < v → x = largest) ∧
    (v ≤ largest → v ≤ x ∧ ∀ a ∈ allowed, v ≤ a → x ≤ a)

theorem bringM_brings (v : Nat) : BroughtInto [16, 32, 64, 128, 256] 256 v (bringM v) := by
  simp only [BroughtInto, List.mem_cons, List.not_mem_nil, or_false, forall_eq_or_imp, forall_eq]
  unfold bringM
  split_ifs <;> omega

theorem bringU_brings (v : Nat) : BroughtInto [64, 128, 256, 512, 1024] 1024 v (bringU v) := by
  simp only [BroughtInto, List.mem_cons, List.not_mem_nil, or_false, forall_eq_or_imp, forall_eq]
  unfold bringU
  split_ifs <;> omega

section
variable {w : Nat} (f : Nat → Nat) (v : Option (BitVec w))

theorem broughtOr_toNat (held : Nat) : broughtOr f held (v.map BitVec.toNat) = (v.map fun x => f x.toNat).getD held := by
  cases v <;> rfl

theorem wasBrought_toNat : wasBrought f (v.map BitVec.toNat) = true ↔ ∃ x, v = some x ∧ f x.toNat ≠ x.toNat := by
  cases v <;> simp [wasBrought]

end

/-- The settings that SET REPAIR leaves, each value kept when left out (R85). -/
def RepairSettings.brought (held : RepairSettings) (p h : Option Byte) (m u : Option (BitVec 16)) : RepairSettings :=
  ⟨(p.map fun v => bringP v.toNat).getD held.p, (h.map fun v => bringH v.toNat).getD held.h,
    (m.map fun v => bringM v.toNat).getD held.m, (u.map fun v => bringU v.toNat).getD held.u⟩

/-- Whether one of the values given to SET REPAIR is not an allowed one. -/
def repairChanged (p h : Option Byte) (m u : Option (BitVec 16)) : Bool :=
  wasBrought bringP (p.map BitVec.toNat) || wasBrought bringH (h.map BitVec.toNat) ||
    wasBrought bringM (m.map BitVec.toNat) || wasBrought bringU (u.map BitVec.toNat)

theorem repairChanged_iff (p h : Option Byte) (m u : Option (BitVec 16)) : repairChanged p h m u = true ↔
    (∃ v, p = some v ∧ bringP v.toNat ≠ v.toNat) ∨ (∃ v, h = some v ∧ bringH v.toNat ≠ v.toNat) ∨
      (∃ v, m = some v ∧ bringM v.toNat ≠ v.toNat) ∨ ∃ v, u = some v ∧ bringU v.toNat ≠ v.toNat := by
  simp only [repairChanged, Bool.or_eq_true, wasBrought_toNat, or_assoc]

section
variable {port : Port} {s : State}

theorem exec_setRepair (hfree : waitsForRise s port = false) (hclaim : s.claims.edit = some port) (p h : Option Byte)
    (m u : Option (BitVec 16)) : exec (.setRepair port p h m u) s =
      .next (respond port 0x51 (if repairChanged p h m u then .clamped else .ok)
        (.repairSettings (s.settings.brought p h m u)) { s with settings := s.settings.brought p h m u }) := by
  refine congrArg Host.Outcome.next ?_
  rw [request_edit _ hfree hclaim]
  simp only [setRepair, broughtOr_toNat]
  rfl

theorem exec_setThresholds (hfree : waitsForRise s port = false) (hclaim : s.claims.edit = some port)
    (high low : BitVec 16) :
    let h := min 896 high.toNat
    let l := min h low.toNat
    exec (.setThresholds port high low) s =
      .next (respond port 0x53 (if h = high.toNat ∧ l = low.toNat then .ok else .clamped) (.thresholds h l)
        { s with faults := { s.faults with high := h, low := l } }) := by
  intro h l
  have hlow : min h (min 896 low.toNat) = l := by omega
  refine congrArg Host.Outcome.next ?_
  rw [request_edit _ hfree hclaim, ← hlow]
  rfl

end

/-- Settles O53: the four settings one by one, then SET REPAIR (`exec_setRepair`) and SET THRESHOLDS
(`exec_setThresholds`) as a whole. -/
theorem settingsBrought : Obligations.SettingsBrought := by
  refine ⟨fun v => ⟨bringP_brings v, bringH_brings v, bringM_brings v, bringU_brings v⟩,
    fun p pv hv mv uv s hfree hclaim => ?repair, fun p high low s hfree hclaim => ?thresholds⟩
  case repair =>
    intro set changed
    have hexec := exec_setRepair hfree hclaim pv hv mv uv
    have hiff : repairChanged pv hv mv uv = true ↔ changed := repairChanged_iff pv hv mv uv
    refine ⟨fun hchanged => ?_, fun hallowed => ?_⟩
    · rw [hexec, if_pos (hiff.mpr hchanged)]
      rfl
    · rw [hexec, if_neg (mt hiff.mp hallowed)]
      rfl
  case thresholds =>
    intro h l t
    have hh : min 896 high.toNat = h := by
      show _ = if 896 < high.toNat then 896 else high.toNat
      split_ifs <;> omega
    have hl : min h low.toNat = l := by
      show _ = if h < low.toNat then h else low.toNat
      split_ifs <;> omega
    have hexec := exec_setThresholds hfree hclaim high low
    simp only [hh, hl] at hexec
    refine ⟨fun heqh heql => ?_, fun hne => ?_⟩
    · rw [hexec, if_pos ⟨heqh, heql⟩]
    · rw [hexec, if_neg (by tauto)]

end Sys2Proof.Machine

namespace Sys2Proof.Machine
open Sys2Proof

-- One theorem at a time: the whole text is also compiled as one, where a thread for each theorem in flight asks for more
-- memory than the check allows.
set_option Elab.async false

/-! ## The jump candidate and the jump counter through the steps due and the end of the period (R98, R102) -/

/-- The jump candidate and the jumps counted stand. -/
structure JumpHold (s t : State) : Prop where
  candidate : t.tapeMap.pos.candidate = s.tapeMap.pos.candidate := by rfl
  jumps : t.faults.counters.jumps = s.faults.counters.jumps := by rfl

section
variable {s t u : State}

theorem JumpHold.refl (s : State) : JumpHold s s := {}

theorem JumpHold.trans (h : JumpHold s t) (g : JumpHold t u) : JumpHold s u :=
  ⟨g.candidate.trans h.candidate, g.jumps.trans h.jumps⟩

theorem SeqFrame.jumpHold (h : SeqFrame s t) : JumpHold s t := ⟨by rw [h.tapeMap], h.sameJumps⟩

/-- A written frame reaches the program index alone (R110, R111). -/
theorem handWritten_jumpHold (a : Afa) (k : ProgramPack) (s : State) : JumpHold s (handWritten a k s) := by
  have hchanged : ∀ v, JumpHold v (indexChange v) := fun _ => {}
  have hinsert : ∀ e, JumpHold s (insertEntry e s) := fun e => by
    unfold insertEntry
    split
    · exact .trans {} (hchanged _)
    · exact {}
  have hremoved : JumpHold s (removeWritten a s) := by
    unfold removeWritten
    split
    · exact .trans {} (hchanged _)
    · exact .refl s
  have hrun : ∀ kind n, JumpHold s (applyWrittenRun a kind n s) := fun kind n => by
    unfold applyWrittenRun
    simp only
    repeat' split
    · exact hinsert _
    · exact .refl s
    · exact .trans {} (hchanged _)
  unfold handWritten
  repeat' split
  · exact hrun _ _
  · exact hremoved
  · exact hremoved

theorem timeoutEntry_jumpHold (w : WrittenFrame) (s : State) : JumpHold s (timeoutEntry w s) := by
  unfold timeoutEntry
  simp only
  repeat' split
  · exact {}
  · exact .trans {} (confirmFailed_seqFrame _ _ _).jumpHold
  · exact {}

theorem writtenTimeout_jumpHold (s : State) : JumpHold s (writtenTimeout s) := by
  unfold writtenTimeout
  generalize s.formatter.written.filter (overdue s) = l
  induction l generalizing s with
  | nil => exact .refl s
  | cons w l ih => exact (timeoutEntry_jumpHold w s).trans (ih _)

theorem runEnd_jumpHold (s : State) : JumpHold s (runEnd s) := by
  unfold runEnd
  split
  · exact .trans {} (markRunReport_seqFrame _ _).jumpHold
  · exact .refl s

theorem buildComplete_jumpHold (s : State) : JumpHold s (buildComplete s) := by
  unfold buildComplete
  repeat' split
  all_goals exact {}

theorem fadeOutEnd_jumpHold (s : State) : JumpHold s (fadeOutEnd s) := by
  unfold fadeOutEnd
  split
  · exact .trans {} (fadeOutReport_seqFrame _ _).jumpHold
  · exact .refl s

theorem closeGate_jumpHold (s : State) : JumpHold s (closeGate s) := by
  unfold closeGate
  exact .trans {} ((reselect_seqFrame _).trans (gateClosedReport_seqFrame _)).jumpHold

theorem normalClose_jumpHold (s : State) : JumpHold s (normalClose s) := by
  unfold normalClose
  split
  · exact closeGate_jumpHold s
  · exact .refl s

theorem forcedClose_jumpHold (s : State) : JumpHold s (forcedClose s) := by
  unfold forcedClose
  split
  · exact closeGate_jumpHold s
  · exact .refl s

theorem gateTest_jumpHold (s : State) : JumpHold s (gateTest s) := by
  unfold gateTest openGate refuseOpen
  repeat' split
  · exact .refl s
  · exact .trans {} (reselect_seqFrame _).jumpHold
  · exact .trans {} (seqRefused_seqFrame _ _ _).jumpHold
  · exact .refl s

theorem txRecord_jumpHold (s : State) : JumpHold s (txRecord s) := by
  unfold txRecord
  split <;> exact {}

theorem endSwitch_jumpHold (s : State) : JumpHold s (endSwitch s) := by
  unfold endSwitch
  repeat' split
  all_goals exact {}

theorem trackASent_jumpHold (s : State) : JumpHold s (trackASent s) := by
  unfold trackASent
  split
  · exact .trans {} (handWritten_jumpHold _ _ _)
  · exact .refl s

theorem writeComplete_jumpHold (s : State) : JumpHold s (writeComplete s) := by
  unfold writeComplete
  split <;> exact {}

theorem finishSending_jumpHold (s : State) : JumpHold s (finishSending s) :=
  (trackASent_jumpHold s).trans <| (forcedClose_jumpHold _).trans <| (writeComplete_jumpHold _).trans
    (forcedClose_jumpHold _)

theorem expireCandidate_candidate (s : State) :
    (expireCandidate s).tapeMap.pos.candidate = heldCandidate s.tapeMap.pos := by
  cases hc : s.tapeMap.pos.candidate with
  | none =>
    rw [expireCandidate_of_none hc, heldCandidate, hc]
    rfl
  | some c =>
    rw [expireCandidate_of_some hc, heldCandidate, hc, Option.filter_some]
    by_cases hage : 9 ≤ c.age
    · rw [if_pos hage, if_neg (by simpa using hage)]
    · rw [if_neg hage, if_pos (by simpa using hage), hc]

/-- Of the steps before a tick the candidate's expiry alone reaches the candidate; none counts a jump. -/
theorem beforeTick_candidate_jumps (s : State) :
    (beforeTick s).tapeMap.pos.candidate = heldCandidate s.tapeMap.pos ∧
      (beforeTick s).faults.counters.jumps = s.faults.counters.jumps := by
  have hdropped : JumpHold s (dropUnchecked s) := {}
  have hto := hdropped.trans (writtenTimeout_jumpHold _)
  have hfades : ∀ u, JumpHold u (settleFades u) := fun _ => {}
  have hrepair : ∀ u, JumpHold u (settleRepair u) := fun _ => {}
  unfold beforeTick settleDue
  generalize writtenTimeout (dropUnchecked s) = v at hto ⊢
  have hrest := (runEnd_jumpHold (expireCandidate v)).trans <| (buildComplete_jumpHold _).trans <|
    (hfades _).trans <| (fadeOutEnd_jumpHold _).trans <| (normalClose_jumpHold _).trans <|
    (forcedClose_jumpHold _).trans <| (gateTest_jumpHold _).trans <| (txRecord_jumpHold _).trans <|
    (endSwitch_jumpHold _).trans <| (hrepair _).trans (finishSending_jumpHold _)
  refine ⟨hrest.candidate.trans ?_, hrest.jumps.trans ?_⟩
  · rw [expireCandidate_candidate, heldCandidate, hto.candidate]
    rfl
  · rw [expireCandidate_faults, hto.jumps]

/-- The position record without a candidate whose age has become 9. -/
def PositionRecord.expired (p : PositionRecord) : PositionRecord := { p with candidate := heldCandidate p }

theorem WorkFrame.pos (h : WorkFrame s t) :
    t.tapeMap.pos = { s.tapeMap.pos with candidate := t.tapeMap.pos.candidate } := by
  show t.tapeMap.pos = ⟨s.tapeMap.pos.state, s.tapeMap.pos.afa, s.tapeMap.pos.rate, s.tapeMap.pos.lastGeneration,
    s.tapeMap.pos.framesSince, t.tapeMap.pos.candidate, s.tapeMap.pos.blankRun⟩
  rw [← h.posState, ← h.posAfa, ← h.posRate, ← h.posGeneration, ← h.posSince, ← h.posBlank]

theorem beforeTick_pos (s : State) : (beforeTick s).tapeMap.pos = s.tapeMap.pos.expired := by
  rw [(beforeTick_workFrame s).pos, (beforeTick_candidate_jumps s).1]
  rfl

end

/-! ## The PRE result at the position record (R97, R100 to R105) -/

/-- The position record after a PRE result: the POSITION pack, the EDIT pack, the blank test. -/
def PositionRecord.arrived (p : PositionRecord) (r : TickResult) (isBlank : Bool) : PositionRecord :=
  ((p.handle r.packs.position).1.edit r.packs.edit).blank isBlank

/-- What a PRE result leaves of the position record, the frame position, the jump counter and the debounce, where the record
before it was `p`. -/
structure PositionArrived (p : PositionRecord) (r : TickResult) (s t : State) : Prop where
  lastPosition : t.seq.lastPosition =
    framePositionOf r.packs.position (p.handle r.packs.position).2 (p.handle r.packs.position).1
  jumps : t.faults.counters.jumps =
    if (p.handle r.packs.position).2 = .jumped then s.faults.counters.jumps + 1 else s.faults.counters.jumps
  raised : (p.handle r.packs.position).2 = .jumped → ∀ q, EventSet.has (s.ports.get q).report .positionJump = true →
    EventSet.has (t.ports.get q).events .positionJump = true
  debounce : r.packs.program = none → t.tapeMap.debounce = none

section
variable (r : TickResult) (s : State)

theorem reportJump_tapeMap : (reportJump s).tapeMap = s.tapeMap := by
  rw [reportJump_eq]
  exact (seqJump_seqFrame _).tapeMap.trans (positionReport_seqFrame _ _).tapeMap

theorem arrivalMoved_pos : (arrivalMoved r s).tapeMap.pos = (s.tapeMap.pos.handle r.packs.position).1 := by
  unfold arrivalMoved
  simp only
  split
  · rw [reportJump_tapeMap]
    rfl
  · rfl

theorem arrivalMoved_raises (h : (s.tapeMap.pos.handle r.packs.position).2 = .jumped) (q : Port)
    (hq : EventSet.has (s.ports.get q).report .positionJump = true) :
    EventSet.has ((arrivalMoved r s).ports.get q).events .positionJump = true := by
  unfold arrivalMoved
  simp only [if_pos h]
  generalize (s.tapeMap.pos.handle r.packs.position).1 = p
  rw [reportJump_eq]
  have hlater := ((positionReport_tickKeep (.positionJump (s.withPosition p).tapeMap.pos.afa)
    (jumpCounted (s.withPosition p))).trans (seqJump_seqFrame _).tickKeep).rights .pre
  refine (hlater.ports q).grows _ ?_
  exact raised_has (SeqFrame.refl (s.withPosition p)) .positionJump q hq

theorem blankNote_congr {t : State} (h : t.transport.mode = s.transport.mode) : blankNote r t = blankNote r s := by
  unfold blankNote
  rw [h]

theorem clogTally_tapeMap (path : ReadPath) (t : Tally) : (clogTally path t s).tapeMap = s.tapeMap := by
  rw [clogTally_only path t s]

theorem verifyStep_tapeMap (path : ReadPath) (scan : Option Afa) (j : Bool) (t : Tally) :
    (verifyStep path scan j t s).tapeMap = s.tapeMap := by
  rw [verifyStep_only path scan j t s]

theorem takeRightsPack_tapeMap (k : Option RightsPack) : (takeRightsPack k s).tapeMap = s.tapeMap := by
  rw [takeRightsPack_only k s]

theorem preTally_tapeMap : (preTally r s).tapeMap = s.tapeMap := by
  unfold preTally
  split
  · exact (clogTally_tapeMap _ _ _).trans ((rateTally_seqFrame _ _).tapeMap.trans (uncorrTally_seqFrame _ s).tapeMap)
  · rfl
  · rfl

theorem seqFramePosition_tapeMap (fp : Option Afa) (st : PosState) (d : Bool) :
    (seqFramePosition fp st d s).tapeMap = s.tapeMap := by
  rw [seqFramePosition_eq]
  split
  · exact (armedPosition_seqFrame _ _ _ _).tapeMap
  · exact (recordingPosition_seqFrame _ _).tapeMap
  all_goals rfl

theorem verifyResult_tapeMap (path : ReadPath) (scan : Option Afa) (j : Bool) :
    (verifyResult path r scan j s).tapeMap = s.tapeMap := by
  unfold verifyResult
  split
  · exact verifyStep_tapeMap s _ _ _ _
  · rfl
  · rfl

theorem tapeMapArrival_pos :
    (tapeMapArrival r s).tapeMap.pos = s.tapeMap.pos.arrived r (blankNote r s) := by
  have hnote := blankNote_congr r s (congrArg Transport.mode (arrivalMoved_tickRights r s .pre).transport)
  have hmoved := arrivalMoved_pos r s
  rw [tapeMapArrival_eq, beforeRightsPack_eq]
  unfold afterRightsPack
  simp only [verifyResult_tapeMap, seqFramePosition_tapeMap, preTally_tapeMap, takeRightsPack_tapeMap]
  show (tapeMapRest _ _ _ _).tapeMap.pos = _
  rw [tapeMapRest_only, hnote, hmoved]
  rfl

theorem tapeMapArrival_arrived : PositionArrived s.tapeMap.pos r s (tapeMapArrival r s) := by
  obtain ⟨hprogram, hlast⟩ := tapeMapArrival_hold r s
  refine ⟨hlast, tapeMapArrival_jumps r s, fun hj q hq => ?_, fun hnone => ?_⟩
  · have hraised := arrivalMoved_raises r s hj q hq
    rw [tapeMapArrival_eq, beforeRightsPack_eq]
    generalize arrivalMoved r s = v at hraised ⊢
    have hrest := (tapeMapRest_tickRights .conf r.packs (blankNote r v) (arrivalPosition r s) v).trans
      ((keepOldFrame_tickKeep r (arrivalPosition r s) (s.tapeMap.pos.handle r.packs.position).1.state _).rights .conf)
    generalize keepOldFrame r _ _ _ = w at hrest ⊢
    have hafter := (takeRightsPack_core .conf r.packs.rights w).trans (afterRightsPack_tickRights r s _).toTickCore
    exact ((hrest.toTickCore.trans hafter).ports q).grows _ hraised
  · rw [(program_eq_iff.mp hprogram).1, hnone, updateDebounce_of_none (by rfl)]
    rfl

end

/-! ## The position record at a whole tick (R97 to R105) -/

section
variable {dir : Direction} {us : Nat} {s t : State} {r : TickResult} {p : PositionRecord}

theorem tickFront_tapeMap (dir : Direction) (us : Nat) (s : State) : (tickFront dir us s).tapeMap = s.tapeMap := by
  have hbuild : ∀ u, (buildAtTick u).tapeMap = u.tapeMap := fun u => by
    unfold buildAtTick
    split <;> rfl
  unfold tickFront tickTransport
  rw [hbuild]
  exact afterTransport_tapeMap _ _

theorem confTick_tapeMap (s : State) : (confTick s).tapeMap = s.tapeMap := by
  rw [confTick_eq]
  unfold confUsers
  split
  · rw [verifyStep_tapeMap, clogTally_tapeMap, confirmTally_tapeMap, decoderTick_tapeMap]
  · exact decoderTick_tapeMap _ _ _
  · exact decoderTick_tapeMap _ _ _

/-- After the decoders the tape map is changed by its own tick alone (R98). -/
theorem tickEnd_tapeMap (s : State) : (tickEnd s).tapeMap = { s.tapeMap with
    periodValue := s.tapeMap.pos.afa, pos := (s.tapeMap.pos.tick s.transport.dir).1 } := by
  unfold tickEnd tickBack
  rw [startSending_tapeMap, buildStart_tapeMap, tickClock_tapeMap, (positionTick_faultOnly _).tapeMap, tickBlend_tapeMap]
  unfold tapeMapTick
  simp only
  split
  · exact (positionReport_seqFrame _ _).tapeMap
  · rfl

theorem PositionArrived.after {v : State} (h : PositionArrived p r s t) (hhold : TickHold t v)
    (hjumps : SameJumps t v) (hports : ∀ q, PortGrow (t.ports.get q) (v.ports.get q)) : PositionArrived p r s v where
  lastPosition := hhold.lastPosition.trans h.lastPosition
  jumps := Eq.trans hjumps h.jumps
  raised hj q hq := (hports q).grows _ (h.raised hj q hq)
  debounce hnone := (program_eq_iff.mp hhold.program).1.trans (h.debounce hnone)

theorem PositionArrived.before {u : State} (h : PositionArrived p r t u) (hjumps : SameJumps s t)
    (hports : ∀ q, PortGrow (s.ports.get q) (t.ports.get q)) : PositionArrived p r s u where
  lastPosition := h.lastPosition
  jumps := h.jumps.trans (by rw [hjumps])
  raised hj q hq := h.raised hj q (by rw [(hports q).rest]; exact hq)
  debounce := h.debounce

theorem atPreDecoder_sameJumps (dir : Direction) (us : Nat) (s : State) : SameJumps s (atPreDecoder dir us s) := by
  have hrights : ∀ u, SameJumps u (tickRights u) := fun _ => rfl
  have hbefore : SameJumps s (beforeTick s) := (beforeTick_candidate_jumps s).2
  exact hbefore.trans ((tickTransport_sameJumps dir us _).trans ((hrights _).trans (buildAtTick_sameJumps _)))

/-- What a tick leaves at the tape map: the record `p` takes the PRE result, then moves, and the period value is its AFA in
between. -/
structure PositionTicked (dir : Direction) (p : PositionRecord) (r : TickResult) (s t : State) : Prop
    extends PositionArrived p r s t where
  periodValue : t.tapeMap.periodValue = (p.arrived r (blankNote r s)).afa
  pos : t.tapeMap.pos = ((p.arrived r (blankNote r s)).tick dir).1

/-- The decoders' part and the rest of a tick at the tape map of a loaded tape. -/
theorem tickEnd_ticked (hloaded : s.transport.mode ≠ .unloaded) : PositionTicked s.transport.dir s.tapeMap.pos
    (decoderResult .pre s) s (tickEnd (confTick (preTick s))) := by
  generalize hr : decoderResult .pre s = r
  have hpre : preTick s = tapeMapArrival r (decoderTick .pre r s) := hr ▸ preTick_of_loaded hloaded
  have hpos := tapeMapArrival_pos r (decoderTick .pre r s)
  have harrived := (tapeMapArrival_arrived r (decoderTick .pre r s)).before (decoderTick_sameJumps .pre r s)
    fun q => by rw [decoderTick_ports]; exact .refl _
  have hcore := (tapeMapArrival_core r (decoderTick .pre r s)).transport
  rw [blankNote_congr r s (congrArg Transport.mode (decoderTick_transport _ _ _))] at hpos
  rw [decoderTick_tapeMap] at hpos harrived
  rw [decoderTick_transport] at hcore
  rw [← hpre] at hpos harrived hcore
  have htape : (tickEnd (confTick (preTick s))).tapeMap = { (preTick s).tapeMap with
      periodValue := (preTick s).tapeMap.pos.afa, pos := ((preTick s).tapeMap.pos.tick s.transport.dir).1 } := by
    rw [tickEnd_tapeMap, confTick_tapeMap, (confTick_rights _).transport,
      decoderTick_transport, hcore]
  refine ⟨harrived.after (fromConf_tickHold _) ?_ (confTick_to_end (preTick s)).1, ?_, ?_⟩
  · exact (confTick_sameJumps _).trans ((tickBack_sameJumps _).trans
      ((buildStart_sameJumps _).trans (startSending_sameJumps _)))
  · rw [htape, hpos]
  · rw [htape, hpos]

theorem atPreDecoder_pos (dir : Direction) (us : Nat) (s : State) :
    (atPreDecoder dir us s).tapeMap.pos = s.tapeMap.pos.expired := by
  unfold atPreDecoder
  rw [tickFront_tapeMap, beforeTick_pos]

/-- The tape map at a whole tick: the PRE result reaches the record after the candidate's expiry, then the tick moves it. -/
theorem frameTick_ticked (dir : Direction) (us : Nat) (hloaded : s.transport.mode ≠ .unloaded) :
    PositionTicked dir s.tapeMap.pos.expired (decoderResult .pre (s.withTransport (frameTick dir us s).transport)) s
      (frameTick dir us s) := by
  have hkeep := (atPreDecoder_tickKeep dir us s).rights .pre
  have htransport : (atPreDecoder dir us s).transport = s.transport.atTick dir us := hkeep.transport
  have hpos := atPreDecoder_pos dir us s
  have hjumps := atPreDecoder_sameJumps dir us s
  have ht : frameTick dir us s = tickEnd (confTick (preTick (atPreDecoder dir us s))) := frameTick_eq dir us s
  rw [← decoderResult_atPreDecoder, ht]
  generalize atPreDecoder dir us s = w at hkeep htransport hpos hjumps
  have hnote : blankNote (decoderResult .pre w) w = blankNote (decoderResult .pre w) s :=
    blankNote_congr _ s (by rw [htransport]; rfl)
  have hdir : w.transport.dir = dir := by rw [htransport]; rfl
  have hend := tickEnd_ticked (s := w) (by rw [htransport]; exact hloaded)
  rw [hdir, hpos] at hend
  exact ⟨hend.toPositionArrived.before hjumps hkeep.ports, hnote ▸ hend.periodValue, hnote ▸ hend.pos⟩

end

end Sys2Proof.Machine

namespace Sys2Proof.Machine
open Sys2Proof

-- One theorem at a time: the whole text is also compiled as one, where a thread for each theorem in flight asks for more
-- memory than the check allows.
set_option Elab.async false

/-! ## A POSITION pack, an EDIT pack and a blank completion at the position record (R100 to R105) -/

section
variable {p : PositionRecord} {k : PositionPack}

theorem withinSnap_eq_false {v a : Afa} : withinSnap v a = false ↔ a + 2 < v ∨ v + 2 < a := by
  simp only [withinSnap, Bool.and_eq_false_iff, decide_eq_false_iff_not, Nat.not_le]

theorem PositionRecord.handle_unknown (h : p.state = .unknown) :
    p.handle (some k) = ({ p.take k with candidate := p.candidate }, .taken) := by
  simp only [PositionRecord.handle, PositionRecord.pack, h, true_or, if_true]

theorem PositionRecord.handle_near (hknown : p.state ≠ .unknown) (hnear : withinSnap k.afa p.afa = true) :
    p.handle (some k) = (p.take k, .taken) := by
  simp only [PositionRecord.handle, PositionRecord.pack, hnear, or_true, if_true, if_neg hknown]

theorem PositionRecord.handle_new (hknown : p.state ≠ .unknown) (hfar : withinSnap k.afa p.afa = false)
    (hother : ∀ c, p.candidate = some c → c.projected ≠ k.afa) :
    p.handle (some k) = ({ p.carry with candidate := some ⟨k.afa, 0⟩ }, .notTaken) := by
  simp only [PositionRecord.handle, PositionRecord.pack, hfar, hknown, Bool.false_eq_true, or_self, if_false]
  split
  · next c hc =>
    rw [if_neg (hother c hc)]
    rfl
  · rfl

theorem PositionRecord.handle_jump {c : JumpCandidate} (hknown : p.state ≠ .unknown) (hfar : withinSnap k.afa p.afa = false)
    (hc : p.candidate = some c) (hat : c.projected = k.afa) : p.handle (some k) = (p.take k, .jumped) := by
  simp only [PositionRecord.handle, PositionRecord.pack, hfar, hknown, Bool.false_eq_true, or_self, if_false, hc, hat,
    if_true]

theorem PositionRecord.carry_unknown_iff (p : PositionRecord) : p.carry.state = .unknown ↔ p.state = .unknown := by
  show (if p.state = .read then PosState.reckoned else p.state) = .unknown ↔ _
  split
  · next hread => simp [hread]
  · rfl

/-- The frame position is the AFA of the record after the POSITION pack, or none while it is UNKNOWN (R103). -/
theorem framePositionOf_handle (p : PositionRecord) (k : Option PositionPack) :
    framePositionOf k (p.handle k).2 (p.handle k).1 =
      if (p.handle k).1.state = .unknown then none else some (p.handle k).1.afa := by
  cases k with
  | none => rfl
  | some k =>
    by_cases hknown : p.state = .unknown
    · rw [PositionRecord.handle_unknown hknown]
      rfl
    cases hnear : withinSnap k.afa p.afa with
    | true =>
      rw [PositionRecord.handle_near hknown hnear]
      rfl
    | false =>
      by_cases hjump : ∃ c, p.candidate = some c ∧ c.projected = k.afa
      · obtain ⟨c, hc, hat⟩ := hjump
        rw [PositionRecord.handle_jump hknown hnear hc hat]
        rfl
      · rw [PositionRecord.handle_new hknown hnear fun c hc hat => hjump ⟨c, hc, hat⟩]
        rfl

/-- The EDIT pack touches the generation alone (R105). -/
theorem PositionRecord.edit_eq (p : PositionRecord) (e : Option EditPack) :
    p.edit e = { p with lastGeneration := (p.edit e).lastGeneration } := by
  cases e <;> rfl

theorem PositionRecord.blank_eighth (h : p.blankRun = 7) :
    p.blank true = { p with blankRun := 8, state := .blank, rate := none, candidate := none } := by
  simp [PositionRecord.blank, h]

theorem PositionRecord.blank_other (h : p.blankRun ≠ 7) : p.blank true = { p with blankRun := min 8 (p.blankRun + 1) } := by
  have hnot : ¬ (p.blankRun < 8 ∧ min 8 (p.blankRun + 1) = 8) := by omega
  simp only [PositionRecord.blank, if_true, if_neg hnot]

theorem PositionRecord.blank_lastGeneration (p : PositionRecord) (b : Bool) :
    (p.blank b).lastGeneration = p.lastGeneration := by
  unfold PositionRecord.blank
  simp only
  repeat' split
  all_goals rfl

theorem PositionRecord.arrived_lastGeneration (p : PositionRecord) (r : TickResult) (b : Bool) :
    (p.arrived r b).lastGeneration = match r.packs.edit with
      | some e => e.generation
      | none => (p.handle r.packs.position).1.lastGeneration := by
  rw [PositionRecord.arrived, blank_lastGeneration]
  cases r.packs.edit <;> rfl

/-- The blank test takes the record after the POSITION pack, but for the generation. -/
theorem PositionRecord.arrived_eq (p : PositionRecord) (r : TickResult) (b : Bool) : p.arrived r b =
    PositionRecord.blank { (p.handle r.packs.position).1 with lastGeneration := (p.arrived r b).lastGeneration } b := by
  rw [arrived, blank_lastGeneration, ← edit_eq]

/-- A candidate carried to the next frame, a tick older (R98). -/
def JumpCandidate.moved (dir : Direction) (c : JumpCandidate) : JumpCandidate :=
  ⟨match dir with | .forward => c.projected + 1 | .reverse => c.projected - 1, c.age + 1⟩

/-- The record at a tick: the AFA moves and stops at the ends of its range, unless the position is UNKNOWN (R98). -/
theorem PositionRecord.tick_eq (p : PositionRecord) (dir : Direction) : (p.tick dir).1 = { p with
    afa := if p.state = .unknown then p.afa
      else match dir with
        | .forward => if p.afa < 1048575 then p.afa + 1 else 1048575
        | .reverse => p.afa - 1
    candidate := p.candidate.map (·.moved dir) } := by
  have hcand : (p.candidate.map fun c => { c with projected := moveFrame dir c.projected, age := c.age + 1 }) =
      p.candidate.map (·.moved dir) := by cases dir <;> rfl
  unfold PositionRecord.tick
  simp only [hcand]
  split
  · rfl
  · cases dir with
    | forward =>
      simp only [moveAfa, afaMax, Nat.succ_le_iff]
      split <;> rfl
    | reverse =>
      by_cases hzero : p.afa = 0 <;> simp [moveAfa, hzero]

end

/-! ## The PRE result of a tick, as the tape map hears of it (R58, R67, R97) -/

section
variable {s : State}

/-- The blank note is taken in PLAY or RECORD of a completion with every audio block lost and no valid pack (R67, R104). -/
theorem blankNote_iff (r : TickResult) (s : State) : blankNote r s = true ↔
    (s.transport.mode = .play ∨ s.transport.mode = .record) ∧ ∃ c, r = .completion c ∧
      c.tally.headA.lost = 56 ∧ c.tally.headB.lost = 56 ∧ r.packs = FramePacks.empty := by
  cases r with
  | completion c =>
    simp only [blankNote, Completion.blank, TickResult.packs, Bool.and_eq_true, Bool.or_eq_true, beq_iff_eq,
      TickResult.completion.injEq, exists_eq_left']
    tauto
  | subcode k => simp [blankNote]
  | noFrame => simp [blankNote]

/-- In STOP and WIND the decoders are called to IDLE, where a tick completes nothing (R57, R58). -/
theorem decoderResult_idle (h : s.transport.mode = .stop ∨ s.transport.mode = .wind) :
    decoderResult .pre s = .noFrame := by
  have hcalled : stateCalledFor .pre s.transport = .idle := by
    rw [stateCalledFor_eq]
    rcases h with h | h <;> simp [h]
  unfold decoderResult
  simp only [hcalled]
  split
  · next hidle => rw [← hidle]
  · rfl

end

/-- A tick with an empty PRE result: the record is carried, then moved (R98, R101). -/
theorem tick_arrived_noFrame (p : PositionRecord) (dir : Direction) : ((p.arrived .noFrame false).tick dir).1 =
    { state := if p.state = .read then .reckoned else p.state
      afa := if p.state = .unknown then p.afa
        else match dir with | .forward => min (p.afa + 1) 1048575 | .reverse => p.afa - 1
      rate := p.rate, lastGeneration := p.lastGeneration, framesSince := min 65535 (p.framesSince + 1)
      candidate := p.candidate.map (·.moved dir), blankRun := 0 } := by
  have hunknown : (p.arrived .noFrame false).state = .unknown ↔ p.state = .unknown := PositionRecord.carry_unknown_iff p
  have hforward : ∀ a : Nat, (if a < 1048575 then a + 1 else 1048575) = min (a + 1) 1048575 := fun a => by
    split <;> omega
  rw [PositionRecord.tick_eq]
  simp only [hunknown]
  show PositionRecord.mk _ (if p.state = .unknown then p.afa else match dir with
    | .forward => if p.afa < 1048575 then p.afa + 1 else 1048575
    | .reverse => p.afa - 1) _ _ _ _ _ = _
  rw [hforward]
  rfl

/-- Settles O19: the PRE result reaches the record that the candidate's expiry leaves, and then the tick moves it
(`frameTick_ticked`); in STOP and WIND that result is empty (`decoderResult_idle`), else the record goes by its POSITION pack
(`PositionRecord.handle_new` and the like), its EDIT pack and the blank note. -/
theorem tickReckons : Obligations.TickReckons := by
  refine ⟨fun dir us s hmode => ⟨frameTick dir us s, rfl, ?_⟩, fun dir us s hloaded => ?_⟩
  · intro p
    have hloaded : s.transport.mode ≠ .unloaded := by rcases hmode with h | h <;> rw [h] <;> decide
    have hticked := frameTick_ticked dir us hloaded
    have hnone : decoderResult .pre (s.withTransport (frameTick dir us s).transport) = .noFrame :=
      decoderResult_idle (by rw [frameTick_transport]; exact hmode)
    generalize frameTick dir us s = t at hticked hnone ⊢
    rw [hnone] at hticked
    refine ⟨?_, hticked.debounce rfl, hticked.lastPosition.trans ?_⟩
    · rw [hticked.pos]
      exact tick_arrived_noFrame p.expired dir
    · refine (framePositionOf_handle p.expired none).trans ?_
      exact if_congr (PositionRecord.carry_unknown_iff p.expired) rfl rfl
  · have hexec : exec (.frameTick dir us) s = .next (frameTick dir us s) := rfl
    have hticked := frameTick_ticked dir us hloaded
    generalize frameTick dir us s = t at hexec hticked
    generalize hr : decoderResult .pre (s.withTransport t.transport) = x at hticked
    refine ⟨t, (s.tapeMap.pos.expired.handle x.packs.position).1, s.tapeMap.pos.expired.arrived x (blankNote x s),
      decide ((s.tapeMap.pos.expired.handle x.packs.position).2 = .jumped), hexec, ?_⟩
    intro r packs blank p carried
    have hx : r = x := hr
    clear_value r
    subst hx
    have hpacks : packs = r.packs := by cases r <;> rfl
    have hblank : blankNote r s = true ↔ blank := by
      rw [blankNote_iff, ← hpacks]
      rfl
    have hp : p = s.tapeMap.pos.expired := rfl
    have hcarried : carried = p.carry := rfl
    clear_value packs blank carried p
    subst hp hpacks hcarried
    generalize s.tapeMap.pos.expired = p at *
    have hposition := hticked.lastPosition.trans (framePositionOf_handle p r.packs.position)
    have hperiod := hticked.periodValue
    have hmoved := hticked.pos.trans (PositionRecord.tick_eq _ dir)
    have hgeneration := p.arrived_lastGeneration r (blankNote r s)
    have hu := p.arrived_eq r (blankNote r s)
    generalize p.arrived r (blankNote r s) = u at hperiod hmoved hgeneration hu ⊢
    refine ⟨fun hnone => ?_, fun k hk => ?_, hgeneration, fun hnot => ?_, fun hb hrun => ?_, fun hb hrun => ?_, hmoved,
      hperiod, hposition, fun hj => ?_, fun hj => ?_⟩
    · rw [hnone]
      exact ⟨rfl, rfl⟩
    · intro taken far
      rw [hk]
      have hfar : far → p.state ≠ .unknown ∧ withinSnap k.afa p.afa = false := fun h =>
        ⟨h.1, withinSnap_eq_false.2 h.2⟩
      refine ⟨fun hunknown => ?_, fun hknown hnot => ?_, fun h hother => ?_, fun h c hc hat => ?_⟩
      · rw [PositionRecord.handle_unknown hunknown]
        exact ⟨rfl, rfl⟩
      · have hnear : withinSnap k.afa p.afa = true := by
          rw [← Bool.not_eq_false, withinSnap_eq_false]
          exact fun h => hnot ⟨hknown, h⟩
        rw [PositionRecord.handle_near hknown hnear]
        exact ⟨rfl, rfl⟩
      · rw [PositionRecord.handle_new (hfar h).1 (hfar h).2 hother]
        exact ⟨rfl, rfl⟩
      · rw [PositionRecord.handle_jump (hfar h).1 (hfar h).2 hc hat]
        exact ⟨rfl, rfl⟩
    · rw [Bool.eq_false_iff.2 (mt hblank.1 hnot)] at hu
      exact hu
    · rw [hblank.2 hb] at hu
      exact hu.trans (PositionRecord.blank_other hrun)
    · rw [hblank.2 hb] at hu
      exact hu.trans (PositionRecord.blank_eighth hrun)
    · rw [hticked.jumps, if_neg (of_decide_eq_false hj)]
    · have hjumped := of_decide_eq_true hj
      exact ⟨by rw [hticked.jumps, if_pos hjumped], hticked.raised hjumped⟩

end Sys2Proof.Machine

namespace Sys2Proof.Machine
open Sys2Proof

-- One theorem at a time: the whole text is also compiled as one, where a thread for each theorem in flight asks for more
-- memory than the check allows.
set_option Elab.async false

/-! ## NOOP and STATUS (R143, R186) -/

section
variable {p : Port} {s : State}

theorem exec_noop (hfree : waitsForRise s p = false) : exec (.noop p) s = .next (respond p 0x00 .ok .zeros s) :=
  congrArg Host.Outcome.next (request_open 0x00 hfree)

theorem exec_status (hfree : waitsForRise s p = false) (page : Byte) : exec (.status p page) s =
    .next (respond p 0x01 (statusRequest p page s).2.1 (statusRequest p page s).2.2 (statusRequest p page s).1) :=
  congrArg Host.Outcome.next (request_open 0x01 hfree)

theorem statusRequest_of_range {page : Byte} (h : 1 < page.toNat) : statusRequest p page s = (s, .range, .zeros) := by
  have hzero : page ≠ 0 := by rintro rfl; exact absurd h (by decide)
  have hone : page ≠ 1 := by rintro rfl; exact absurd h (by decide)
  simp only [statusRequest, if_neg hzero, if_neg hone]

end

/-- Settles O10: NOOP's body and STATUS's two pages are the requests' own; the flag that `clearReset` clears is the port's
alone, and the summary reads it. -/
theorem noopAndStatus : Obligations.NoopAndStatus := by
  intro p s hfree cleared
  refine ⟨exec_noop hfree, exec_status hfree 0, exec_status hfree 1, fun page hpage => ?_, fun res pl => ?_, fun q hq => ?_⟩
  · rw [exec_status hfree, statusRequest_of_range hpage]
  · show ((respond p 0x01 res pl (clearReset p s)).ports.get p).resetFlag = false
    simp [clearReset]
  · exact congrArg PortContext.resetFlag (Ports.get_set_of_ne _ _ _ _ hq)

end Sys2Proof.Machine

namespace Sys2Proof.Machine
open Sys2Proof

-- One theorem at a time: the whole text is also compiled as one, where a thread for each theorem in flight asks for more
-- memory than the check allows.
set_option Elab.async false

/-! ## EDIT WRITE and EDIT READ (R119, R120, R199) -/

section
variable {p : Port} {s : State} {e : EditEntry}

theorem exec_editWrite (hfree : waitsForRise s p = false) (hclaim : s.claims.edit = some p) (k : BitVec 5)
    (e : EditEntry) : exec (.editWrite p k e) s =
      .next (respond p 0x40 (editWrite k e s).2.1 (editWrite k e s).2.2 (editWrite k e s).1) :=
  congrArg Host.Outcome.next (request_edit 0x40 hfree hclaim)

theorem exec_editRead (hfree : waitsForRise s p = false) (k : BitVec 5) (part : Bool) : exec (.editRead p k part) s =
    .next (respond p 0x12 .ok
      (.entryHalf (entryHalfBits k part (s.seq.held == some k.toFin) s.editList[k.toFin])) s) :=
  congrArg Host.Outcome.next (request_open 0x12 hfree)

/-! The action codes of R118 that EDIT WRITE reads. -/

theorem entryAction_eq_punch_iff : entryAction e = .punch ↔ e.action = 1 := by
  unfold entryAction
  generalize e.action = a
  revert a
  decide

theorem entryAction_eq_assemble_iff : entryAction e = .assemble ↔ e.action = 2 := by
  unfold entryAction
  generalize e.action = a
  revert a
  decide

theorem entryAction_eq_link_iff : entryAction e = .link ↔ e.action = 4 := by
  unfold entryAction
  generalize e.action = a
  revert a
  decide

theorem recordsNew_eq_true_iff : recordsNew e = true ↔ e.action = 1 ∨ e.action = 2 := by
  rw [recordsNew, Bool.or_eq_true, beq_iff_eq, beq_iff_eq, entryAction_eq_punch_iff, entryAction_eq_assemble_iff]

theorem entryOutOfRange_iff : entryOutOfRange e = true ↔ (e.action = 1 ∧ e.channels = 3) ∨
    ((e.action = 1 ∨ e.action = 2) ∧ (4 < e.fadeIn.toNat ∨ 4 < e.fadeOut.toNat)) ∨
    e.markerKind = 3 ∨ (e.markerKind ≠ 0 ∧ 999 < e.markerNumber.toNat) ∨
    (e.inPresent = true ∧ 959 < e.inOffset.toNat) ∨ (e.outPresent = true ∧ 959 < e.outOffset.toNat) ∨
    (e.action = 4 ∧ 31 < e.inAfa.toNat) := by
  simp only [entryOutOfRange, Bool.or_eq_true, Bool.and_eq_true, beq_iff_eq, bne_iff_ne, decide_eq_true_iff,
    recordsNew_eq_true_iff, entryAction_eq_punch_iff, entryAction_eq_link_iff, or_assoc]
  rfl

theorem editWrite_of_range (k : BitVec 5) (h : entryOutOfRange e = true) : editWrite k e s = (s, .range, .zeros) :=
  if_pos h

theorem editWrite_busy {k : BitVec 5} (h : ¬ entryOutOfRange e = true) (hheld : s.seq.held = some k.toFin) :
    editWrite k e s = (s, .busy, .zeros) := (if_neg h).trans (if_pos hheld)

theorem editWrite_stores {k : BitVec 5} (h : ¬ entryOutOfRange e = true) (hheld : s.seq.held ≠ some k.toFin) :
    editWrite k e s = ({ s with editList := s.editList.set k.toFin (storedEntry e) }, .ok, .entryNumber k) :=
  (if_neg h).trans (if_neg hheld)

theorem storedEntry_inAfa_kept (h : e.inPresent = true ∨ e.action = 4) : (storedEntry e).inAfa = e.inAfa := by
  refine if_pos ?_
  rwa [Bool.or_eq_true, beq_iff_eq, entryAction_eq_link_iff]

theorem storedEntry_inAfa_absent (hin : e.inPresent = false) (hlink : e.action ≠ 4) : (storedEntry e).inAfa = 0 := by
  refine if_neg ?_
  rw [Bool.or_eq_true, beq_iff_eq, entryAction_eq_link_iff, hin]
  exact not_or.mpr ⟨by decide, hlink⟩

end

/-! ### The bits of an EDIT READ payload -/

section
variable (k : BitVec 5) (held : Bool) (e : EditEntry)

/-! The layouts with the widths of their parts added up, as the lemmas about an appended word read them. -/

theorem entryHalfBits_low_eq : entryHalfBits k false held e =
    (k ++ (BitVec.ofBool false ++ (BitVec.ofBool held ++ (entryBitsLow e ++ 0#32)))).cast (by decide) := rfl

theorem entryHalfBits_high_eq : entryHalfBits k true held e =
    (k ++ (BitVec.ofBool true ++ (BitVec.ofBool held ++ (entryBitsHigh e ++ 0#37)))).cast (by decide) := rfl

theorem entryBitsLow_eq : entryBitsLow e = (e.action ++ (BitVec.ofBool e.endFlag ++ (e.mode ++ (e.channels ++ (e.source ++
    (e.fadeIn ++ (e.fadeOut ++ (e.markerKind ++ (e.markerNumber ++ (BitVec.ofBool e.inPresent ++
      (e.inAfa ++ e.inOffset))))))))))).cast (by decide) := rfl

theorem entryBitsHigh_eq : entryBitsHigh e = (BitVec.ofBool e.outPresent ++ (e.outAfa ++ (e.outOffset ++
    (BitVec.ofBool e.startPresent ++ e.startAfa)))).cast (by decide) := rfl

/-- The entry number, the part and the held bit stand at the head of either half. -/
theorem entryHalfBits_head (part : Bool) : (entryHalfBits k part held e).extractLsb' 91 5 = k ∧
    (entryHalfBits k part held e).getLsbD 90 = part ∧ (entryHalfBits k part held e).getLsbD 89 = held := by
  cases part
  all_goals
    simp (disch := decide) only [entryHalfBits_low_eq, entryHalfBits_high_eq, BitVec.getLsbD_cast, BitVec.extractLsb'_cast,
      BitVec.getLsbD_append, BitVec.extractLsb'_append_eq_of_le, if_neg, if_pos, BitVec.getLsbD_ofBool]
    simp

theorem entryHalfBits_low :
    let b := entryHalfBits k false held e
    b.extractLsb' 86 3 = e.action ∧ b.getLsbD 85 = e.endFlag ∧ b.extractLsb' 84 1 = e.mode ∧
      b.extractLsb' 82 2 = e.channels ∧ b.extractLsb' 81 1 = e.source ∧ b.extractLsb' 78 3 = e.fadeIn ∧
      b.extractLsb' 75 3 = e.fadeOut ∧ b.extractLsb' 73 2 = e.markerKind ∧ b.extractLsb' 63 10 = e.markerNumber ∧
      b.getLsbD 62 = e.inPresent ∧ b.extractLsb' 42 20 = e.inAfa ∧ b.extractLsb' 32 10 = e.inOffset ∧
      b.extractLsb' 0 32 = 0 := by
  simp (disch := decide) only [entryHalfBits_low_eq, entryBitsLow_eq, BitVec.getLsbD_cast, BitVec.extractLsb'_cast,
    BitVec.getLsbD_append, BitVec.extractLsb'_append_eq_of_le, BitVec.extractLsb'_append_eq_of_add_le, if_neg, if_pos,
    BitVec.getLsbD_ofBool]
  simp

theorem entryHalfBits_high :
    let b := entryHalfBits k true held e
    b.getLsbD 88 = e.outPresent ∧ b.extractLsb' 68 20 = e.outAfa ∧ b.extractLsb' 58 10 = e.outOffset ∧
      b.getLsbD 57 = e.startPresent ∧ b.extractLsb' 37 20 = e.startAfa ∧ b.extractLsb' 0 37 = 0 := by
  simp (disch := decide) only [entryHalfBits_high_eq, entryBitsHigh_eq, BitVec.getLsbD_cast, BitVec.extractLsb'_cast,
    BitVec.getLsbD_append, BitVec.extractLsb'_append_eq_of_le, BitVec.extractLsb'_append_eq_of_add_le, if_neg, if_pos,
    BitVec.getLsbD_ofBool]
  simp

end

/-- Settles O47: EDIT WRITE's refusals and the entry it stores (`storedEntry`); EDIT READ's payload, its head in either part
(`entryHalfBits_head`) and the fields of the part named. -/
theorem editListHoldsEntries : Obligations.EditListHoldsEntries := by
  refine ⟨fun p k e s hfree hclaim => ?_, fun p k part s hfree => ⟨_, exec_editRead hfree k part, ?_⟩⟩
  · intro bad
    have hbad : entryOutOfRange e = true ↔ bad := entryOutOfRange_iff
    rw [exec_editWrite hfree hclaim]
    refine ⟨fun h => ?_, fun h hheld => ?_, fun h hheld => ⟨storedEntry e, ?_, rfl, storedEntry_inAfa_kept,
      storedEntry_inAfa_absent, rfl, rfl, rfl, rfl, rfl⟩⟩
    · rw [editWrite_of_range k (hbad.mpr h)]
    · rw [editWrite_busy (mt hbad.mp h) hheld]
    · rw [editWrite_stores (mt hbad.mp h) hheld]
  · obtain ⟨hnumber, hpart, hheld⟩ := entryHalfBits_head k (s.seq.held == some k.toFin) s.editList[k.toFin] part
    refine ⟨hnumber, hpart, by rw [hheld, beq_iff_eq], fun h => ?_, fun h => ?_⟩
    · rw [h]
      exact entryHalfBits_low k _ _
    · rw [h]
      exact entryHalfBits_high k _ _

end Sys2Proof.Machine

namespace Sys2Proof.Machine
open Sys2Proof

-- One theorem at a time: the whole text is also compiled as one, where a thread for each theorem in flight asks for more
-- memory than the check allows.
set_option Elab.async false

/-! ## EDIT START, HOLD and CONTINUE (R125, R134, R135) -/

section
variable {p : Port} {s : State} {k : Fin 32}

theorem exec_editStart (hfree : waitsForRise s p = false) (hclaim : s.claims.edit = some p) (c : Byte) :
    exec (.editStart p c) s = .next (respond p 0x41 (editStart c s).2.1 (editStart c s).2.2 (editStart c s).1) :=
  congrArg Host.Outcome.next (request_edit 0x41 hfree hclaim)

theorem exec_hold (hfree : waitsForRise s p = false) (hclaim : s.claims.edit = some p) :
    exec (.hold p) s = .next (respond p 0x42 (holdWalk s).2.1 (holdWalk s).2.2 (holdWalk s).1) :=
  congrArg Host.Outcome.next (request_edit 0x42 hfree hclaim)

theorem exec_continueWalk (hfree : waitsForRise s p = false) (hclaim : s.claims.edit = some p) :
    exec (.continueWalk p) s =
      .next (respond p 0x43 (continueWalk s).2.1 (continueWalk s).2.2 (continueWalk s).1) :=
  congrArg Host.Outcome.next (request_edit 0x43 hfree hclaim)

theorem editStart_of_range {c : Byte} (h : 31 < c.toNat) : editStart c s = (s, .range, .zeros) := dif_neg (by omega)

theorem editStart_busy {c : Byte} (h : c.toNat ≤ 31) (hidle : s.seq.state ≠ .idle) (hfault : s.seq.state ≠ .fault) :
    editStart c s = (s, .busy, .zeros) := by
  rw [editStart, dif_pos (by omega), if_neg (not_or.mpr ⟨hidle, hfault⟩)]

theorem editStart_begins (k : Fin 32) (h : s.seq.state = .idle ∨ s.seq.state = .fault) :
    editStart (BitVec.ofNat 8 k.val) s = withSeqState (editStartAt k s) .ok := by
  have hk : (BitVec.ofNat 8 k.val).toNat = k.val := by
    rw [BitVec.toNat_ofNat]
    omega
  unfold editStart
  simp only [hk, k.isLt, dif_pos, if_pos h, Fin.eta]

theorem holdWalk_armed (h : s.seq.state = .armed) :
    holdWalk s = withSeqState { s with seq := { s.seq with state := .held, kept := true } } .ok := by
  simp only [holdWalk, h]

theorem holdWalk_writing (h : s.seq.state = .recording ∨ s.seq.state = .closing) :
    holdWalk s = withSeqState { s with seq := { s.seq with holdPending := true } } .ok := by
  rcases h with h | h <;> simp only [holdWalk, h]

theorem holdWalk_refused (h : s.seq.state = .idle ∨ s.seq.state = .held ∨ s.seq.state = .fault) :
    holdWalk s = (s, .state, .zeros) := by
  rcases h with h | h | h <;> simp only [holdWalk, h]

theorem continueHeld_of_not_kept (h : s.seq.kept = false) : continueHeld s = fetch s := by
  unfold continueHeld
  split
  · rw [if_neg (by rw [h]; decide)]
  · rfl

theorem continueHeld_of_kept (h : s.seq.kept = true) (hheld : s.seq.held = some k) : continueHeld s =
    if isLate s s.editList[k] then seqStop .late .absent k s
    else { s with seq := { s.seq with state := .armed, kept := false } } := by
  simp only [continueHeld, heldEntry_of_held hheld, if_pos h]

/-- An entry is late when its in-address is at or before the last frame position (R124). -/
theorem isLate_iff (s : State) (e : EditEntry) : isLate s e = true ↔
    ∃ a o lp, entryIn e = some (a, o) ∧ s.seq.lastPosition = some lp ∧ a ≤ lp := by
  unfold isLate
  split
  · next hlast hin => simp [hlast, hin]
  · next hno =>
    refine ⟨nofun, ?_⟩
    rintro ⟨a, o, lp, hin, hlast, -⟩
    exact absurd hin (hno lp a o hlast)

end

/-- Settles O49: each request by the state of the sequencer; a kept entry that is late stops as a fetch does
(`seqStop_stoppedAt`). -/
theorem walkRequests : Obligations.WalkRequests := by
  intro p s hfree hclaim
  rw [exec_hold hfree hclaim, exec_continueWalk hfree hclaim]
  refine ⟨fun c hc => ?_, fun c hc hidle hfault => ?_, fun k h => ?_, fun h => ?_, fun h => ?_, fun h => ?_, fun h => ?_,
    fun h hkept => ?_, fun k h hkept hheld => ?_⟩
  · rw [exec_editStart hfree hclaim, editStart_of_range hc]
  · rw [exec_editStart hfree hclaim, editStart_busy hc hidle hfault]
  · rw [exec_editStart hfree hclaim, editStart_begins k h]
    rfl
  · rw [holdWalk_armed h]
    rfl
  · rw [holdWalk_writing h]
    rfl
  · rw [holdWalk_refused h]
  · rw [continueWalk, if_neg h]
  · rw [continueWalk, if_pos h, continueHeld_of_not_kept hkept]
    rfl
  · rw [continueWalk, if_pos h, continueHeld_of_kept hkept hheld]
    refine ⟨fun hnot => ?_, fun hlate => ⟨_, rfl, ?_⟩⟩
    · rw [if_neg (mt (isLate_iff _ _).mp hnot)]
      rfl
    · rw [if_pos ((isLate_iff _ _).mpr hlate)]
      have hstop := seqStop_stoppedAt (kind := .late) (by decide) .absent k s
      show (seqStop .late .absent k s).seq.state = .fault ∧ (seqStop .late .absent k s).seq.pointer = k ∧
        (seqStop .late .absent k s).seq.held = none ∧ _ ∧
        (s.seq.error = none → (seqStop .late .absent k s).seq.error = _)
      rw [respond_port, withSeqState, hstop]
      refine ⟨rfl, rfl, rfl, rfl, fun hnone => ?_⟩
      simp only [Sequencer.stoppedAt, hnone]
      rfl

end Sys2Proof.Machine

namespace Sys2Proof.Machine
open Sys2Proof

-- One theorem at a time: the whole text is also compiled as one, where a thread for each theorem in flight asks for more
-- memory than the check allows.
set_option Elab.async false

/-! ## Operations of the fault monitor on one kind (R159, R165) -/

/-- Nothing but kind `k`'s record, the clog heads when `k` is CLOG, and the events at the ports differs; a CLOG record that
follows its heads goes on doing so. -/
structure KindFrame (k : FaultKind) (s t : State) : Prop where
  only : t = { s with
    ports := t.ports, faults := { s.faults with records := t.faults.records, heads := t.faults.heads } }
  ports : ∀ q, PortGrow (s.ports.get q) (t.ports.get q)
  get : ∀ j, j ≠ k → t.faults.records.get j = s.faults.records.get j
  synced : ClogSynced s → ClogSynced t

section
variable {k : FaultKind} {s t u : State}

theorem KindFrame.refl (k : FaultKind) (s : State) : KindFrame k s s :=
  ⟨rfl, fun _ => .refl _, fun _ _ => rfl, id⟩

theorem KindFrame.trans (h : KindFrame k s t) (g : KindFrame k t u) : KindFrame k s u where
  only := by
    have ht := h.only
    have hu := g.only
    rw [hu, ht]
  ports q := (h.ports q).trans (g.ports q)
  get j hj := (g.get j hj).trans (h.get j hj)
  synced hs := g.synced (h.synced hs)

theorem raiseEvent_kindFrame (k : FaultKind) (e : Event) (s : State) : KindFrame k s (raiseEvent e s) :=
  ⟨rfl, (raiseEvent_seqFrame e s).ports, fun _ _ => rfl, id⟩

/-- A record replaced, CLOG's by one that follows its heads as the held one does. -/
theorem setRecord_kindFrame {r : FaultRecord} (h : k = .clog → ClogSynced s →
    r.present = s.faults.records.clog.present ∧ r.action = s.faults.records.clog.action) :
    KindFrame k s (setRecord k r s) := by
  refine ⟨rfl, fun _ => .refl _, fun j hj => FaultRecords.get_set_of_ne _ _ _ _ hj, fun hs => ?_⟩
  obtain ⟨hpresent, haction⟩ := hs
  by_cases hk : k = .clog
  · subst hk
    obtain ⟨hp, ha⟩ := h rfl ⟨hpresent, haction⟩
    exact ⟨hp.trans hpresent, ha.trans haction⟩
  · have hclog : (setRecord k r s).faults.records.clog = s.faults.records.clog :=
      FaultRecords.get_set_of_ne s.faults.records k .clog r (Ne.symm hk)
    unfold ClogSynced
    rw [hclog]
    exact ⟨hpresent, haction⟩

theorem setMode_kindFrame (k : FaultKind) (m : FaultMode) (s : State) : KindFrame k s (setMode k m s) := by
  refine setRecord_kindFrame fun hk _ => ?_
  subst hk
  exact ⟨rfl, rfl⟩

theorem setMode_get (k : FaultKind) (m : FaultMode) (s : State) :
    (setMode k m s).faults.records.get k = { s.faults.records.get k with mode := m } := setRecord_get _ _ _

theorem endAction_kindFrame (hk : k ≠ .clog) (s : State) : KindFrame k s (endAction k s) := by
  unfold endAction
  simp only
  split
  · exact (setRecord_kindFrame fun h => absurd h hk).trans (raiseEvent_kindFrame _ _ _)
  · exact .refl k s

theorem endAction_raises (h : (s.faults.records.get k).action = true) (q : Port)
    (hq : EventSet.has (s.ports.get q).report .faultEnded = true) :
    EventSet.has ((endAction k s).ports.get q).events .faultEnded = true := by
  unfold endAction
  simp only [h, if_true]
  exact raised_has (setRecord_seqFrame _ _ s) _ q hq

end

/-! ### The four heads of CLOG, one after another -/

section
variable {h h' : ClogHeads} {p path : ReadPath} {t tr : Track}

theorem ClogHeads.get_set_other (c : ClogHead) (hne : path ≠ p ∨ tr ≠ t) :
    (h.set p t c).get path tr = h.get path tr := by
  by_cases hp : path = p
  · subst hp
    have ht : tr ≠ t := hne.resolve_left fun hn => hn rfl
    cases tr <;> cases t
    case a.a | b.b => exact absurd rfl ht
    all_goals cases path <;> rfl
  · exact ClogHeads.get_set_of_ne h hp t tr c

theorem ClogHeads.set_get (h : ClogHeads) (p : ReadPath) (t : Track) : h.set p t (h.get p t) = h := by
  cases p <;> cases t <;> rfl

theorem ClogHeads.any_list_iff (h : ClogHeads) (f : ClogHead → Bool) :
    h.list.any f = true ↔ ∃ p t, f (h.get p t) = true := by
  constructor
  · simp only [ClogHeads.list, List.any_cons, List.any_nil, Bool.or_false, Bool.or_eq_true]
    rintro (ha | ha | ha | ha)
    exacts [⟨.pre, .a, ha⟩, ⟨.pre, .b, ha⟩, ⟨.conf, .a, ha⟩, ⟨.conf, .b, ha⟩]
  · rintro ⟨p, t, hf⟩
    refine List.any_eq_true.mpr ⟨h.get p t, ?_, hf⟩
    cases p <;> cases t <;> simp [ClogHeads.list, ClogHeads.get]

theorem ClogHeads.any_list_congr {f g : ClogHead → Bool} (heq : ∀ p t, f (h.get p t) = g (h'.get p t)) :
    h.list.any f = h'.list.any g := by
  rw [Bool.eq_iff_iff, any_list_iff, any_list_iff]
  simp only [heq]

theorem ClogHeads.any_list_eq_false (h : ClogHeads) {f : ClogHead → Bool} (hnone : ∀ p t, f (h.get p t) = false) :
    h.list.any f = false := by
  rw [Bool.eq_false_iff, ne_eq, any_list_iff]
  rintro ⟨p, t, hf⟩
  exact absurd hf (by rw [hnone]; decide)

end

/-- An operation on one head of the four, which makes `g` of it; the CLOG record follows in its condition and action
alone. -/
structure HeadOp (f : ReadPath → Track → State → State) (g : ClogHead → ClogHead) : Prop where
  heads : ∀ p t s, (f p t s).faults.heads = s.faults.heads.set p t (g (s.faults.heads.get p t))
  frame : ∀ p t s, KindFrame .clog s (f p t s)
  record : ∀ p t s, (f p t s).faults.records.clog = { s.faults.records.clog with
    present := (f p t s).faults.records.clog.present, action := (f p t s).faults.records.clog.action }

section
variable {f : ReadPath → Track → State → State} {g : ClogHead → ClogHead} {s : State}

theorem setHead_kindFrame (p : ReadPath) (t : Track) (c : ClogHead) (s : State) : KindFrame .clog s (setHead p t c s) :=
  ⟨rfl, fun _ => .refl _, fun _ hj => FaultRecords.get_set_of_ne _ _ _ _ hj, fun _ => setHead_synced p t s c⟩

theorem endHeadAction_headOp : HeadOp endHeadAction fun c => { c with action := false } := by
  have hkept : ∀ p t (s : State), ¬ (s.faults.heads.get p t).action = true →
      s.faults.heads.set p t { s.faults.heads.get p t with action := false } = s.faults.heads := fun p t s hnot => by
    have hoff : (s.faults.heads.get p t).action = false := by simpa using hnot
    conv_rhs => rw [← ClogHeads.set_get s.faults.heads p t]
    rw [← hoff]
  unfold endHeadAction
  refine ⟨fun p t s => ?_, fun p t s => ?_, fun p t s => ?_⟩ <;> simp only <;> split
  · rfl
  · next hnot => exact (hkept p t s hnot).symm
  · exact (setHead_kindFrame p t _ s).trans (raiseEvent_kindFrame _ _ _)
  · exact .refl _ s
  · rfl
  · rfl

theorem clearHead_headOp : HeadOp clearHead fun c => { c with count := 0, present := false } :=
  ⟨fun _ _ _ => rfl, fun p t s => setHead_kindFrame p t _ s, fun _ _ _ => rfl⟩

/-- LATCHED to AUTO at one head (R160): an action whose condition is gone ends. -/
def endGoneHead (p : ReadPath) (t : Track) (s : State) : State :=
  if (s.faults.heads.get p t).present then s else endHeadAction p t s

theorem endGoneHead_headOp : HeadOp endGoneHead fun c => { c with action := c.action && c.present } := by
  unfold endGoneHead
  refine ⟨fun p t s => ?_, fun p t s => ?_, fun p t s => ?_⟩ <;> split
  · next hpresent =>
    rw [hpresent, Bool.and_true, ← hpresent]
    exact (ClogHeads.set_get _ _ _).symm
  · next hgone =>
    have hgone : (s.faults.heads.get p t).present = false := by simpa using hgone
    simp only [hgone, Bool.and_false]
    rw [endHeadAction_headOp.heads, hgone]
  · exact .refl _ s
  · exact endHeadAction_headOp.frame p t s
  · rfl
  · exact endHeadAction_headOp.record p t s

theorem HeadOp.eachHead_get (hf : HeadOp f g) (s : State) (p : ReadPath) (t : Track) :
    (eachHead f s).faults.heads.get p t = g (s.faults.heads.get p t) := by
  unfold eachHead
  simp only [hf.heads]
  cases p <;> cases t <;> rfl

theorem HeadOp.eachHead_frame (hf : HeadOp f g) (s : State) : KindFrame .clog s (eachHead f s) :=
  (hf.frame .pre .a s).trans <| (hf.frame .pre .b _).trans <| (hf.frame .conf .a _).trans (hf.frame .conf .b _)

theorem HeadOp.eachHead_record (hf : HeadOp f g) (hs : ClogSynced s) : (eachHead f s).faults.records.clog =
    { s.faults.records.clog with
      present := s.faults.heads.list.any fun c => (g c).present
      action := s.faults.heads.list.any fun c => (g c).action } := by
  obtain ⟨hpresent, haction⟩ := (hf.eachHead_frame s).synced hs
  have hp : (eachHead f s).faults.heads.list.any (·.present) = s.faults.heads.list.any fun c => (g c).present :=
    ClogHeads.any_list_congr fun p t => by rw [hf.eachHead_get]
  have ha : (eachHead f s).faults.heads.list.any (·.action) = s.faults.heads.list.any fun c => (g c).action :=
    ClogHeads.any_list_congr fun p t => by rw [hf.eachHead_get]
  rw [← hp, ← ha, ← hpresent, ← haction]
  unfold eachHead
  rw [hf.record .conf .b, hf.record .conf .a, hf.record .pre .b, hf.record .pre .a]

theorem endHeadAction_raises {p : ReadPath} {t : Track} {q : Port} (h : ActionHeard p t q s) :
    EventSet.has ((endHeadAction p t s).ports.get q).events .faultEnded = true := by
  unfold endHeadAction
  simp only [h.1, if_true, raiseEvent_port]
  exact notice_has _ _ h.2

/-- An action in force on a head is still in force after an operation on another. -/
theorem HeadOp.actionHeard (hf : HeadOp f g) {path p : ReadPath} {tr t : Track} {q : Port} (h : ActionHeard path tr q s)
    (hne : path ≠ p ∨ tr ≠ t) : ActionHeard path tr q (f p t s) := by
  obtain ⟨haction, hreport⟩ := h
  refine ⟨?_, ?_⟩
  · rwa [hf.heads, ClogHeads.get_set_other _ hne]
  · rwa [((hf.frame p t s).ports q).rest]

theorem eachHead_endHeadAction_raises {path : ReadPath} {tr : Track} {q : Port} (h : ActionHeard path tr q s) :
    EventSet.has ((eachHead endHeadAction s).ports.get q).events .faultEnded = true := by
  have hop := endHeadAction_headOp
  have hgrow : ∀ p t {u : State}, EventSet.has (u.ports.get q).events .faultEnded = true →
      EventSet.has ((endHeadAction p t u).ports.get q).events .faultEnded = true := fun p t u =>
    ((hop.frame p t u).ports q).grows _
  cases path <;> cases tr
  · exact hgrow .conf .b (hgrow .conf .a (hgrow .pre .b (endHeadAction_raises h)))
  · exact hgrow .conf .b (hgrow .conf .a (endHeadAction_raises (hop.actionHeard h (by decide))))
  · exact hgrow .conf .b (endHeadAction_raises (hop.actionHeard (hop.actionHeard h (by decide)) (by decide)))
  · exact endHeadAction_raises (hop.actionHeard (hop.actionHeard (hop.actionHeard h (by decide)) (by decide)) (by decide))

end

end Sys2Proof.Machine

namespace Sys2Proof.Machine
open Sys2Proof

-- One theorem at a time: the whole text is also compiled as one, where a thread for each theorem in flight asks for more
-- memory than the check allows.
set_option Elab.async false

/-! ## A kind's action ended, and its trackers reset (R160) -/

section
variable {k : FaultKind} {m : FaultMode} {s : State}

theorem faultsHeld.clogSynced (h : faultsHeld s) : ClogSynced s := ⟨h.2.2.1, h.2.2.2⟩

theorem endKindAction_of_ne (hk : k ≠ .clog) (s : State) : endKindAction k s = endAction k s := by
  cases k
  case clog => exact absurd rfl hk
  all_goals rfl

theorem endKindAction_kindFrame (k : FaultKind) (s : State) : KindFrame k s (endKindAction k s) := by
  by_cases hk : k = .clog
  · subst hk
    exact endHeadAction_headOp.eachHead_frame s
  · rw [endKindAction_of_ne hk]
    exact endAction_kindFrame hk s

theorem endKindAction_get (hs : ClogSynced s) (k : FaultKind) :
    (endKindAction k s).faults.records.get k = { s.faults.records.get k with action := false } := by
  by_cases hk : k = .clog
  · subst hk
    refine (endHeadAction_headOp.eachHead_record hs).trans ?_
    have hnone : (s.faults.heads.list.any fun _ => false) = false := ClogHeads.any_list_eq_false _ fun _ _ => rfl
    simp only [hnone]
    rw [← hs.1]
    rfl
  · rw [endKindAction_of_ne hk]
    exact endAction_get k s

theorem endKindAction_raises (hs : ClogSynced s) (h : (s.faults.records.get k).action = true) (q : Port)
    (hq : EventSet.has (s.ports.get q).report .faultEnded = true) :
    EventSet.has ((endKindAction k s).ports.get q).events .faultEnded = true := by
  by_cases hk : k = .clog
  · subst hk
    obtain ⟨path, tr, haction⟩ := (ClogHeads.any_list_iff _ _).mp (hs.2.symm.trans h)
    exact eachHead_endHeadAction_raises ⟨haction, hq⟩
  · rw [endKindAction_of_ne hk]
    exact endAction_raises h q hq

theorem endGoneAction_of_ne (hk : k ≠ .clog) (s : State) : endGoneAction k s =
    if (s.faults.records.get k).present then s else endAction k s := by
  cases k
  case clog => exact absurd rfl hk
  all_goals rfl

theorem endGoneAction_kindFrame (k : FaultKind) (s : State) : KindFrame k s (endGoneAction k s) := by
  by_cases hk : k = .clog
  · subst hk
    exact endGoneHead_headOp.eachHead_frame s
  · rw [endGoneAction_of_ne hk]
    split
    · exact .refl k s
    · exact endAction_kindFrame hk s

theorem endGoneAction_get (hk : k ≠ .clog) (s : State) : (endGoneAction k s).faults.records.get k =
    { s.faults.records.get k with action := (s.faults.records.get k).action && (s.faults.records.get k).present } := by
  rw [endGoneAction_of_ne hk]
  split
  · next h =>
    rw [h, Bool.and_true]
  · next h =>
    have h : (s.faults.records.get k).present = false := by simpa using h
    rw [endAction_get, h, Bool.and_false, ← h]

/-- The clog counts and conditions cleared when the kind is CLOG. -/
def headsCleared (k : FaultKind) (s : State) : State := if k = .clog then eachHead clearHead s else s

/-- The trackers of POSITION, RATE and CONFIRM at their reset values when `k` is their kind (log entry 26). -/
def trackersReset (k : FaultKind) (s : State) : State :=
  { s with faults := { s.faults with
    window := if k = .rate then [] else s.faults.window
    positionTag := if k = .position then none else s.faults.positionTag
    handed := if k = .confirm then [] else s.faults.handed
    lastConf := if k = .confirm then none else s.faults.lastConf } }

/-- The record and the heads of a kind set to OFF (R160). -/
def switchedOff (k : FaultKind) (s : State) : State :=
  setRecord k (clearedRecord (headsCleared k (endKindAction k s)) k) (headsCleared k (endKindAction k s))

theorem headsCleared_of_ne (hk : k ≠ .clog) (s : State) : headsCleared k s = s := if_neg hk

theorem headsCleared_kindFrame (k : FaultKind) (s : State) : KindFrame k s (headsCleared k s) := by
  unfold headsCleared
  split
  · next hk =>
    subst hk
    exact clearHead_headOp.eachHead_frame s
  · exact .refl k s

theorem headsCleared_get (hs : ClogSynced s) (k : FaultKind) : ((headsCleared k s).faults.records.get k).action =
    (s.faults.records.get k).action := by
  by_cases hk : k = .clog
  · subst hk
    refine (congrArg FaultRecord.action (clearHead_headOp.eachHead_record hs)).trans hs.2.symm
  · rw [headsCleared_of_ne hk]

theorem headsCleared_clog_present (hs : ClogSynced s) :
    (headsCleared .clog s).faults.records.clog.present = false :=
  (congrArg FaultRecord.present (clearHead_headOp.eachHead_record hs)).trans
    (s.faults.heads.any_list_eq_false (f := fun _ => false) fun _ _ => rfl)

theorem switchedOff_kindFrame (hs : ClogSynced s) (k : FaultKind) : KindFrame k s (switchedOff k s) := by
  have hended := endKindAction_kindFrame k s
  refine (hended.trans (headsCleared_kindFrame k _)).trans (setRecord_kindFrame fun hk _ => ?_)
  subst hk
  exact ⟨(headsCleared_clog_present (hended.synced hs)).symm, rfl⟩

theorem switchedOff_get (hs : ClogSynced s) (k : FaultKind) :
    (switchedOff k s).faults.records.get k = ⟨.off, false, false, false, 0, none, .absent⟩ := by
  have haction : ((headsCleared k (endKindAction k s)).faults.records.get k).action = false := by
    rw [headsCleared_get ((endKindAction_kindFrame k s).synced hs), endKindAction_get hs]
  exact (setRecord_get _ _ _).trans
    (congrArg (fun action => FaultRecord.mk .off false action false 0 none .absent) haction)

theorem switchedOff_heads (s : State) (path : ReadPath) (tr : Track) :
    (switchedOff .clog s).faults.heads.get path tr = ⟨0, false, false⟩ := by
  show (eachHead clearHead (eachHead endHeadAction s)).faults.heads.get path tr = _
  rw [clearHead_headOp.eachHead_get, endHeadAction_headOp.eachHead_get]

theorem switchedOff_raises (hs : ClogSynced s) (h : (s.faults.records.get k).action = true) (q : Port)
    (hq : EventSet.has (s.ports.get q).report .faultEnded = true) :
    EventSet.has ((switchedOff k s).ports.get q).events .faultEnded = true :=
  ((headsCleared_kindFrame k _).ports q).grows _ (endKindAction_raises hs h q hq)

end

/-! ## A change of mode, case by case (R160) -/

section
variable {k : FaultKind} {m : FaultMode} {s : State}

theorem changeMode_same (h : (s.faults.records.get k).mode = m) : changeMode k m s = s := if_pos h

theorem changeMode_off (h : (s.faults.records.get k).mode ≠ .off) :
    changeMode k .off s = trackersReset k (switchedOff k s) := by
  unfold changeMode
  simp only [if_neg h, if_true]
  cases k <;> rfl

theorem changeMode_begins (h : (s.faults.records.get k).mode = .off) (hm : m ≠ .off) :
    changeMode k m s = beginMonitoring k (setMode k m s) := by
  unfold changeMode
  simp only [h, if_neg hm, if_neg hm.symm, if_true]

theorem changeMode_warn (h : (s.faults.records.get k).mode = .latched ∨ (s.faults.records.get k).mode = .auto) :
    changeMode k .warn s = setMode k .warn (endKindAction k s) := by
  unfold changeMode
  rcases h with h | h <;> simp [h]

theorem changeMode_auto_of_latched (h : (s.faults.records.get k).mode = .latched) :
    changeMode k .auto s = setMode k .auto (endGoneAction k s) := by
  unfold changeMode
  simp [h]

theorem changeMode_auto_of_warn (h : (s.faults.records.get k).mode = .warn) :
    changeMode k .auto s = setMode k .auto s := by
  unfold changeMode
  simp [h]

theorem changeMode_latched (h : (s.faults.records.get k).mode = .auto ∨ (s.faults.records.get k).mode = .warn) :
    changeMode k .latched s = setMode k .latched s := by
  unfold changeMode
  rcases h with h | h <;> simp [h]

end

end Sys2Proof.Machine

namespace Sys2Proof.Machine
open Sys2Proof

-- One theorem at a time: the whole text is also compiled as one, where a thread for each theorem in flight asks for more
-- memory than the check allows.
set_option Elab.async false

/-! ## INPUT evaluated in any state (R159, R164) -/

section
variable {s t : State} {k : Fin 32} {d : FaultDetail}

theorem inputCondition_isSome_iff (s : State) :
    (inputCondition s).isSome = true ↔ selectedSource s = .digital ∧ usable s = false := by
  unfold inputCondition
  split <;> simp_all

/-- What an INPUT action does to the entry that writes (R137, R164): the forced close, and the INPUT record as the default
source leaves it once the entry is given up. -/
structure InputEnds (k : Fin 32) (d : FaultDetail) (s t : State) : Prop extends ForcedAtGate s t where
  seq : t.seq = s.seq.failed k ⟨.input, .run, k + 1, .absent, knownAfa s⟩
  blend : ∀ ch, t.blend.get ch = ⟨0, 0, none, none, false⟩
  record : t.faults.records.input =
    if s.formatter.defaultSource = .digital then s.faults.records.input.under (some d) (knownAfa s)
    else (s.faults.records.input.under (some d) (knownAfa s)).under none (knownAfa s)

theorem evaluateInputAction_ends (hc : inputCondition s = some d) (hw : writingEntry s = true)
    (hheld : s.seq.held = some k) (hplay : gateInPlay s = true) (hgone : s.faults.records.input.present = false)
    (hmode : s.faults.records.input.mode = .latched ∨ s.faults.records.input.mode = .auto) :
    InputEnds k d s (evaluateInputAction s) := by
  have hdigital : selectedSource s = .digital := ((inputCondition_isSome_iff s).mp (by rw [hc]; rfl)).1
  have honly := conditionTo_faultOnly .input (some d) s
  have hrecord : (conditionTo .input (some d) s).faults.records.input =
      s.faults.records.input.under (some d) (knownAfa s) := conditionTo_get .input (some d) s
  have hsource := (conditionTo_seqFrame .input (some d) s).sourceKept
  rw [evaluateInputAction_fails hc hw hheld hplay hgone hmode]
  generalize conditionTo .input (some d) s = x at honly hrecord hsource
  have hxheld : x.seq.held = some k := by rw [honly.seq, hheld]
  have hxafa : knownAfa x = knownAfa s := by rw [knownAfa, honly.tapeMap, knownAfa]
  have hclosed := (forcedCloseRequest_seqFrame x).trans (cutRequest_seqFrame _)
  have hforced := (failEntry_walkFrame .input .absent k (cutRequest (forcedCloseRequest x))).forcedAtGate (s := x)
    (by rwa [gateInPlay, honly.formatter])
  have hinput := failEntry_input (s := cutRequest (forcedCloseRequest x)) .input .absent (j := k)
    (by rw [forcedCloseRequest_seq, hxheld])
    (by rw [selectedSource_congr (hclosed.sourceKept) (by rw [forcedCloseRequest_seq]),
      selectedSource_congr hsource (by rw [honly.seq]), hdigital]) k
  refine { gate := ?gate, pendingOpen := hforced.pendingOpen, build := hforced.build, ready := hforced.ready
           closePoint := ?closePoint, seq := ?seq, blend := ?blend, record := ?record }
  case gate => rw [hforced.gate, honly.formatter]
  case closePoint => exact fun hopen => hforced.closePoint (by rw [honly.formatter, hopen])
  case seq => rw [forcedFail_seq (by decide), honly.seq, hxafa]
  case blend => exact forcedFail_blend _ _ hxheld
  case record =>
    rw [hinput, hclosed.defaultSource, honly.formatter, forcedCloseRequest_knownAfa, hxafa,
      show (cutRequest (forcedCloseRequest x)).faults = x.faults from forcedCloseRequest_faults x, hrecord]

/-- An evaluation of INPUT does nothing beyond the fault monitor, or ends the entry that writes. -/
theorem evaluateInputAction_cases (s : State) :
    evaluateInputAction s = conditionTo .input (inputCondition s) s ∨
      ∃ k d, InputEnds k d s (evaluateInputAction s) := by
  by_cases hquiet : inputCondition s = none ∨ writingEntry s = false ∨ gateInPlay s = false ∨
      s.faults.records.input.present = true ∨ s.faults.records.input.mode = .warn ∨ s.faults.records.input.mode = .off
  · exact .inl (evaluateInputAction_quiet hquiet)
  · simp only [not_or, Bool.not_eq_false, Bool.not_eq_true] at hquiet
    obtain ⟨hsome, hw, hplay, hgone, hwarn, hoff⟩ := hquiet
    obtain ⟨d, hd⟩ := Option.ne_none_iff_exists'.mp hsome
    obtain ⟨-, k, hheld, -⟩ := (writingEntry_iff s).mp hw
    refine .inr ⟨k, d, evaluateInputAction_ends hd hw hheld hplay hgone ?_⟩
    cases hmode : s.faults.records.input.mode
    case latched => exact .inl rfl
    case auto => exact .inr rfl
    case warn => exact absurd hmode hwarn
    case off => exact absurd hmode hoff

end

/-! ## The promise of the fault records (R159, R165) through a change of one kind -/

section
variable {s t : State} {k : FaultKind}

theorem FaultRecord.modeHeld_of_action_mode {r : FaultRecord} (h : r.mode = .latched ∨ r.mode = .auto) : r.modeHeld := by
  rcases h with h | h <;> exact ⟨by rw [h]; nofun, by rw [h]; nofun⟩

theorem FaultRecord.under_modeHeld {r : FaultRecord} (h : r.modeHeld) (c : Option FaultDetail) (a : Option Afa) :
    (r.under c a).modeHeld := by
  obtain ⟨hoff, hwarn⟩ := h
  cases hmode : r.mode
  case latched | auto => exact modeHeld_of_action_mode (by rw [under_mode, hmode]; decide)
  case warn =>
    refine ⟨by rw [under_mode, hmode]; nofun, fun _ => ?_⟩
    cases c <;> simp only [under] <;> split <;> simp [hwarn hmode, hmode]
  case off =>
    refine ⟨fun _ => ?_, by rw [under_mode, hmode]; nofun⟩
    obtain ⟨hpresent, haction, hseen⟩ := hoff hmode
    cases c <;> simp [under, hpresent, haction, hseen, hmode]

theorem faultsHeld_of_get (hs : faultsHeld s) (hget : ∀ j, j ≠ k → t.faults.records.get j = s.faults.records.get j)
    (hsynced : ClogSynced t) (hheld : (t.faults.records.get k).modeHeld)
    (hservo : k = .servo → (t.faults.records.get k).mode ≠ .off) : faultsHeld t := by
  obtain ⟨hmodes, hon, -⟩ := hs
  refine ⟨fun j => ?_, ?_, hsynced⟩
  · by_cases hj : j = k
    · rwa [hj]
    · rw [hget j hj]
      exact hmodes j
  · by_cases hk : k = .servo
    · subst hk
      exact hservo rfl
    · rwa [show t.faults.records.servo = s.faults.records.servo from hget .servo (Ne.symm hk)]

theorem evaluateInputAction_get_of_ne {j : FaultKind} (hj : j ≠ .input) (s : State) :
    (evaluateInputAction s).faults.records.get j = s.faults.records.get j :=
  (evaluate_recFrame .input (inputCondition s) s).get j hj hj

theorem evaluateInputAction_mode (s : State) :
    (evaluateInputAction s).faults.records.input.mode = s.faults.records.input.mode := by
  rcases evaluateInputAction_cases s with hquiet | ⟨k, d, hends⟩
  · rw [hquiet]
    exact (congrArg FaultRecord.mode (conditionTo_get .input _ s)).trans (FaultRecord.under_mode _ _ _)
  · rw [hends.record]
    split
    · exact FaultRecord.under_mode _ _ _
    · exact (FaultRecord.under_mode _ _ _).trans (FaultRecord.under_mode _ _ _)

theorem evaluateInputAction_modeHeld (h : s.faults.records.input.modeHeld) :
    (evaluateInputAction s).faults.records.input.modeHeld := by
  have hunder := FaultRecord.under_modeHeld h
  rcases evaluateInputAction_cases s with hquiet | ⟨k, d, hends⟩
  · rw [hquiet]
    have hget : (conditionTo .input (inputCondition s) s).faults.records.input = _ := conditionTo_get .input _ s
    rw [hget]
    exact hunder _ _
  · rw [hends.record]
    split
    · exact hunder _ _
    · exact FaultRecord.under_modeHeld (hunder _ _) _ _

theorem evaluateInputAction_synced (h : ClogSynced s) : ClogSynced (evaluateInputAction s) := by
  have hclog : (evaluateInputAction s).faults.records.clog = s.faults.records.clog :=
    evaluateInputAction_get_of_ne (j := .clog) (by decide) s
  unfold ClogSynced
  rw [hclog, (evaluateInputAction_seqFrame s).heads]
  exact h

end

end Sys2Proof.Machine

namespace Sys2Proof.Machine
open Sys2Proof

-- One theorem at a time: the whole text is also compiled as one, where a thread for each theorem in flight asks for more
-- memory than the check allows.
set_option Elab.async false

/-! ## FAULT MODE (R160) -/

section
variable {p : Port} {s : State} {k : FaultKind} {m : FaultMode}

theorem faultKindOfCode_code (k : FaultKind) : faultKindOfCode (BitVec.ofNat 8 (codeOfFaultKind k)) = some k := by
  cases k <;> rfl

theorem faultKindOfCode_eq_none {c : Byte} (h : c = 0 ∨ 7 < c.toNat) : faultKindOfCode c = none := by
  rcases h with rfl | h
  · rfl
  · unfold faultKindOfCode
    split
    case h_8 => rfl
    all_goals omega

theorem faultModeOfCode_eq_none {c : Byte} (h : 3 < c.toNat) : faultModeOfCode c = none := by
  unfold faultModeOfCode
  split
  case h_5 => rfl
  all_goals omega

theorem faultModeRequest_of_range {kind mode : Byte}
    (h : kind = 0 ∨ 7 < kind.toNat ∨ 3 < mode.toNat ∨ (kind = 1 ∧ mode = 3)) :
    faultModeRequest kind mode s = (s, .range, .zeros) := by
  unfold faultModeRequest
  rcases h with h | h | h | ⟨rfl, rfl⟩
  · rw [faultKindOfCode_eq_none (.inl h)]
  · rw [faultKindOfCode_eq_none (.inr h)]
  · rw [faultModeOfCode_eq_none h]
    split
    · next hno => cases hno
    · rfl
  · rfl

theorem exec_faultMode (hfree : waitsForRise s p = false) (hclaim : s.claims.edit = some p) (kind mode : Byte) :
    exec (.faultMode p kind mode) s = .next (respond p 0x52 (faultModeRequest kind mode s).2.1
      (faultModeRequest kind mode s).2.2 (faultModeRequest kind mode s).1) :=
  congrArg Host.Outcome.next (request_edit 0x52 hfree hclaim)

theorem faultModeRequest_sets {mode : Byte} (hmode : faultModeOfCode mode = some m) (h : ¬ (k = .servo ∧ m = .off)) :
    faultModeRequest (BitVec.ofNat 8 (codeOfFaultKind k)) mode s =
      (changeMode k m s, .ok, .kindRecord k ((changeMode k m s).faults.records.get k)) := by
  unfold faultModeRequest
  rw [faultKindOfCode_code, hmode]
  exact if_neg h

/-! ### What a change of mode leaves of the part -/

/-- A mode other than OFF set, INPUT's monitoring not beginning with it, is the fault monitor's work on the kind alone. -/
theorem changeMode_kindFrame (hm : m ≠ .off) (h : k ≠ .input ∨ (s.faults.records.get k).mode ≠ .off) :
    KindFrame k s (changeMode k m s) := by
  have hset := fun u : State => setMode_kindFrame k m u
  by_cases hsame : (s.faults.records.get k).mode = m
  · rw [changeMode_same hsame]
    exact .refl k s
  · unfold changeMode
    simp only [if_neg hsame, if_neg hm]
    split
    · next hoff =>
      rw [beginMonitoring, if_neg (h.resolve_right fun hne => hne hoff)]
      exact hset s
    · split
      · exact (endKindAction_kindFrame k s).trans (hset _)
      · split
        · exact (endGoneAction_kindFrame k s).trans (hset _)
        · exact hset s
      · exact hset s
      · exact .refl k s

theorem changeMode_input_begins (h : s.faults.records.input.mode = .off) (hm : m ≠ .off) :
    changeMode .input m s = evaluateInputAction (setMode .input m s) := changeMode_begins (k := .input) h hm

/-- The three ways a change of mode goes: nothing changes, or the kind is set to OFF, or to a mode in which it is monitored,
which INPUT may be begun in. -/
theorem changeMode_cases (k : FaultKind) (m : FaultMode) (s : State) :
    (m = .off ∧ (s.faults.records.get k).mode = .off ∧ changeMode k m s = s) ∨
    (m = .off ∧ changeMode k m s = trackersReset k (switchedOff k s)) ∨
    (m ≠ .off ∧ KindFrame k s (changeMode k m s)) ∨
    (m ≠ .off ∧ k = .input ∧ changeMode k m s = evaluateInputAction (setMode .input m s)) := by
  by_cases hm : m = .off
  · subst hm
    by_cases h : (s.faults.records.get k).mode = .off
    · exact .inl ⟨rfl, h, changeMode_same h⟩
    · exact .inr (.inl ⟨rfl, changeMode_off h⟩)
  · by_cases h : k ≠ .input ∨ (s.faults.records.get k).mode ≠ .off
    · exact .inr (.inr (.inl ⟨hm, changeMode_kindFrame hm h⟩))
    · obtain ⟨hk, hoff⟩ := not_or.mp h
      obtain rfl := not_not.mp hk
      exact .inr (.inr (.inr ⟨hm, rfl, changeMode_input_begins (not_not.mp hoff) hm⟩))

theorem changeMode_get_of_ne (hs : ClogSynced s) {j : FaultKind} (hj : j ≠ k) :
    (changeMode k m s).faults.records.get j = s.faults.records.get j := by
  rcases changeMode_cases k m s with ⟨-, -, h⟩ | ⟨-, h⟩ | ⟨-, h⟩ | ⟨-, rfl, h⟩
  · rw [h]
  · rw [h]
    exact (switchedOff_kindFrame hs k).get j hj
  · exact h.get j hj
  · rw [h, evaluateInputAction_get_of_ne hj]
    exact (setMode_kindFrame .input m s).get j hj

theorem changeMode_synced (hs : ClogSynced s) : ClogSynced (changeMode k m s) := by
  rcases changeMode_cases k m s with ⟨-, -, h⟩ | ⟨-, h⟩ | ⟨-, h⟩ | ⟨-, rfl, h⟩
  · rwa [h]
  · rw [h]
    exact (switchedOff_kindFrame hs k).synced hs
  · exact h.synced hs
  · rw [h]
    exact evaluateInputAction_synced ((setMode_kindFrame .input m s).synced hs)

/-- The window, POSITION's tag and CONFIRM's trackers apart, the monitor's work is on the kind's record and heads. -/
theorem changeMode_only (hs : ClogSynced s) (hk : k ≠ .input) : let t := changeMode k m s
    t = { s with
      ports := t.ports
      faults := { s.faults with
        records := t.faults.records, heads := t.faults.heads, window := t.faults.window
        positionTag := t.faults.positionTag, handed := t.faults.handed, lastConf := t.faults.lastConf } } := by
  have hframe : ∀ {t : State}, KindFrame k s t → t = { s with
      ports := t.ports
      faults := { s.faults with
        records := t.faults.records, heads := t.faults.heads, window := t.faults.window
        positionTag := t.faults.positionTag, handed := t.faults.handed, lastConf := t.faults.lastConf } } := fun h => by
    rw [h.only]
  rcases changeMode_cases k m s with ⟨-, -, h⟩ | ⟨-, h⟩ | ⟨-, h⟩ | ⟨-, rfl, -⟩
  · rw [h]
  · have honly := hframe (switchedOff_kindFrame hs k)
    rw [h]
    intro t
    show trackersReset k (switchedOff k s) = _
    rw [honly]
    rfl
  · exact hframe h
  · exact absurd rfl hk

theorem changeMode_confirm_trackers (hs : ClogSynced s) (h : k ≠ .confirm ∨ m ≠ .off) :
    (changeMode k m s).faults.handed = s.faults.handed ∧ (changeMode k m s).faults.lastConf = s.faults.lastConf := by
  rcases changeMode_cases k m s with ⟨-, -, heq⟩ | ⟨hoff, heq⟩ | ⟨-, hframe⟩ | ⟨-, rfl, heq⟩
  · rw [heq]
    exact ⟨rfl, rfl⟩
  · have hk : k ≠ .confirm := h.resolve_right fun hm => hm hoff
    have honly := (switchedOff_kindFrame hs k).only
    rw [heq]
    refine ⟨(if_neg hk).trans ?_, (if_neg hk).trans ?_⟩ <;> rw [honly]
  · rw [hframe.only]
    exact ⟨rfl, rfl⟩
  · rw [heq]
    have hwork := evaluateInputAction_seqFrame (setMode .input m s)
    exact ⟨hwork.handed, hwork.lastConf⟩

/-! ### The kind's record after a change of mode -/

theorem changeMode_off_get (hs : ClogSynced s) (h : (s.faults.records.get k).mode ≠ .off) :
    (changeMode k .off s).faults.records.get k = ⟨.off, false, false, false, 0, none, .absent⟩ := by
  rw [changeMode_off h]
  exact switchedOff_get hs k

theorem changeMode_begins_get (h : (s.faults.records.get k).mode = .off) (hm : m ≠ .off) (hk : k ≠ .input) :
    (changeMode k m s).faults.records.get k = { s.faults.records.get k with mode := m } := by
  rw [changeMode_begins h hm, beginMonitoring, if_neg hk]
  exact setMode_get k m s

theorem changeMode_warn_get (hs : ClogSynced s) (hheld : (s.faults.records.get k).modeHeld)
    (h : (s.faults.records.get k).mode ≠ .off) : (changeMode k .warn s).faults.records.get k =
      { s.faults.records.get k with mode := .warn, action := false } := by
  cases hmode : (s.faults.records.get k).mode
  case latched | auto =>
    rw [changeMode_warn (by rw [hmode]; decide), setMode_get, endKindAction_get hs]
  case warn =>
    rw [changeMode_same hmode, ← hheld.2 hmode, ← hmode]
  case off => exact absurd hmode h

theorem changeMode_auto_get (h : (s.faults.records.get k).mode = .latched) (hk : k ≠ .clog) :
    (changeMode k .auto s).faults.records.get k = { s.faults.records.get k with
      mode := .auto, action := (s.faults.records.get k).action && (s.faults.records.get k).present } := by
  rw [changeMode_auto_of_latched h, setMode_get, endGoneAction_get hk]

theorem changeMode_auto_of_warn_get (h : (s.faults.records.get k).mode = .warn) :
    (changeMode k .auto s).faults.records.get k = { s.faults.records.get k with mode := .auto } := by
  rw [changeMode_auto_of_warn h, setMode_get]

theorem changeMode_latched_get (h : (s.faults.records.get k).mode = .auto ∨ (s.faults.records.get k).mode = .warn) :
    (changeMode k .latched s).faults.records.get k = { s.faults.records.get k with mode := .latched } := by
  rw [changeMode_latched h, setMode_get]

/-- The record in its new mode keeps what R159 allows in that mode. -/
theorem changeMode_get_held (hs : faultsHeld s) : ((changeMode k m s).faults.records.get k).mode = m ∧
    ((changeMode k m s).faults.records.get k).modeHeld := by
  have hheld := hs.1 k
  have hsynced := hs.clogSynced
  by_cases hsame : (s.faults.records.get k).mode = m
  · rw [changeMode_same hsame]
    exact ⟨hsame, hheld⟩
  by_cases hoff : (s.faults.records.get k).mode = .off
  · have hm : m ≠ .off := fun hm => hsame (hoff.trans hm.symm)
    obtain ⟨hpresent, haction, hseen⟩ := hheld.1 hoff
    have hset : ({ s.faults.records.get k with mode := m } : FaultRecord).modeHeld :=
      ⟨fun _ => ⟨hpresent, haction, hseen⟩, fun _ => haction⟩
    by_cases hk : k = .input
    · subst hk
      have hget : (setMode .input m s).faults.records.input = _ := setMode_get .input m s
      rw [changeMode_input_begins hoff hm]
      refine ⟨(evaluateInputAction_mode _).trans (by rw [hget]), evaluateInputAction_modeHeld ?_⟩
      rwa [hget]
    · rw [changeMode_begins_get hoff hm hk]
      exact ⟨rfl, hset⟩
  · cases m
    case off =>
      rw [changeMode_off_get hsynced hoff]
      exact ⟨rfl, fun _ => ⟨rfl, rfl, rfl⟩, nofun⟩
    case warn =>
      rw [changeMode_warn_get hsynced hheld hoff]
      exact ⟨rfl, nofun, fun _ => rfl⟩
    case latched =>
      have hmode : (s.faults.records.get k).mode = .auto ∨ (s.faults.records.get k).mode = .warn := by
        cases h : (s.faults.records.get k).mode <;> simp_all
      rw [changeMode_latched_get hmode]
      exact ⟨rfl, FaultRecord.modeHeld_of_action_mode (.inl rfl)⟩
    case auto =>
      have hmode : ((changeMode k .auto s).faults.records.get k).mode = .auto := by
        cases h : (s.faults.records.get k).mode
        case latched => rw [changeMode_auto_of_latched h, setMode_get]
        case warn => rw [changeMode_auto_of_warn_get h]
        case auto => exact absurd h hsame
        case off => exact absurd h hoff
      exact ⟨hmode, FaultRecord.modeHeld_of_action_mode (.inr hmode)⟩

theorem changeMode_faultsHeld (hs : faultsHeld s) (h : ¬ (k = .servo ∧ m = .off)) : faultsHeld (changeMode k m s) := by
  obtain ⟨hmode, hheld⟩ := changeMode_get_held (k := k) (m := m) hs
  refine faultsHeld_of_get hs (fun j hj => changeMode_get_of_ne hs.clogSynced hj) (changeMode_synced hs.clogSynced) hheld
    fun hk => ?_
  rw [hmode]
  exact fun hm => h ⟨hk, hm⟩

/-! ### The heads of CLOG -/

theorem changeMode_warn_heads (hheld : s.faults.records.clog.modeHeld) (hsynced : ClogSynced s)
    (h : s.faults.records.clog.mode ≠ .off) (path : ReadPath) (tr : Track) :
    (changeMode .clog .warn s).faults.heads.get path tr = { s.faults.heads.get path tr with action := false } := by
  cases hmode : s.faults.records.clog.mode
  case latched | auto =>
    rw [changeMode_warn (k := .clog) (by rw [show (s.faults.records.get .clog).mode = _ from hmode]; decide)]
    exact endHeadAction_headOp.eachHead_get s path tr
  case warn =>
    rw [changeMode_same (k := .clog) hmode]
    have hnone : (s.faults.heads.get path tr).action = false := by
      rw [Bool.eq_false_iff]
      intro haction
      have hany := (ClogHeads.any_list_iff s.faults.heads (·.action)).mpr ⟨path, tr, haction⟩
      rw [← hsynced.2, hheld.2 hmode] at hany
      cases hany
    rw [← hnone]
  case off => exact absurd hmode h

theorem changeMode_auto_heads (h : s.faults.records.clog.mode = .latched) (path : ReadPath) (tr : Track) :
    (changeMode .clog .auto s).faults.heads.get path tr = { s.faults.heads.get path tr with
      action := (s.faults.heads.get path tr).action && (s.faults.heads.get path tr).present } := by
  rw [changeMode_auto_of_latched (k := .clog) h]
  exact endGoneHead_headOp.eachHead_get s path tr

end

end Sys2Proof.Machine

namespace Sys2Proof.Machine
open Sys2Proof

-- One theorem at a time: the whole text is also compiled as one, where a thread for each theorem in flight asks for more
-- memory than the check allows.
set_option Elab.async false

/-! ## OFF, and INPUT's monitoring begun, as FAULT MODE reports them (R160, R164) -/

section
variable {r : FaultRecord} {c : Option FaultDetail} {a : Option Afa}

theorem FaultRecord.under_present_iff (hgone : r.present = false) (hon : r.mode ≠ .off) :
    (r.under c a).present = true ↔ c.isSome = true := by
  cases c with
  | none => exact iff_of_false nofun nofun
  | some d => rw [under_of_new hgone hon]; exact iff_of_true rfl rfl

theorem FaultRecord.under_raised (hgone : r.present = false) (hon : r.mode ≠ .off) (haction : r.action = false)
    (hc : c.isSome = true) : (r.under c a).seen = true ∧
      (r.under c a).action = (r.mode == .latched || r.mode == .auto) := by
  obtain ⟨d, rfl⟩ := Option.isSome_iff_exists.mp hc
  rw [under_of_new hgone hon]
  refine ⟨rfl, ?_⟩
  simp only [haction, Bool.or_false]
  cases r.mode <;> rfl

end

section
variable {k : FaultKind} {m : FaultMode} {s : State}

theorem changeMode_off_heads (h : s.faults.records.clog.mode ≠ .off) (path : ReadPath) (tr : Track) :
    (changeMode .clog .off s).faults.heads.get path tr = ⟨0, false, false⟩ := by
  rw [changeMode_off (k := .clog) h]
  exact switchedOff_heads s path tr

theorem changeMode_off_raises (hs : ClogSynced s) (h : (s.faults.records.get k).mode ≠ .off)
    (haction : (s.faults.records.get k).action = true) (q : Port)
    (hq : EventSet.has (s.ports.get q).report .faultEnded = true) :
    EventSet.has ((changeMode k .off s).ports.get q).events .faultEnded = true := by
  rw [changeMode_off h]
  exact switchedOff_raises hs haction q hq

/-- INPUT's record in its new mode, its condition not yet evaluated. -/
def inputSet (m : FaultMode) (s : State) : FaultRecord := { s.faults.records.input with mode := m }

theorem setMode_input (m : FaultMode) (s : State) : (setMode .input m s).faults.records.input = inputSet m s :=
  setMode_get .input m s

theorem inputSet_gone (hs : faultsHeld s) (hoff : s.faults.records.input.mode = .off) :
    (inputSet m s).present = false ∧ (inputSet m s).action = false :=
  let ⟨hpresent, haction, _⟩ := (hs.1 .input).1 hoff
  ⟨hpresent, haction⟩

theorem changeMode_input_quiet (hoff : s.faults.records.input.mode = .off) (hm : m ≠ .off)
    (h : writingEntry s = false ∨ gateInPlay s = false ∨ inputCondition s = none ∨ m = .warn) :
    (changeMode .input m s).faults.records.input = (inputSet m s).under (inputCondition s) (knownAfa s) ∧
      (changeMode .input m s).seq = s.seq := by
  have hquiet : evaluateInputAction (setMode .input m s) = conditionTo .input (inputCondition s) (setMode .input m s) := by
    refine evaluateInputAction_quiet ?_
    rw [setMode_input]
    rcases h with h | h | h | h
    exacts [.inr (.inl h), .inr (.inr (.inl h)), .inl h, .inr (.inr (.inr (.inr (.inl h))))]
  rw [changeMode_input_begins hoff hm, hquiet]
  refine ⟨?_, conditionTo_seq _ _ _⟩
  rw [← setMode_input]
  exact conditionTo_get .input _ _

theorem changeMode_input_ports (hs : faultsHeld s) (hoff : s.faults.records.input.mode = .off) (hm : m ≠ .off)
    (hc : (inputCondition s).isSome = true) (q : Port) (hq : EventSet.has (s.ports.get q).report .faultRaised = true) :
    EventSet.has ((changeMode .input m s).ports.get q).events .faultRaised = true := by
  rw [changeMode_input_begins hoff hm]
  refine evaluateInputAction_ports (setMode .input m s) hc ?_ ?_ q hq <;> rw [setMode_input]
  · exact (inputSet_gone hs hoff).1
  · exact hm

/-- INPUT's monitoring begun while no entry writes: the record is in its condition at once (R164). -/
theorem changeMode_input_record (hs : faultsHeld s) (hoff : s.faults.records.input.mode = .off) (hm : m ≠ .off)
    (hw : writingEntry s = false) : let t := changeMode .input m s
    (t.faults.records.input.present = true ↔ selectedSource s = .digital ∧ usable s = false) ∧
    (t.faults.records.input.present = true → t.faults.records.input.seen = true ∧
      t.faults.records.input.action = (m == .latched || m == .auto) ∧
      ∀ q, EventSet.has (s.ports.get q).report .faultRaised = true →
        EventSet.has (t.ports.get q).events .faultRaised = true) := by
  intro t
  obtain ⟨hgone, haction⟩ := inputSet_gone (m := m) hs hoff
  have hiff := FaultRecord.under_present_iff (c := inputCondition s) (a := knownAfa s) hgone hm
  rw [(changeMode_input_quiet hoff hm (.inl hw)).1]
  refine ⟨hiff.trans (inputCondition_isSome_iff s), fun hpresent => ?_⟩
  have hc := hiff.mp hpresent
  obtain ⟨hseen, hact⟩ := FaultRecord.under_raised (a := knownAfa s) hgone hm haction hc
  exact ⟨hseen, hact, changeMode_input_ports hs hoff hm hc⟩

theorem inputCondition_eq_of_isSome (h : (inputCondition s).isSome = true) :
    inputCondition s = some (if s.rights.lock then .inputRate else .inputUnlocked) :=
  if_pos ((inputCondition_isSome_iff s).mp h)

theorem changeMode_input_ends {j : Fin 32} (hs : faultsHeld s) (hoff : s.faults.records.input.mode = .off)
    (hheld : s.seq.held = some j) (hw : writingEntry s = true) (hplay : gateInPlay s = true)
    (hc : (inputCondition s).isSome = true) (hm : m = .latched ∨ m = .auto) :
    InputEnds j (if s.rights.lock then .inputRate else .inputUnlocked) (setMode .input m s) (changeMode .input m s) := by
  have hon : m ≠ .off := by rcases hm with rfl | rfl <;> decide
  rw [changeMode_input_begins hoff hon]
  refine evaluateInputAction_ends (s := setMode .input m s) (inputCondition_eq_of_isSome hc) hw hheld hplay ?_ ?_ <;>
    rw [setMode_input]
  · exact (inputSet_gone hs hoff).1
  · exact hm

/-- The record an ended INPUT leaves: seen, with its detail, and present while the default source is the digital one. -/
theorem changeMode_input_ends_record {j : Fin 32} {d : FaultDetail} {t : State} (hs : faultsHeld s)
    (hoff : s.faults.records.input.mode = .off) (hm : m ≠ .off) (h : InputEnds j d (setMode .input m s) t) :
    t.faults.records.input.seen = true ∧ t.faults.records.input.detail = d ∧
      (t.faults.records.input.present = true ↔ s.formatter.defaultSource = .digital) := by
  have hsource : (setMode .input m s).formatter.defaultSource = s.formatter.defaultSource := rfl
  rw [h.record, setMode_input, FaultRecord.under_of_new (inputSet_gone hs hoff).1 hm, hsource]
  split
  · next hdigital => exact ⟨rfl, rfl, iff_of_true rfl hdigital⟩
  · next hother => exact ⟨rfl, rfl, iff_of_false nofun hother⟩

end

/-- Settles O54: FAULT MODE's record, heads and trackers by the old and the new mode, each case by its own lemma on
`changeMode`. -/
theorem faultModes : Obligations.FaultModes := by
  unfold Obligations.FaultModes
  intro p s hfree hclaim
  refine ⟨fun kind mode h => ?_, fun k m hs hservo => ?_⟩
  · rw [exec_faultMode hfree hclaim, faultModeRequest_of_range h]
  intro kc mc r
  have hsynced := hs.clogSynced
  have hmc : faultModeOfCode mc = some m := by cases m <;> rfl
  have hexec := exec_faultMode hfree hclaim kc mc
  rw [faultModeRequest_sets hmc hservo] at hexec
  refine ⟨_, hexec, ⟨(changeMode_get_held hs).1, changeMode_faultsHeld hs hservo⟩, by rw [respond_port]; rfl,
    fun j hj _ => changeMode_get_of_ne hsynced hj, fun h => by rw [changeMode_same h.symm], fun hne hm => ?toOff,
    fun hoff hm hk => changeMode_begins_get hoff hm hk, fun hoff hm hk hw => ?begins, fun hoff hm hk => ?input,
    fun hoff hm => ?toWarn, fun h hm hk => ?toAuto, fun h hm hk => ?toAutoHeads, fun h hm => ?toLatched,
    fun h hm => ?warnToAuto, fun hk => ?only, fun h => changeMode_confirm_trackers hsynced h⟩
  case toOff =>
    subst hm
    have hon : r.mode ≠ .off := hne.symm
    have hwork := changeMode_off hon
    refine ⟨changeMode_off_get hsynced hon, ?_, ?_, ?_, ?_, fun haction q hq => ?_⟩
    · rintro rfl
      exact changeMode_off_heads hon
    · rintro rfl
      exact congrArg (·.faults.window) hwork
    · rintro rfl
      exact congrArg (·.faults.positionTag) hwork
    · rintro rfl
      exact ⟨congrArg (·.faults.handed) hwork, congrArg (·.faults.lastConf) hwork⟩
    · rw [respond_events]
      exact changeMode_off_raises hsynced hon haction q hq
  case begins =>
    subst hk
    obtain ⟨hpresent, hraised⟩ := changeMode_input_record hs hoff hm hw
    refine ⟨hpresent, fun h => ?_⟩
    obtain ⟨hseen, haction, hevents⟩ := hraised h
    refine ⟨hseen, haction, fun q hq => ?_⟩
    rw [respond_events]
    exact hevents q hq
  case input =>
    subst hk
    refine ⟨not_usable_iff, changeMode_input_quiet hoff hm, fun j hheld hw hplay hc hact => ?_⟩
    have hends := changeMode_input_ends hs hoff hheld hw hplay hc hact
    have hrecord := changeMode_input_ends_record hs hoff hm hends
    exact ⟨hends.seq, hends.gate, hends.pendingOpen, hends.closePoint, hends.blend, hrecord⟩
  case toWarn =>
    subst hm
    refine ⟨changeMode_warn_get hsynced (hs.1 k) hoff, ?_⟩
    rintro rfl
    exact changeMode_warn_heads (hs.1 .clog) hsynced hoff
  case toAuto =>
    subst hm
    exact changeMode_auto_get h hk
  case toAutoHeads =>
    subst hm hk
    exact changeMode_auto_heads h
  case toLatched =>
    subst hm
    exact changeMode_latched_get h
  case warnToAuto =>
    subst hm
    exact changeMode_auto_of_warn_get h
  case only =>
    have honly := changeMode_only (m := m) hsynced hk
    generalize changeMode k m s = u at honly ⊢
    rw [honly]
    rfl

end Sys2Proof.Machine

namespace Sys2Proof.Machine
open Sys2Proof

-- One theorem at a time: the whole text is also compiled as one, where a thread for each theorem in flight asks for more
-- memory than the check allows.
set_option Elab.async false

/-! ## The output rights word (R155) -/

/-- The word formed again and the transmitter's block are all that the rights unit touches. -/
theorem refreshWord_only (s : State) : refreshWord s = { s with
    rights := { s.rights with word := (refreshWord s).rights.word }
    outputs := { s.outputs with txWorst := (refreshWord s).outputs.txWorst } } := rfl

@[simp] theorem wordOf_copy (c : CopyState) : (wordOf c).copy = c := by cases c <;> rfl

theorem wordOf_permit_iff (c : CopyState) : (wordOf c).permit = true ↔ c = .copyOpen := by cases c <;> decide

theorem wordOf_generation_iff (c : CopyState) : (wordOf c).generation = .copy ↔ c = .copyNone := by cases c <;> decide

theorem copyOfSource_eq_open_iff (a : SourceState) : copyOfSource a = .copyOpen ↔ a = .rightsOpen := by
  cases a <;> decide

theorem copyOfSource_eq_one_iff (a : SourceState) : copyOfSource a = .copyOne ↔ a = .rightsOne := by
  cases a <;> decide

/-- UNSTATED is output as NONE (R155). -/
theorem copyOfSource_eq_none_iff (a : SourceState) :
    copyOfSource a = .copyNone ↔ a = .rightsNone ∨ a = .rightsUnstated := by
  cases a <;> decide

/-- The more restrictive of two copy states has the larger code (R200). -/
theorem codeOfCopy_maxCopy (a b : CopyState) : codeOfCopy (maxCopy a b) = max (codeOfCopy a) (codeOfCopy b) := by
  unfold maxCopy
  split <;> omega

/-! ## The output copy state (R148, R155) -/

theorem restriction_moreRestrictive (a b : SourceState) :
    restriction (moreRestrictive a b) = max (restriction a) (restriction b) := by
  have hleft := le_moreRestrictive_left a b
  have hright := le_moreRestrictive_right a b
  rcases moreRestrictive_eq a b with h | h <;> rw [h] at hleft hright ⊢
  · exact (max_eq_left hright).symm
  · exact (max_eq_right hleft).symm

section
variable {s : State}

theorem outputCopy_settled (h : s.monitor.switch = none) : outputCopy s = sourceCopy s s.monitor.source := by
  simp only [outputCopy, h]

theorem outputCopy_switching {w : MonitorSwitch} (h : s.monitor.switch = some w) :
    outputCopy s = moreRestrictive (sourceCopy s w.src) (sourceCopy s w.dst) := by
  simp only [outputCopy, h]

/-! ## TX_STATUS_RECORD (R156) -/

/-- The record that the transmitter sends at the end of its block. -/
def blockRecord (s : State) : TxRecord :=
  ⟨.consumer, (wordOf s.outputs.txWorst).permit, (wordOf s.outputs.txWorst).generation, s.clock.rate, 0⟩

theorem txRecord_of_due (h : 256 ≤ s.outputs.txPairs) : txRecord s = { s with outputs := { s.outputs with
    txPairs := 0, txWorst := s.rights.word.copy, txSent := some (blockRecord s) } } :=
  if_pos (decide_eq_true h)

theorem txRecord_of_lt (h : s.outputs.txPairs < 256) : txRecord s = s :=
  if_neg (by simp [txDue, h])

end

/-- Settles O39: the word is that of the output copy state as output (`wordOf`, `copyOfSource`); the record of the block is
`blockRecord`. -/
theorem outputRights : Obligations.OutputRights := by
  refine ⟨fun s => ?word, fun s => ⟨fun hdue => ?sent, fun hlt => ?early⟩⟩
  case word =>
    intro t
    have hword : t.rights.word = wordOf (copyOfSource (outputCopy s)) := rfl
    have hworst : t.outputs.txWorst = maxCopy s.outputs.txWorst t.rights.word.copy := rfl
    refine ⟨refreshWord_only s, ?_, ?_, ?_, ?_, ?_, outputCopy_settled, fun w hw => ?switching, rfl, rfl, rfl, rfl,
      fun src => ?restriction⟩
    · rw [hword, wordOf_permit_iff, copyOfSource_eq_open_iff]
    · rw [hword, wordOf_generation_iff, copyOfSource_eq_none_iff]
    · rw [hword, wordOf_copy, copyOfSource_eq_open_iff]
    · rw [hword, wordOf_copy, copyOfSource_eq_one_iff]
    · rw [hworst, codeOfCopy_maxCopy]
    case switching =>
      rw [outputCopy_switching hw]
      exact ⟨rfl, le_moreRestrictive_left _ _, le_moreRestrictive_right _ _⟩
    case restriction =>
      cases src with
      | pre | newPath => rfl
      | conf | blend => exact restriction_moreRestrictive _ _
  case sent =>
    exact ⟨blockRecord s, congrArg Host.Outcome.next (txRecord_of_due hdue), rfl, rfl, rfl, wordOf_permit_iff _,
      wordOf_generation_iff _⟩
  case early => exact congrArg Host.Outcome.next (txRecord_of_lt hlt)

/-! ## READ RIGHTS (R157) -/

theorem exec_readRights {p : Port} {s : State} (hfree : waitsForRise s p = false) :
    exec (.readRights p) s = .next (respond p 0x13 .ok (.rights (rightsView s)) s) :=
  congrArg Host.Outcome.next (request_open 0x13 hfree)

/-- The view gives the selected one of the two source states it carries (R147, R148). -/
theorem rightsView_selectedState (s : State) : (rightsView s).selectedState =
    if (rightsView s).selected = .digital then (rightsView s).digital else (rightsView s).analog := by
  show stateOfSource s (selectedSource s) =
    if selectedSource s = .digital then s.rights.digital else sourceOfCopy s.formatter.analogRights
  cases selectedSource s <;> rfl

/-- Settles O40: the payload is `rightsView`, read off field by field. -/
theorem readRightsReturnsAll : Obligations.ReadRightsReturnsAll := fun _ s hfree =>
  ⟨rightsView s, exec_readRights hfree, rfl, rfl, rfl, rfl, rfl, rfl, rightsView_selectedState s, rfl, rfl, rfl, rfl, rfl,
    rfl, rfl, rfl⟩

end Sys2Proof.Machine

namespace Sys2Proof.Machine
open Sys2Proof

-- One theorem at a time: the whole text is also compiled as one, where a thread for each theorem in flight asks for more
-- memory than the check allows.
set_option Elab.async false

/-! ## The promise of the fault records (R159, R165) through the sequencer's work, which evaluates INPUT alone -/

section
variable {s t : State}

/-- The promise is about the records and the clog heads alone. -/
theorem faultsHeld_of_faults (heq : t.faults = s.faults) (h : faultsHeld s) : faultsHeld t := by
  unfold faultsHeld
  rw [heq]
  exact h

theorem conditionTo_faultsHeld {k : FaultKind} (hk : k ≠ .clog) (c : Option FaultDetail) (h : faultsHeld s) :
    faultsHeld (conditionTo k c s) := by
  have hclog : (conditionTo k c s).faults.records.clog = s.faults.records.clog :=
    conditionTo_get_of_ne (j := .clog) hk.symm c s
  refine faultsHeld_of_get h (fun j hj => conditionTo_get_of_ne hj c s) ?_ ?_ fun hservo => ?_
  · unfold ClogSynced
    rw [hclog, (conditionTo_seqFrame k c s).heads]
    exact h.clogSynced
  · rw [conditionTo_get]
    exact FaultRecord.under_modeHeld (h.1 k) _ _
  · rw [conditionTo_get, FaultRecord.under_mode, hservo]
    exact h.2.1

theorem reselect_faultsHeld (h : faultsHeld s) : faultsHeld (reselect s) := faultsHeld_of_faults (reselect_faults s) h

theorem afterSourceChange_faultsHeld (s0 : State) (h : faultsHeld s) : faultsHeld (afterSourceChange s0 s) := by
  unfold afterSourceChange
  split
  · exact h
  · exact conditionTo_faultsHeld (by decide) _ h

theorem recordError_faultsHeld (kind : ErrorKind) (ph : Phase) (k : Fin 32) (d : ErrorDetail) (h : faultsHeld s) :
    faultsHeld (recordError kind ph k d s) := faultsHeld_of_faults (recordError_faults _ _ _ _ s) h

theorem forcedCloseRequest_faultsHeld (h : faultsHeld s) : faultsHeld (forcedCloseRequest s) :=
  faultsHeld_of_faults (forcedCloseRequest_faults s) h

theorem closeRequest_faultsHeld (g : FrameNo) (h : faultsHeld s) : faultsHeld (closeRequest g s) :=
  faultsHeld_of_faults (closeRequest_faults s g) h

theorem giveUp_faultsHeld (h : faultsHeld s) : faultsHeld (giveUp s) := by
  unfold giveUp
  split
  · exact reselect_faultsHeld (afterSourceChange_faultsHeld _ h)
  · exact h

theorem seqStop_faultsHeld (kind : ErrorKind) (d : ErrorDetail) (k : Fin 32) (h : faultsHeld s) :
    faultsHeld (seqStop kind d k s) := giveUp_faultsHeld (recordError_faultsHeld _ _ _ _ h)

theorem failEntry_faultsHeld (kind : ErrorKind) (d : ErrorDetail) (k : Fin 32) (h : faultsHeld s) :
    faultsHeld (failEntry kind d k s) := giveUp_faultsHeld (recordError_faultsHeld _ _ _ _ h)

theorem fetchFound_faultsHeld (p : Fin 32) (h : faultsHeld s) : faultsHeld (fetchFound p s) := by
  unfold fetchFound
  simp only
  split
  · exact seqStop_faultsHeld _ _ _ h
  · exact reselect_faultsHeld (afterSourceChange_faultsHeld _ h)

theorem fetchFrom_faultsHeld (n : Nat) : ∀ {s : State}, faultsHeld s → faultsHeld (fetchFrom n s) := by
  induction n with
  | zero => exact id
  | succ n ih =>
    intro s h
    have hpass : ∀ p q, faultsHeld (fetchPass p q (fetchFrom n) s) := fun p q => by
      unfold fetchPass
      simp only
      repeat' split
      · exact seqStop_faultsHeld _ _ _ h
      · exact h
      · exact ih h
    rw [fetchFrom_succ]
    split
    · exact hpass _ _
    · exact hpass _ _
    all_goals exact fetchFound_faultsHeld _ h

theorem complete_faultsHeld (h : faultsHeld s) : faultsHeld (complete s) := by
  unfold complete
  split
  · exact h
  · next k e _ =>
    have hended : faultsHeld (clearPending (giveUp { s with seq := { s.seq with state := .idle, pointer := k } })) :=
      giveUp_faultsHeld (s := { s with seq := { s.seq with state := .idle, pointer := k } }) h
    simp only
    repeat' split
    · exact hended
    · exact hended
    · exact hended
    · exact hended
    · exact fetchFrom_faultsHeld _ hended

theorem seqForcedClose_faultsHeld (kind : ErrorKind) (d : ErrorDetail) (h : faultsHeld s) :
    faultsHeld (seqForcedClose kind d s) := by
  unfold seqForcedClose
  repeat' split
  · exact h
  · exact failEntry_faultsHeld _ _ _ (forcedCloseRequest_faultsHeld h)
  · exact h

theorem seqForcedCloseAll_faultsHeld (kind : ErrorKind) (d : ErrorDetail) (h : faultsHeld s) :
    faultsHeld (seqForcedCloseAll kind d s) := by
  unfold seqForcedCloseAll
  split
  · exact h
  · split
    · refine failEntry_faultsHeld _ _ _ ?_
      split
      · exact h
      · exact forcedCloseRequest_faultsHeld h
    · exact h

theorem windowLoss_faultsHeld (t : Transport) (h : faultsHeld s) : faultsHeld (windowLoss t s) := by
  have hleft : faultsHeld (leftRecord s) := by
    unfold leftRecord
    repeat' split
    · exact complete_faultsHeld (forcedCloseRequest_faultsHeld h)
    · exact seqForcedClose_faultsHeld _ _ h
    · exact h
  unfold windowLoss
  repeat' split
  · exact hleft
  · exact seqForcedClose_faultsHeld _ _ h
  · exact seqForcedClose_faultsHeld _ _ h
  · exact seqForcedClose_faultsHeld _ _ h
  · exact h

theorem seqUnload_faultsHeld (h : faultsHeld s) : faultsHeld (seqUnload s) := by
  unfold seqUnload
  simp only
  repeat' split
  · exact h
  · exact seqForcedCloseAll_faultsHeld _ _ h
  · exact seqForcedCloseAll_faultsHeld _ _ h
  · exact seqStop_faultsHeld _ _ _ h
  · exact seqStop_faultsHeld _ _ _ h
  · exact h
  · exact recordError_faultsHeld _ _ _ _ h

theorem inArrival_faultsHeld (k : Fin 32) (e : EditEntry) (fp : Option Afa) (st : PosState) (n : Nat)
    (h : faultsHeld s) : faultsHeld (inArrival k e fp st n s) := by
  have hopen : faultsHeld (openEntry e fp st n s) := by
    obtain ⟨b, hb⟩ := openEntry_eq e fp st n s
    rw [hb]
    split
    · exact h
    · exact faultsHeld_of_faults (openRequest_faults s (spanOf e fp st s)) h
  unfold inArrival
  repeat' split
  · exact hopen
  · exact seqStop_faultsHeld _ _ _ h
  · exact hopen

theorem seqFramePosition_faultsHeld (fp : Option Afa) (st : PosState) (d : Bool) (h : faultsHeld s) :
    faultsHeld (seqFramePosition fp st d s) := by
  have hkept : faultsHeld (positionKept fp s) := h
  rw [seqFramePosition_eq]
  split
  · unfold armedPosition
    repeat' split
    all_goals first | exact h | exact inArrival_faultsHeld _ _ _ _ _ hkept | exact seqStop_faultsHeld _ _ _ hkept
  · unfold recordingPosition
    repeat' split
    all_goals exact h
  all_goals exact h

theorem seqRefused_faultsHeld (kind : ErrorKind) (d : ErrorDetail) (h : faultsHeld s) :
    faultsHeld (seqRefused kind d s) := by
  unfold seqRefused
  repeat' split
  · exact h
  · exact failEntry_faultsHeld _ _ _ h
  · exact h

theorem seqLaterStop_faultsHeld (kind : ErrorKind) (d : ErrorDetail) (h : faultsHeld s) :
    faultsHeld (seqLaterStop kind d s) := by
  unfold seqLaterStop
  repeat' split
  · exact h
  · exact recordError_faultsHeld _ _ _ _ (s := cutRequest s) h
  · exact h

theorem fadeOutReport_faultsHeld (g : FrameNo) (h : faultsHeld s) : faultsHeld (fadeOutReport g s) := by
  unfold fadeOutReport
  repeat' split
  · exact complete_faultsHeld h
  · exact closeRequest_faultsHeld _ h
  · exact h

theorem markRunReport_faultsHeld (g : FrameNo) (h : faultsHeld s) : faultsHeld (markRunReport g s) := by
  unfold markRunReport
  repeat' split
  · exact closeRequest_faultsHeld g h
  · exact h
  · exact h

theorem gateClosedReport_faultsHeld (h : faultsHeld s) : faultsHeld (gateClosedReport s) := by
  unfold gateClosedReport
  split
  · exact complete_faultsHeld h
  · exact h

theorem noneReport_faultsHeld (h : faultsHeld s) : faultsHeld (noneReport s) := by
  unfold noneReport
  simp only
  repeat' split
  · exact h
  · exact recordError_faultsHeld _ _ _ _ (s := silenceRequest s) h
  · next e _ _ _ _ => exact recordError_faultsHeld _ _ _ _ (s := fadeOutNowRequest e (silenceRequest s)) h
  · exact seqForcedClose_faultsHeld _ _ h
  · exact h
  · exact h

theorem applyAction_faultsHeld (k : FaultKind) (h : faultsHeld s) : faultsHeld (applyAction k s) := by
  unfold applyAction
  repeat' split
  all_goals first | exact h | exact seqForcedClose_faultsHeld _ _ h | exact seqStop_faultsHeld _ _ _ h

theorem evaluate_faultsHeld {k : FaultKind} (hk : k ≠ .clog) (c : Option FaultDetail) (h : faultsHeld s) :
    faultsHeld (evaluate k c s) := by
  have hcondition := conditionTo_faultsHeld hk c h
  unfold evaluate
  simp only
  split
  · exact applyAction_faultsHeld k hcondition
  · exact hcondition

theorem deliverInput_faultsHeld (s0 : State) (h : faultsHeld s) : faultsHeld (deliverInput s0 s) := by
  unfold deliverInput
  split
  · exact applyAction_faultsHeld .input h
  · exact h

theorem abortWalk_faultsHeld (h : faultsHeld s) : faultsHeld (abortWalk s) := by
  have hgiveUp : ∀ {u : State}, u.faults = s.faults → faultsHeld (giveUp u) := fun hu =>
    giveUp_faultsHeld (faultsHeld_of_faults hu h)
  unfold abortWalk
  simp only
  repeat' split
  · exact h
  · exact hgiveUp rfl
  · exact hgiveUp rfl
  · exact h
  · exact h
  · exact h
  · exact hgiveUp (forcedCloseRequest_faults s)
  · exact h

theorem continueHeld_faultsHeld (h : faultsHeld s) : faultsHeld (continueHeld s) := by
  unfold continueHeld
  repeat' split
  · exact seqStop_faultsHeld _ _ _ h
  · exact h
  · exact fetchFrom_faultsHeld _ h
  · exact fetchFrom_faultsHeld _ h

end

end Sys2Proof.Machine

namespace Sys2Proof.Machine
open Sys2Proof

-- One theorem at a time: the whole text is also compiled as one, where a thread for each theorem in flight asks for more
-- memory than the check allows.
set_option Elab.async false

/-! ## A head of CLOG at a tally (R165) -/

/-- What CLOG's mode allows a head to hold: the kind's record follows its heads (R159, R165). -/
def ClogHead.modeHeld (c : ClogHead) (m : FaultMode) : Prop :=
  (m = .off → c.present = false ∧ c.action = false) ∧ (m = .warn → c.action = false)

/-- A head after a tally with `n` usable blocks (R165). -/
def ClogHead.tallied (c : ClogHead) (m : FaultMode) (n : Nat) : ClogHead :=
  if m = .off then c
  else if c.present then if 28 ≤ n then ⟨0, false, c.action && m != .auto⟩ else c
  else if n ≠ 0 then { c with count := 0 }
  else if c.count < 3 then { c with count := c.count + 1 }
  else ⟨4, true, c.action || m == .latched || m == .auto⟩

/-- The head's condition arises at the tally. -/
def ClogHead.raisedBy (c : ClogHead) (m : FaultMode) (n : Nat) : Bool := !c.present && (c.tallied m n).present

theorem ClogHead.tallied_modeHeld {c : ClogHead} {m : FaultMode} (h : c.modeHeld m) (n : Nat) :
    (c.tallied m n).modeHeld m := by
  cases m
  case off => exact h
  case latched | auto => exact ⟨nofun, nofun⟩
  case warn =>
    have haction := h.2 rfl
    refine ⟨nofun, fun _ => ?_⟩
    unfold tallied
    simp only [haction]
    repeat' split
    all_goals first | exact haction | rfl

/-- What a head's part of a tally leaves of the fault monitor (R165): the head moves on, a raise counts one, sets the detail
and seen, and an AUTO action that goes raises FAULT_ENDED. -/
structure HeadTallied (p : ReadPath) (tr : Track) (n : Nat) (s t : State) : Prop extends KindFrame .clog s t where
  heads : t.faults.heads =
    s.faults.heads.set p tr ((s.faults.heads.get p tr).tallied s.faults.records.clog.mode n)
  mode : t.faults.records.clog.mode = s.faults.records.clog.mode
  quiet : (s.faults.heads.get p tr).raisedBy s.faults.records.clog.mode n = false →
    t.faults.records.clog.seen = s.faults.records.clog.seen ∧
      t.faults.records.clog.count = s.faults.records.clog.count ∧
      t.faults.records.clog.detail = s.faults.records.clog.detail
  raised : (s.faults.heads.get p tr).raisedBy s.faults.records.clog.mode n = true →
    t.faults.records.clog.seen = true ∧
      t.faults.records.clog.count = min 255 (s.faults.records.clog.count + 1) ∧
      t.faults.records.clog.detail = .clogHead p tr ∧
      ∀ q, EventSet.has (s.ports.get q).report .faultRaised = true →
        EventSet.has (t.ports.get q).events .faultRaised = true
  ended : (s.faults.heads.get p tr).action = true →
    ((s.faults.heads.get p tr).tallied s.faults.records.clog.mode n).action = false →
    ∀ q, EventSet.has (s.ports.get q).report .faultEnded = true →
      EventSet.has (t.ports.get q).events .faultEnded = true

section
variable {p : ReadPath} {tr : Track} {n : Nat} {s : State}

/-- A tally that leaves the head as it was. -/
theorem HeadTallied.unmoved
    (h : (s.faults.heads.get p tr).tallied s.faults.records.clog.mode n = s.faults.heads.get p tr) :
    HeadTallied p tr n s s where
  toKindFrame := .refl _ s
  heads := by rw [h, ClogHeads.set_get]
  mode := rfl
  quiet _ := ⟨rfl, rfl, rfl⟩
  raised hr := by simp [ClogHead.raisedBy, h] at hr
  ended ha hg := by rw [h, ha] at hg; cases hg

/-- A tally that replaces the head by one that is not raised by it and keeps its action. -/
theorem HeadTallied.moved {c : ClogHead} (h : (s.faults.heads.get p tr).tallied s.faults.records.clog.mode n = c)
    (hpresent : c.present = true → (s.faults.heads.get p tr).present = true)
    (haction : c.action = (s.faults.heads.get p tr).action) : HeadTallied p tr n s (setHead p tr c s) where
  toKindFrame := setHead_kindFrame p tr c s
  heads := by rw [h]; rfl
  mode := rfl
  quiet _ := ⟨rfl, rfl, rfl⟩
  raised hr := by
    unfold ClogHead.raisedBy at hr
    rw [h] at hr
    cases hc : c.present <;> simp_all
  ended ha hg := by rw [h, haction, ha] at hg; cases hg

/-- The head's condition goes (R165). -/
def goneHead (c : ClogHead) : ClogHead := { c with count := 0, present := false }

/-- The head's condition goes: in AUTO its action ends with it. -/
theorem headTallied_gone (hon : s.faults.records.clog.mode ≠ .off) (hpresent : (s.faults.heads.get p tr).present = true)
    (hn : 28 ≤ n) : HeadTallied p tr n s
      (if s.faults.records.clog.mode = .auto then
        endHeadAction p tr (setHead p tr (goneHead (s.faults.heads.get p tr)) s)
      else setHead p tr (goneHead (s.faults.heads.get p tr)) s) := by
  have htallied : (s.faults.heads.get p tr).tallied s.faults.records.clog.mode n =
      ⟨0, false, (s.faults.heads.get p tr).action && s.faults.records.clog.mode != .auto⟩ := by
    simp [ClogHead.tallied, hon, hpresent, hn]
  have hnot : (s.faults.heads.get p tr).raisedBy s.faults.records.clog.mode n = false := by
    simp [ClogHead.raisedBy, hpresent]
  split
  · next hauto =>
    have hop := endHeadAction_headOp
    have hset := setHead_kindFrame p tr (goneHead (s.faults.heads.get p tr)) s
    have hget : (setHead p tr (goneHead (s.faults.heads.get p tr)) s).faults.heads.get p tr =
        goneHead (s.faults.heads.get p tr) := ClogHeads.get_set _ _ _ _
    have hrecord := hop.record p tr (setHead p tr (goneHead (s.faults.heads.get p tr)) s)
    exact {
      toKindFrame := hset.trans (hop.frame p tr _)
      heads := by
        have hends : ((s.faults.heads.get p tr).action && FaultMode.auto != .auto) = false := Bool.and_false _
        rw [hop.heads, hget, setHead_heads, ClogHeads.set_set, htallied, hauto, hends]
        rfl
      mode := by rw [hrecord]; rfl
      quiet := fun _ => by rw [hrecord]; exact ⟨rfl, rfl, rfl⟩
      raised := fun hr => by rw [hnot] at hr; cases hr
      ended := fun ha _ q hq => endHeadAction_raises ⟨by rw [hget]; exact ha, hq⟩ }
  · next hauto =>
    refine .moved ?_ nofun rfl
    rw [htallied, show (s.faults.records.clog.mode != .auto) = true by simpa using hauto, Bool.and_true]
    rfl

/-- The head's condition arises (R159, R165). -/
theorem headTallied_raised (hon : s.faults.records.clog.mode ≠ .off) (hgone : (s.faults.heads.get p tr).present = false)
    (hcount : ¬ (s.faults.heads.get p tr).count < 3) : HeadTallied p tr 0 s (raiseHead p tr s) := by
  have htallied : (s.faults.heads.get p tr).tallied s.faults.records.clog.mode 0 =
      ⟨4, true, (s.faults.heads.get p tr).action || appliesAction s.faults.records.clog.mode⟩ := by
    simp [ClogHead.tallied, hon, hgone, hcount, appliesAction, Bool.or_assoc]
  have hraise : faultRaise .clog (.clogHead p tr) s = raiseEvent .faultRaised (setRecord .clog _ s) := if_neg hon
  unfold raiseHead
  simp only [hraise]
  exact {
    only := rfl
    ports := fun q => (raiseEvent_seqFrame .faultRaised s).ports q
    get := fun j hj => by cases j <;> first | rfl | exact absurd rfl hj
    synced := fun _ => setHead_synced _ _ _ _
    heads := by rw [htallied]; rfl
    mode := rfl
    quiet := fun hr => by simp [ClogHead.raisedBy, htallied, hgone] at hr
    raised := fun _ => ⟨rfl, rfl, rfl, fun q hq => raised_has (SeqFrame.refl s) .faultRaised q hq⟩
    ended := fun ha hg => by rw [htallied, ha] at hg; cases hg }

/-- A head's part of a tally (R165), by its condition, the usable blocks and its count. -/
theorem clogTallyHead_tallied (p : ReadPath) (tr : Track) (h : HeadTally) (s : State) :
    HeadTallied p tr (h.clean + h.fixed) s (clogTallyHead p tr h s) := by
  unfold clogTallyHead
  generalize h.clean + h.fixed = n
  by_cases hoff : s.faults.records.clog.mode = .off
  · rw [if_pos hoff]
    exact .unmoved (if_pos hoff)
  simp only [if_neg hoff]
  cases hpresent : (s.faults.heads.get p tr).present
  case true =>
    rw [if_pos rfl]
    split
    · next hn => exact headTallied_gone hoff hpresent hn
    · next hn => exact .unmoved (by simp [ClogHead.tallied, hoff, hpresent, hn])
  case false =>
    rw [if_neg Bool.false_ne_true]
    split
    · next hnone =>
      split
      · next hcount =>
        have hcount : (s.faults.heads.get p tr).count < 3 := by omega
        exact .moved (by simp [ClogHead.tallied, hoff, hpresent, hnone, hcount]) nofun rfl
      · next hcount =>
        rw [hnone]
        exact headTallied_raised hoff hpresent (by omega)
    · next hsome => exact .moved (by simp [ClogHead.tallied, hoff, hpresent, hsome]) nofun rfl

end

end Sys2Proof.Machine

namespace Sys2Proof.Machine
open Sys2Proof

-- One theorem at a time: the whole text is also compiled as one, where a thread for each theorem in flight asks for more
-- memory than the check allows.
set_option Elab.async false

/-! ## The promise of the fault records through CLOG's heads (R159, R165) -/

section
variable {s t : State} {f : ReadPath → Track → State → State} {g : ClogHead → ClogHead}

theorem faultsHeld.head (h : faultsHeld s) (p : ReadPath) (tr : Track) :
    (s.faults.heads.get p tr).modeHeld s.faults.records.clog.mode := by
  obtain ⟨hpresent, haction⟩ := h.clogSynced
  have hnone : ∀ f : ClogHead → Bool, s.faults.heads.list.any f = false → f (s.faults.heads.get p tr) = false :=
    fun f hf => by
      rw [Bool.eq_false_iff]
      intro htrue
      exact absurd ((ClogHeads.any_list_iff _ f).mpr ⟨p, tr, htrue⟩) (by rw [hf]; decide)
  obtain ⟨hoff, hwarn⟩ := h.1 .clog
  refine ⟨fun hm => ?_, fun hm => hnone _ (haction.symm.trans (hwarn hm))⟩
  obtain ⟨hp, ha, -⟩ := hoff hm
  exact ⟨hnone _ (hpresent.symm.trans hp), hnone _ (haction.symm.trans ha)⟩

/-- A change of the heads, and of the CLOG record as they follow: what is left is a matter of each head. -/
theorem faultsHeld_of_heads (hs : faultsHeld s) (hframe : KindFrame .clog s t)
    (hmode : t.faults.records.clog.mode = s.faults.records.clog.mode)
    (hseen : s.faults.records.clog.mode = .off → t.faults.records.clog.seen = s.faults.records.clog.seen)
    (hheads : ∀ p tr, (t.faults.heads.get p tr).modeHeld s.faults.records.clog.mode) : faultsHeld t := by
  have hsynced := hframe.synced hs.clogSynced
  obtain ⟨hpresent, haction⟩ := hsynced
  refine faultsHeld_of_get hs hframe.get ⟨hpresent, haction⟩ ⟨fun hoff => ?_, fun hwarn => ?_⟩ nofun
  · have hoff : s.faults.records.clog.mode = .off := hmode.symm.trans hoff
    refine ⟨hpresent.trans ?_, haction.trans ?_, (hseen hoff).trans ((hs.1 .clog).1 hoff).2.2⟩
    · exact ClogHeads.any_list_eq_false _ fun p tr => ((hheads p tr).1 hoff).1
    · exact ClogHeads.any_list_eq_false _ fun p tr => ((hheads p tr).1 hoff).2
  · exact haction.trans
      (ClogHeads.any_list_eq_false _ fun p tr => (hheads p tr).2 (hmode.symm.trans hwarn))

theorem ClogHeads.get_set_modeHeld {h : ClogHeads} {m : FaultMode} (hh : ∀ p tr, (h.get p tr).modeHeld m)
    (p : ReadPath) (tr : Track) {c : ClogHead} (hc : c.modeHeld m) (p' : ReadPath) (tr' : Track) :
    ((h.set p tr c).get p' tr').modeHeld m := by
  by_cases hsame : p' = p ∧ tr' = tr
  · obtain ⟨rfl, rfl⟩ := hsame
    rwa [ClogHeads.get_set]
  · rw [ClogHeads.get_set_other]
    · exact hh p' tr'
    · exact not_and_or.mp hsame

theorem HeadTallied.faultsHeld {p : ReadPath} {tr : Track} {n : Nat} (h : HeadTallied p tr n s t) (hs : faultsHeld s) :
    faultsHeld t := by
  refine faultsHeld_of_heads hs h.toKindFrame h.mode (fun hoff => (h.quiet ?_).1) fun p' tr' => ?_
  · have hgone : (s.faults.heads.get p tr).present = false := ((hs.head p tr).1 hoff).1
    simp [ClogHead.raisedBy, ClogHead.tallied, hoff, hgone]
  · rw [h.heads]
    exact ClogHeads.get_set_modeHeld hs.head p tr (ClogHead.tallied_modeHeld (hs.head p tr) n) p' tr'

/-- An operation on the heads one after another that puts nothing in force keeps the promise. -/
theorem HeadOp.eachHead_faultsHeld (hf : HeadOp f g) (hg : ∀ c m, ClogHead.modeHeld c m → (g c).modeHeld m)
    (h : faultsHeld s) : faultsHeld (eachHead f s) := by
  have hrecord := hf.eachHead_record h.clogSynced
  refine faultsHeld_of_heads h (hf.eachHead_frame s) (by rw [hrecord]) (fun _ => by rw [hrecord]) fun p tr => ?_
  rw [hf.eachHead_get]
  exact hg _ _ (h.head p tr)

theorem unloadHead_headOp : HeadOp unloadHead fun _ => ⟨0, false, false⟩ where
  heads p t s := unloadHead_heads p t s
  frame p t s := (clearHead_headOp.frame p t s).trans (endHeadAction_headOp.frame p t _)
  record p t s := (endHeadAction_headOp.record p t _).trans (by rw [clearHead_headOp.record]; rfl)

theorem endGoneHead_modeHeld (c : ClogHead) (m : FaultMode) (h : c.modeHeld m) :
    ({ c with action := c.action && c.present } : ClogHead).modeHeld m :=
  ⟨fun hoff => ⟨(h.1 hoff).1, by rw [(h.1 hoff).1, Bool.and_false]⟩, fun hwarn => by rw [h.2 hwarn, Bool.false_and]⟩

/-- A tape unload at the fault monitor keeps the promise (R170). -/
theorem faultUnload_faultsHeld (h : faultsHeld s) : faultsHeld (faultUnload s) := by
  have hconditions : faultsHeld (unloadConditions s) :=
    conditionTo_faultsHeld (by decide) _ (conditionTo_faultsHeld (by decide) _ (s := untagged s) h)
  have hheads := unloadHead_headOp.eachHead_faultsHeld (fun _ _ _ => ⟨fun _ => ⟨rfl, rfl⟩, fun _ => rfl⟩) hconditions
  rw [faultUnload_eq]
  unfold unloadScan
  split <;> exact hheads

end

/-! ## CLEAR FAULTS on one kind (R171) -/

/-- A kind's record after CLEAR FAULTS, its condition gone. -/
def FaultRecord.cleared (r : FaultRecord) : FaultRecord :=
  ⟨r.mode, r.present, if r.mode = .latched then false else r.action, false, 0, none, .absent⟩

theorem FaultRecord.cleared_modeHeld {r : FaultRecord} (h : r.modeHeld) : r.cleared.modeHeld := by
  obtain ⟨hoff, hwarn⟩ := h
  have haction : r.action = false → (if r.mode = .latched then false else r.action) = false := fun ha => by
    rw [ha, ite_self]
  refine ⟨fun hm => ?_, fun hm => haction (hwarn hm)⟩
  obtain ⟨hpresent, hnone, -⟩ := hoff hm
  exact ⟨hpresent, haction hnone, rfl⟩

/-- CLEAR FAULTS at a head: a LATCHED action whose condition is gone ends. -/
def ClogHead.cleared (c : ClogHead) (m : FaultMode) : ClogHead :=
  { c with action := if m = .latched ∧ c.present = false then false else c.action }

section
variable {k : FaultKind} {s : State}

theorem eachHead_clearClogHead (s : State) : eachHead clearClogHead s =
    if s.faults.records.clog.mode = .latched then eachHead endGoneHead s else s := by
  have hone : ∀ p t (u : State), clearClogHead p t u =
      if u.faults.records.clog.mode = .latched then endGoneHead p t u else u := fun p t u => by
    unfold clearClogHead endGoneHead
    cases (u.faults.heads.get p t).present <;> simp
  have hmode : ∀ p t (u : State), (endGoneHead p t u).faults.records.clog.mode = u.faults.records.clog.mode :=
    fun p t u => by rw [endGoneHead_headOp.record]
  unfold eachHead
  split
  · next hlatched => simp only [hone, hmode, hlatched, if_true]
  · next hother => simp only [hone, hother, if_false]

theorem eachHead_clearClogHead_frame (s : State) : KindFrame .clog s (eachHead clearClogHead s) := by
  rw [eachHead_clearClogHead]
  split
  · exact endGoneHead_headOp.eachHead_frame s
  · exact .refl _ s

theorem eachHead_clearClogHead_get (s : State) (p : ReadPath) (t : Track) :
    (eachHead clearClogHead s).faults.heads.get p t =
      (s.faults.heads.get p t).cleared s.faults.records.clog.mode := by
  rw [eachHead_clearClogHead]
  unfold ClogHead.cleared
  split
  · next hlatched =>
    rw [endGoneHead_headOp.eachHead_get]
    cases hpresent : (s.faults.heads.get p t).present <;> simp [hlatched]
  · next hother => simp [hother]

/-- The CLOG record after the heads' part of CLEAR FAULTS. -/
theorem eachHead_clearClogHead_record (hs : ClogSynced s) : (eachHead clearClogHead s).faults.records.clog =
    { s.faults.records.clog with action := (eachHead clearClogHead s).faults.heads.list.any (·.action) } := by
  obtain ⟨hpresent, haction⟩ := (eachHead_clearClogHead_frame s).synced hs
  rw [← haction, eachHead_clearClogHead]
  split
  · rw [endGoneHead_headOp.eachHead_record hs]
    dsimp only
    rw [← hs.1]
  · rfl

theorem eachHead_clearClogHead_faultsHeld (h : faultsHeld s) : faultsHeld (eachHead clearClogHead s) := by
  rw [eachHead_clearClogHead]
  split
  · exact endGoneHead_headOp.eachHead_faultsHeld endGoneHead_modeHeld h
  · exact h

end

end Sys2Proof.Machine

namespace Sys2Proof.Machine
open Sys2Proof

-- One theorem at a time: the whole text is also compiled as one, where a thread for each theorem in flight asks for more
-- memory than the check allows.
set_option Elab.async false

section
variable {j k : FaultKind} {s t u : State}

/-! ## CLEAR FAULTS, kind by kind (R171) -/

theorem clearLatched_of_ne (hk : k ≠ .clog) (s : State) : clearLatched k s =
    if (s.faults.records.get k).mode = .latched then endAction k s else s := by
  cases k
  case clog => exact absurd rfl hk
  all_goals rfl

theorem clearLatched_kindFrame (k : FaultKind) (s : State) : KindFrame k s (clearLatched k s) := by
  by_cases hk : k = .clog
  · subst hk
    exact eachHead_clearClogHead_frame s
  · rw [clearLatched_of_ne hk]
    split
    · exact endAction_kindFrame hk s
    · exact .refl k s

theorem clearKind_of_present (h : (s.faults.records.get k).present = true) : clearKind k s =
    if k = .clog then eachHead clearClogHead s else s := if_pos h

theorem clearKind_of_gone (h : (s.faults.records.get k).present = false) : clearKind k s =
    setRecord k { (clearLatched k s).faults.records.get k with
      seen := false, count := 0, firstAfa := none, detail := .absent } (clearLatched k s) :=
  if_neg (by rw [h]; decide)

theorem clearKind_kindFrame (k : FaultKind) (s : State) : KindFrame k s (clearKind k s) := by
  cases h : (s.faults.records.get k).present
  case false =>
    rw [clearKind_of_gone h]
    refine (clearLatched_kindFrame k s).trans (setRecord_kindFrame fun hk _ => ?_)
    subst hk
    exact ⟨rfl, rfl⟩
  case true =>
    rw [clearKind_of_present h]
    split
    · next hk =>
      subst hk
      exact eachHead_clearClogHead_frame s
    · exact .refl k s

theorem gone_of_clog (hs : ClogSynced s) (h : s.faults.records.clog.present = false) (p : ReadPath) (tr : Track) :
    (s.faults.heads.get p tr).present = false := by
  rw [Bool.eq_false_iff]
  intro hpresent
  have hany := (ClogHeads.any_list_iff s.faults.heads (·.present)).mpr ⟨p, tr, hpresent⟩
  rw [← hs.1, h] at hany
  cases hany

/-- The LATCHED action of a kind whose condition is gone ends; CLOG's, as each of its heads' does. -/
theorem clearLatched_get (hs : ClogSynced s) (h : (s.faults.records.get k).present = false) :
    (clearLatched k s).faults.records.get k = { s.faults.records.get k with
      action := if (s.faults.records.get k).mode = .latched then false else (s.faults.records.get k).action } := by
  by_cases hk : k = .clog
  · subst hk
    have haction : (eachHead clearClogHead s).faults.heads.list.any (·.action) =
        if s.faults.records.clog.mode = .latched then false else s.faults.records.clog.action := by
      split
      · next hlatched =>
        refine ClogHeads.any_list_eq_false _ fun p tr => ?_
        rw [eachHead_clearClogHead_get]
        exact if_pos ⟨hlatched, gone_of_clog hs h p tr⟩
      · next hother => rw [eachHead_clearClogHead, if_neg hother, hs.2]
    refine (eachHead_clearClogHead_record hs).trans ?_
    rw [haction]
    rfl
  · rw [clearLatched_of_ne hk]
    split
    · exact endAction_get k s
    · rfl

theorem clearKind_get_of_gone (hs : ClogSynced s) (h : (s.faults.records.get k).present = false) :
    (clearKind k s).faults.records.get k = (s.faults.records.get k).cleared := by
  rw [clearKind_of_gone h, setRecord_get, clearLatched_get hs h]
  rfl

theorem clearKind_faultsHeld (k : FaultKind) (hs : faultsHeld s) : faultsHeld (clearKind k s) := by
  cases h : (s.faults.records.get k).present
  case false =>
    have hget := clearKind_get_of_gone hs.clogSynced h
    have hframe := clearKind_kindFrame k s
    refine faultsHeld_of_get hs hframe.get (hframe.synced hs.clogSynced) ?_ fun hk => ?_
    · rw [hget]
      exact FaultRecord.cleared_modeHeld (hs.1 k)
    · subst hk
      rw [hget]
      exact hs.2.1
  case true =>
    rw [clearKind_of_present h]
    split
    · exact eachHead_clearClogHead_faultsHeld hs
    · exact hs

/-- With no head's condition present, the actions that LATCHED to AUTO would end are all of them. -/
theorem eachHead_endGoneHead_of_gone (h : ∀ p tr, (s.faults.heads.get p tr).present = false) :
    eachHead endGoneHead s = eachHead endHeadAction s := by
  have hone : ∀ p t {u : State}, (∀ p tr, (u.faults.heads.get p tr).present = false) →
      endGoneHead p t u = endHeadAction p t u := fun p t u hu => if_neg (by rw [hu]; decide)
  have hkept : ∀ p t {u : State}, (∀ p tr, (u.faults.heads.get p tr).present = false) →
      ∀ p' tr, ((endHeadAction p t u).faults.heads.get p' tr).present = false := fun p t u hu p' tr => by
    rw [endHeadAction_headOp.heads]
    by_cases hsame : p' = p ∧ tr = t
    · obtain ⟨rfl, rfl⟩ := hsame
      rw [ClogHeads.get_set]
      exact hu _ _
    · rw [ClogHeads.get_set_other _ (not_and_or.mp hsame)]
      exact hu _ _
  have h1 := hkept .pre .a h
  have h2 := hkept .pre .b h1
  have h3 := hkept .conf .a h2
  unfold eachHead
  rw [hone .pre .a h, hone .pre .b h1, hone .conf .a h2, hone .conf .b h3]

/-- A LATCHED action that CLEAR FAULTS ends raises FAULT_ENDED. -/
theorem clearKind_raises (hs : ClogSynced s) (h : (s.faults.records.get k).present = false)
    (hlatched : (s.faults.records.get k).mode = .latched) (haction : (s.faults.records.get k).action = true) (q : Port)
    (hq : EventSet.has (s.ports.get q).report .faultEnded = true) :
    EventSet.has ((clearKind k s).ports.get q).events .faultEnded = true := by
  have hended : EventSet.has ((clearLatched k s).ports.get q).events .faultEnded = true := by
    by_cases hk : k = .clog
    · subst hk
      obtain ⟨p, tr, ha⟩ := (ClogHeads.any_list_iff _ _).mp (hs.2.symm.trans haction)
      have hgone : eachHead clearClogHead s = eachHead endHeadAction s := by
        rw [eachHead_clearClogHead, if_pos (show s.faults.records.clog.mode = _ from hlatched),
          eachHead_endGoneHead_of_gone (gone_of_clog hs h)]
      show EventSet.has ((eachHead clearClogHead s).ports.get q).events _ = true
      rw [hgone]
      exact eachHead_endHeadAction_raises ⟨ha, hq⟩
    · rw [clearLatched_of_ne hk, if_pos hlatched]
      exact endAction_raises haction q hq
  rw [clearKind_of_gone h]
  exact hended

/-! ## CLEAR FAULTS as a whole (R171) -/

/-- Kind `k`'s record, and CLOG's heads where `k` is CLOG, stand as they were. -/
structure KindApart (k : FaultKind) (s t : State) : Prop where
  get : t.faults.records.get k = s.faults.records.get k
  heads : k = .clog → t.faults.heads = s.faults.heads
  ports : ∀ q, PortGrow (s.ports.get q) (t.ports.get q)
  held : faultsHeld s → faultsHeld t
  only : t = { s with
    ports := t.ports, faults := { s.faults with records := t.faults.records, heads := t.faults.heads } }

theorem KindApart.refl (k : FaultKind) (s : State) : KindApart k s s := ⟨rfl, fun _ => rfl, fun _ => .refl _, id, rfl⟩

theorem KindApart.trans (h : KindApart k s t) (g : KindApart k t u) : KindApart k s u where
  get := g.get.trans h.get
  heads hk := (g.heads hk).trans (h.heads hk)
  ports q := (h.ports q).trans (g.ports q)
  held hs := g.held (h.held hs)
  only := by
    have ht := h.only
    have hu := g.only
    rw [hu, ht]

theorem clearKind_heads_of_ne (hj : j ≠ .clog) (s : State) : (clearKind j s).faults.heads = s.faults.heads := by
  have hlatched : (clearLatched j s).faults.heads = s.faults.heads := by
    rw [clearLatched_of_ne hj]
    split
    · exact (endAction_seqFrame j s).heads
    · rfl
  cases h : (s.faults.records.get j).present
  case false =>
    rw [clearKind_of_gone h]
    exact hlatched
  case true => rw [clearKind_of_present h, if_neg hj]

theorem clearKind_apart (hj : j ≠ k) (s : State) : KindApart k s (clearKind j s) where
  get := (clearKind_kindFrame j s).get k hj.symm
  heads hk := clearKind_heads_of_ne (fun h => hj (h.trans hk.symm)) s
  ports := (clearKind_kindFrame j s).ports
  held := clearKind_faultsHeld j
  only := (clearKind_kindFrame j s).only

theorem foldl_clearKind_apart {l : List FaultKind} (hk : k ∉ l) :
    ∀ s, KindApart k s (l.foldl (fun s j => clearKind j s) s) := by
  induction l with
  | nil => exact fun s => .refl k s
  | cons j l ih =>
    obtain ⟨hj, hl⟩ := not_or.mp (List.mem_cons.not.mp hk)
    exact fun s => (clearKind_apart (Ne.symm hj) s).trans (ih hl _)

/-- Each kind is cleared once, and the rest of CLEAR FAULTS leaves its record alone. -/
theorem clearFaults_split (k : FaultKind) (s : State) :
    ∃ u, KindApart k s u ∧ KindApart k (clearKind k u) (clearFaults s) := by
  obtain ⟨l, r, hsplit⟩ := List.append_of_mem (show k ∈ faultKinds by cases k <;> decide)
  have hnodup : (l ++ k :: r).Nodup := hsplit ▸ (by decide : faultKinds.Nodup)
  obtain ⟨hr, -⟩ := List.nodup_cons.mp hnodup.of_append_right
  have hl : k ∉ l := fun h => (List.disjoint_of_nodup_append hnodup) h List.mem_cons_self
  refine ⟨_, foldl_clearKind_apart hl s, ?_⟩
  unfold clearFaults
  rw [hsplit, List.foldl_append, List.foldl_cons]
  exact foldl_clearKind_apart hr _

theorem clearFaults_faultsHeld (h : faultsHeld s) : faultsHeld (clearFaults s) := by
  obtain ⟨u, hbefore, hafter⟩ := clearFaults_split .servo s
  exact hafter.held (clearKind_faultsHeld _ (hbefore.held h))

end

end Sys2Proof.Machine

namespace Sys2Proof.Machine
open Sys2Proof

-- One theorem at a time: the whole text is also compiled as one, where a thread for each theorem in flight asks for more
-- memory than the check allows.
set_option Elab.async false

/-! ## The fault records through a frame tick: which of them each block may change -/

/-- Of the fault monitor's evaluations none but those of the kinds `K` differ: every other kind's record, and its heads,
window or tag, stand, events are added at most, and the promise of the records is kept. -/
structure MonitorHold (K : List FaultKind) (s t : State) : Prop where
  get : ∀ j, j ∉ K → t.faults.records.get j = s.faults.records.get j := by exact fun _ _ => rfl
  heads : .clog ∉ K → t.faults.heads = s.faults.heads := by exact fun _ => rfl
  window : .rate ∉ K → t.faults.window = s.faults.window := by exact fun _ => rfl
  tag : .position ∉ K → t.faults.positionTag = s.faults.positionTag := by exact fun _ => rfl
  high : t.faults.high = s.faults.high := by rfl
  low : t.faults.low = s.faults.low := by rfl
  ports : ∀ q, PortGrow (s.ports.get q) (t.ports.get q) := by exact fun _ => .refl _
  held : faultsHeld s → faultsHeld t := by exact id

section
variable {K L : List FaultKind} {k : FaultKind} {s t u : State}

theorem MonitorHold.refl (K : List FaultKind) (s : State) : MonitorHold K s s := {}

theorem MonitorHold.trans (h : MonitorHold K s t) (g : MonitorHold K t u) : MonitorHold K s u where
  get j hj := (g.get j hj).trans (h.get j hj)
  heads hk := (g.heads hk).trans (h.heads hk)
  window hk := (g.window hk).trans (h.window hk)
  tag hk := (g.tag hk).trans (h.tag hk)
  high := g.high.trans h.high
  low := g.low.trans h.low
  ports q := (h.ports q).trans (g.ports q)
  held hs := g.held (h.held hs)

theorem MonitorHold.mono (h : MonitorHold K s t) (hsub : K ⊆ L) : MonitorHold L s t :=
  { h with
    get := fun j hj => h.get j fun hk => hj (hsub hk)
    heads := fun hk => h.heads fun hc => hk (hsub hc)
    window := fun hk => h.window fun hc => hk (hsub hc)
    tag := fun hk => h.tag fun hc => hk (hsub hc) }

theorem MonitorHold.of_faults (heq : t.faults = s.faults)
    (hports : ∀ q, PortGrow (s.ports.get q) (t.ports.get q)) : MonitorHold K s t :=
  { get := fun _ _ => by rw [heq], heads := fun _ => by rw [heq], window := fun _ => by rw [heq]
    tag := fun _ => by rw [heq], high := by rw [heq], low := by rw [heq], ports := hports
    held := faultsHeld_of_faults heq }

/-- The sequencer's work, and an evaluation of one kind. -/
theorem SeqFrame.monitorHold (h : SeqFrame s t) (g : RecFrame k s t) (held : faultsHeld s → faultsHeld t) :
    MonitorHold [k, .input] s t where
  get j hj := by
    obtain ⟨hk, hrest⟩ := not_or.mp (List.mem_cons.not.mp hj)
    exact g.get j hk fun hi => hrest (List.mem_singleton.mpr hi)
  heads _ := h.heads
  window _ := h.window
  tag _ := h.positionTag
  high := h.high
  low := h.low
  ports := h.ports
  held := held

/-- The sequencer's work, which evaluates INPUT where it changes the selected source. -/
theorem SeqFrame.inputHold (h : SeqFrame s t) (g : RecFrame .input s t) (held : faultsHeld s → faultsHeld t) :
    MonitorHold [.input] s t := (h.monitorHold g held).mono (by decide)

theorem evaluate_hold (hk : k ≠ .clog) (c : Option FaultDetail) (s : State) : MonitorHold [k, .input] s (evaluate k c s) :=
  (evaluate_seqFrame k c s).monitorHold (evaluate_recFrame k c s) (evaluate_faultsHeld hk c)

theorem conditionTo_hold (hk : k ≠ .clog) (c : Option FaultDetail) (s : State) :
    MonitorHold [k, .input] s (conditionTo k c s) :=
  (conditionTo_seqFrame k c s).monitorHold (conditionTo_recFrame k c s) (conditionTo_faultsHeld hk c)

theorem reselect_hold (s : State) : MonitorHold K s (reselect s) := .of_faults (reselect_faults s) (reselect_seqFrame s).ports

theorem raiseEvent_hold (e : Event) (s : State) : MonitorHold K s (raiseEvent e s) :=
  .of_faults rfl (raiseEvent_seqFrame e s).ports

/-! ### The steps due and the end of the period -/

theorem timeoutEntry_hold (w : WrittenFrame) (s : State) : MonitorHold [.confirm, .input] s (timeoutEntry w s) := by
  have hremoved : ∀ l, MonitorHold [.confirm, .input] s { s with formatter := { s.formatter with written := l } } :=
    fun _ => {}
  unfold timeoutEntry
  simp only
  repeat' split
  · exact hremoved _
  · exact (hremoved _).trans (evaluate_hold (by decide) _ _)
  · exact {}

theorem writtenTimeout_hold (s : State) : MonitorHold [.confirm, .input] s (writtenTimeout s) := by
  unfold writtenTimeout
  generalize s.formatter.written.filter (overdue s) = l
  induction l generalizing s with
  | nil => exact .refl _ s
  | cons w l ih => exact (timeoutEntry_hold w s).trans (ih _)

theorem runEnd_hold (s : State) : MonitorHold [.input] s (runEnd s) := by
  have hended : MonitorHold [.input] s (runEnded s) := {}
  unfold runEnd
  split
  · exact hended.trans ((markRunReport_seqFrame _ _).inputHold (markRunReport_recFrame _ _) (markRunReport_faultsHeld _))
  · exact .refl _ s

theorem fadeOutEnd_hold (s : State) : MonitorHold [.input] s (fadeOutEnd s) := by
  have hblend : ∀ b, MonitorHold [.input] s { s with blend := b } := fun _ => {}
  unfold fadeOutEnd
  split
  · exact (hblend _).trans
      ((fadeOutReport_seqFrame _ _).inputHold (fadeOutReport_recFrame _ _) (fadeOutReport_faultsHeld _))
  · exact .refl _ s

theorem closeGate_hold (s : State) : MonitorHold [.input] s (closeGate s) := by
  have hshut : MonitorHold [.input] s (shutGate s) := {}
  exact hshut.trans <| (raiseEvent_hold _ _).trans <| (reselect_hold _).trans
    ((gateClosedReport_seqFrame _).inputHold (gateClosedReport_recFrame _) gateClosedReport_faultsHeld)

theorem normalClose_hold (s : State) : MonitorHold [.input] s (normalClose s) := by
  unfold normalClose
  split
  · exact closeGate_hold s
  · exact .refl _ s

theorem forcedClose_hold (s : State) : MonitorHold [.input] s (forcedClose s) := by
  unfold forcedClose
  split
  · exact closeGate_hold s
  · exact .refl _ s

theorem seqRefused_hold (kind : ErrorKind) (d : ErrorDetail) (s : State) :
    MonitorHold [.input] s (seqRefused kind d s) :=
  (seqRefused_seqFrame kind d s).inputHold (seqRefused_recFrame s kind d) (seqRefused_faultsHeld kind d)

theorem gateTest_hold (s : State) : MonitorHold [.input] s (gateTest s) := by
  have hformatter : ∀ m, MonitorHold [.input] s { s with formatter := m } := fun _ => {}
  unfold gateTest openGate refuseOpen
  repeat' split
  · exact .refl _ s
  · exact (hformatter _).trans ((raiseEvent_hold _ _).trans (reselect_hold _))
  · exact (hformatter _).trans (seqRefused_hold _ _ _)
  · exact .refl _ s

theorem settleDue_hold (s : State) : MonitorHold [.confirm, .input] s (settleDue s) := by
  have hdropped : MonitorHold [.confirm, .input] s (dropUnchecked s) := {}
  have hinput : ∀ {u v : State}, MonitorHold [.input] u v → MonitorHold [.confirm, .input] u v :=
    fun h => h.mono (by decide)
  unfold settleDue
  exact hdropped.trans <| (writtenTimeout_hold _).trans <|
    (MonitorHold.of_faults (expireCandidate_faults _) (expireCandidate_workFrame _).ports).trans <|
    (hinput (runEnd_hold _)).trans <|
    (MonitorHold.of_faults (buildComplete_faults _) (buildComplete_workFrame _).ports).trans <|
    (MonitorHold.of_faults (settleFades_faults _) (settleFades_workFrame _).ports).trans <|
    (hinput (fadeOutEnd_hold _)).trans <| (hinput (normalClose_hold _)).trans <| (hinput (forcedClose_hold _)).trans <|
    (hinput (gateTest_hold _)).trans <|
    (MonitorHold.of_faults (txRecord_faults _) (txRecord_workFrame _).ports).trans <|
    (MonitorHold.of_faults (endSwitch_faults _) (endSwitch_workFrame _).ports).trans
      (.of_faults (settleRepair_faults _) (settleRepair_workFrame _).ports)

theorem trackASent_hold (s : State) : MonitorHold K s (trackASent s) := by
  have hcounted : ∀ f, MonitorHold K s (trackACounted f s) := fun _ => {}
  unfold trackASent
  split
  · exact (hcounted _).trans (.of_faults (handWritten_faults _ _ _) (handWritten_workFrame _ _ _).ports)
  · exact .refl _ s

theorem writeComplete_hold (s : State) : MonitorHold K s (writeComplete s) := by
  unfold writeComplete
  split
  · exact {}
  · exact .refl _ s

theorem finishSending_hold (s : State) : MonitorHold [.input] s (finishSending s) :=
  (trackASent_hold s).trans <| (forcedClose_hold _).trans <| (writeComplete_hold _).trans (forcedClose_hold _)

/-! ### A change at the transport interface, and the front of a tick -/

theorem verifyRange_hold (x : Transport) (s : State) : MonitorHold K s (verifyRange x s) := by
  unfold verifyRange
  simp only
  split
  · exact { ports := (raiseEvent_seqFrame .verifyDone s).ports }
  · exact .refl _ s

theorem afterTransport_hold (x : Transport) (s : State) : MonitorHold [.servo, .input] s (afterTransport x s) :=
  (verifyRange_hold x s).trans <|
    (((windowLoss_seqFrame x _).inputHold (windowLoss_recFrame x _) (windowLoss_faultsHeld x)).mono
      (by decide)).trans (evaluate_hold (by decide) _ _)

theorem tickTransport_hold (dir : Direction) (us : Nat) (s : State) :
    MonitorHold [.servo, .input] s (tickTransport dir us s) := by
  have hmoved : ∀ x, MonitorHold [.servo, .input] s (s.withTransport x) := fun _ => {}
  exact (hmoved (s.transport.atTick dir us)).trans (afterTransport_hold s.transport _)

theorem atPreDecoder_hold (dir : Direction) (us : Nat) (s : State) :
    MonitorHold [.servo, .confirm, .input] s (atPreDecoder dir us s) := by
  have hrights : ∀ u, MonitorHold [.servo, .confirm, .input] u (tickRights u) := fun _ => {}
  have hbuild : ∀ u, MonitorHold [.servo, .confirm, .input] u (buildAtTick u) := fun u => by
    unfold buildAtTick
    split <;> exact {}
  exact ((settleDue_hold s).mono (by decide)).trans <| ((finishSending_hold _).mono (by decide)).trans <|
    ((tickTransport_hold dir us _).mono (by decide)).trans <| (hrights _).trans (hbuild _)

/-! ### The PRE result and its users -/

theorem decoderTick_hold (path : ReadPath) (r : TickResult) (s : State) : MonitorHold K s (decoderTick path r s) := by
  cases path <;> cases r <;> exact {}

theorem positionReport_hold (d : FaultDetail) (s : State) : MonitorHold [.position, .input] s (positionReport d s) := by
  have htag : ∀ tag, MonitorHold [.position, .input] s { s with faults := { s.faults with positionTag := tag } } :=
    fun _ => { tag := fun h => absurd List.mem_cons_self h }
  unfold positionReport
  split
  · exact .refl _ s
  · exact (htag _).trans (evaluate_hold (by decide) _ _)

theorem reportJump_hold (s : State) : MonitorHold [.position, .input] s (reportJump s) := by
  have hcounted : MonitorHold [.position, .input] s (jumpCounted s) :=
    { ports := (raiseEvent_seqFrame .positionJump s).ports }
  rw [reportJump_eq]
  exact hcounted.trans <| (positionReport_hold _ _).trans <|
    ((seqForcedCloseAll_seqFrame _ _ _).inputHold (seqForcedCloseAll_recFrame _ _ _)
      (seqForcedCloseAll_faultsHeld _ _)).mono (by decide)

theorem arrivalMoved_hold (r : TickResult) (s : State) : MonitorHold [.position, .input] s (arrivalMoved r s) := by
  have hmoved : ∀ p, MonitorHold [.position, .input] s (s.withPosition p) := fun _ => {}
  unfold arrivalMoved
  simp only
  refine (hmoved (s.tapeMap.pos.handle r.packs.position).1).trans ?_
  split
  · exact reportJump_hold _
  · exact .refl _ _

theorem beforeRightsPack_hold (r : TickResult) (s : State) :
    MonitorHold [.position, .input] s (beforeRightsPack r s) := by
  have hkept : ∀ (u : State) fp st, MonitorHold [.position, .input] u (keepOldFrame r fp st u) := fun _ _ _ => {}
  rw [beforeRightsPack_eq]
  refine (arrivalMoved_hold r s).trans (MonitorHold.trans (.of_faults ?_ ?_) (hkept _ _ _))
  · rw [tapeMapRest_only]
  · exact (tapeMapRest_tickRights .pre _ _ _ _).ports

theorem takeRightsPack_hold (k : Option RightsPack) (s : State) : MonitorHold K s (takeRightsPack k s) := by
  refine .of_faults ?_ (takeRightsPack_core .pre k s).ports
  rw [takeRightsPack_only]

theorem rateTally_hold (k : Tally) (s : State) : MonitorHold [.rate, .input] s (rateTally k s) := by
  have hwindow : ∀ w, MonitorHold [.rate, .input] s { s with faults := { s.faults with window := w } } :=
    fun _ => { window := fun h => absurd List.mem_cons_self h }
  unfold rateTally
  simp only
  split
  · exact .refl _ s
  · exact (hwindow _).trans (evaluate_hold (by decide) _ _)

theorem clogTallyHead_hold (path : ReadPath) (tr : Track) (h : HeadTally) (s : State) :
    MonitorHold [.clog] s (clogTallyHead path tr h s) := by
  have htallied := clogTallyHead_tallied path tr h s
  have honly := htallied.only
  refine {
    get := fun j hj => htallied.get j fun hk => hj (List.mem_singleton.mpr hk)
    heads := fun hk => absurd List.mem_cons_self hk
    window := fun _ => by rw [honly]
    tag := fun _ => by rw [honly]
    high := by rw [honly]
    low := by rw [honly]
    ports := htallied.ports
    held := htallied.faultsHeld }

theorem clogTally_hold (path : ReadPath) (k : Tally) (s : State) : MonitorHold [.clog] s (clogTally path k s) :=
  (clogTallyHead_hold _ _ _ s).trans (clogTallyHead_hold _ _ _ _)

theorem preTally_hold (r : TickResult) (s : State) : MonitorHold [.uncorr, .rate, .clog, .input] s (preTally r s) := by
  unfold preTally
  split
  · exact ((evaluate_hold (k := .uncorr) (by decide) _ s).mono (by decide)).trans <|
      ((rateTally_hold _ _).mono (by decide)).trans ((clogTally_hold _ _ _).mono (by decide))
  · exact .refl _ s
  · exact .refl _ s

theorem seqFramePosition_hold (fp : Option Afa) (st : PosState) (d : Bool) (s : State) :
    MonitorHold [.input] s (seqFramePosition fp st d s) := by
  have hkept : MonitorHold [.input] s (positionKept fp s) := {}
  have hget : RecFrame .input s (seqFramePosition fp st d s) := by
    rw [seqFramePosition_eq]
    split
    · exact (armedPosition_recFrame _ _ _ _).start rfl
    · exact (recordingPosition_recFrame _ _).start rfl
    all_goals exact (RecFrame.refl _ s).stop rfl
  have hframe : SeqFrame (positionKept fp s) (seqFramePosition fp st d s) := by
    rw [seqFramePosition_eq]
    split
    · exact armedPosition_seqFrame _ _ _ _
    · exact recordingPosition_seqFrame _ _
    all_goals exact .refl _
  exact hkept.trans (hframe.inputHold (hget.start rfl) (seqFramePosition_faultsHeld fp st d))

theorem verifyStep_hold (path : ReadPath) (scan : Option Afa) (j : Bool) (k : Tally) (s : State) :
    MonitorHold K s (verifyStep path scan j k s) := by
  have hports := ((verifyStep_tickKeep path scan j k s).rights .pre).ports
  rw [verifyStep_only path scan j k s] at hports ⊢
  exact { ports := hports }

theorem verifyResult_hold (path : ReadPath) (r : TickResult) (scan : Option Afa) (j : Bool) (s : State) :
    MonitorHold K s (verifyResult path r scan j s) := by
  unfold verifyResult
  split
  · exact verifyStep_hold _ _ _ _ s
  · exact .refl _ s
  · exact .refl _ s

/-! ### The CONF result and its users -/

theorem confirmTally_hold (k : Tally) (s : State) : MonitorHold [.confirm, .input] s (confirmTally k s) := by
  have hnote : MonitorHold [.confirm, .input] s (noteConf s) := by
    unfold noteConf
    split <;> exact {}
  have hremoved : ∀ (u : State) l, MonitorHold [.confirm, .input] u
      { u with formatter := { u.formatter with written := l } } := fun _ _ => {}
  unfold confirmTally
  simp only
  refine hnote.trans ?_
  repeat' split
  · exact .refl _ _
  · exact hremoved _ _
  · exact (hremoved _ _).trans (conditionTo_hold (by decide) _ _)
  · exact (hremoved _ _).trans (evaluate_hold (by decide) _ _)

theorem confTick_hold (s : State) : MonitorHold [.confirm, .clog, .input] s (confTick s) := by
  rw [confTick_eq]
  refine (decoderTick_hold .conf (decoderResult .conf s) s).trans ?_
  unfold confUsers
  split
  · exact ((confirmTally_hold _ _).mono (by decide)).trans <| ((clogTally_hold _ _ _).mono (by decide)).trans
      (verifyStep_hold _ _ _ _ _)
  · exact .refl _ _
  · exact .refl _ _

/-! ### The end of a tick -/

theorem tapeMapTick_hold (s : State) : MonitorHold [.position, .input] s (tapeMapTick s) := by
  have hmoved : ∀ m, MonitorHold [.position, .input] s { s with tapeMap := m } := fun _ => {}
  unfold tapeMapTick
  simp only
  refine (hmoved { s.tapeMap with
    periodValue := s.tapeMap.pos.afa, pos := (s.tapeMap.pos.tick s.transport.dir).1 }).trans ?_
  split
  · exact positionReport_hold _ _
  · exact .refl _ _

theorem positionTick_hold (s : State) : MonitorHold [.position, .input] s (positionTick s) := by
  have htag : ∀ tag, MonitorHold [.position, .input] s { s with faults := { s.faults with positionTag := tag } } :=
    fun _ => { tag := fun h => absurd List.mem_cons_self h }
  unfold positionTick
  repeat' split
  · exact (htag _).trans (conditionTo_hold (by decide) _ _)
  · exact .refl _ s
  · exact .refl _ s

theorem buildStart_hold (s : State) : MonitorHold [.input] s (buildStart s) := by
  have hstop : ∀ sp kind d, MonitorHold [.input] s (buildStop sp kind d s) := fun sp kind d => by
    have hcancelled : MonitorHold [.input] s (openCancelled s) := {}
    unfold buildStop
    split
    · exact hcancelled.trans (seqRefused_hold _ _ _)
    · exact (MonitorHold.of_faults (closeRequest_faults _ _) (closeRequest_seqFrame _ _).ports).trans
        ((seqLaterStop_seqFrame _ _ _).inputHold (seqLaterStop_recFrame _ _ _) (seqLaterStop_faultsHeld _ _))
  unfold buildStart
  simp only
  repeat' split
  · exact .refl _ s
  · exact hstop _ _ _
  · exact hstop _ _ _
  · exact {}

theorem startSending_hold (s : State) : MonitorHold K s (startSending s) := by
  rw [startSending_only]
  exact {}

/-- From the sample clock's part on, no record but INPUT's differs. -/
theorem afterMonitor_hold (s : State) :
    MonitorHold [.input] s (startSending (buildStart (tickClock s))) := by
  have hclock : MonitorHold [.input] s (tickClock s) := {}
  exact hclock.trans <| (buildStart_hold _).trans (startSending_hold _)

theorem tickEnd_hold (s : State) : MonitorHold [.position, .input] s (tickEnd s) := by
  have hblend : ∀ u, MonitorHold [.position, .input] u (tickBlend u) := fun _ => {}
  exact (tapeMapTick_hold s).trans <| (hblend _).trans <| (positionTick_hold _).trans
    ((afterMonitor_hold _).mono (by decide))

end

end Sys2Proof.Machine

namespace Sys2Proof.Machine
open Sys2Proof

-- One theorem at a time: the whole text is also compiled as one, where a thread for each theorem in flight asks for more
-- memory than the check allows.
set_option Elab.async false

section
variable {s : State}

/-! ## The promise of the fault records through the commands -/

theorem afterRightsPack_faultsHeld (r : TickResult) (s0 : State) (h : faultsHeld s) :
    faultsHeld (afterRightsPack r s0 s) :=
  (verifyResult_hold (K := []) _ _ _ _ _).held ((seqFramePosition_hold _ _ _ _).held ((preTally_hold r s).held h))

theorem preTick_faultsHeld (h : faultsHeld s) : faultsHeld (preTick s) := by
  have hdecoder := (decoderTick_hold (K := []) .pre (decoderResult .pre s) s).held h
  by_cases hloaded : s.transport.mode = .unloaded
  · unfold preTick
    simp only [decoderTick_transport, if_pos hloaded]
    exact hdecoder
  · rw [preTick_of_loaded hloaded, tapeMapArrival_eq]
    exact afterRightsPack_faultsHeld _ _ ((takeRightsPack_hold (K := []) _ _).held ((beforeRightsPack_hold _ _).held hdecoder))

theorem frameTick_faultsHeld (dir : Direction) (us : Nat) (h : faultsHeld s) : faultsHeld (frameTick dir us s) := by
  rw [frameTick_eq_tickEnd]
  exact (tickEnd_hold _).held ((confTick_hold _).held (preTick_faultsHeld ((atPreDecoder_hold dir us s).held h)))

theorem modeChange_faultsHeld (m : Mode) (lock prot : Bool) (h : faultsHeld s) : faultsHeld (modeChange m lock prot s) := by
  have htaken : faultsHeld (takeMode m lock prot s) := by
    unfold takeMode
    simp only
    split <;> exact h
  rw [modeChange_eq]
  refine (afterTransport_hold _ _).held ?_
  split
  · have hmap := faultsHeld_of_faults (tapeMapUnload_faults (takeMode m lock prot s)) htaken
    have hseq := seqUnload_faultsHeld hmap
    exact faultUnload_faultsHeld (faultsHeld_of_faults (rightsUnload_faults _) (s := decodersUnload _) hseq)
  · exact htaken

theorem fifoArrival_faultsHeld (p : Pair) (h : faultsHeld s) : faultsHeld (fifoArrival p s) := by
  unfold fifoArrival
  simp only
  split <;> exact h

theorem pairPeriod_faultsHeld (h : faultsHeld s) : faultsHeld (pairPeriod s) := by
  have hsettled := (settleDue_hold s).held h
  unfold pairPeriod
  generalize settleDue s = u at hsettled
  simp only
  split
  · exact hsettled
  · rw [pairWork_only]
    exact hsettled

theorem setDigital_faultsHeld (st : SourceState) (h : faultsHeld s) : faultsHeld (setDigital st s) := by
  have hraised : faultsHeld (refreshWord (countPeriodRights
      (raiseEvent .rightsChanged { s with rights := { s.rights with digital := st } }))) := h
  unfold setDigital
  simp only
  repeat' split
  · exact h
  · exact noneReport_faultsHeld hraised
  · exact h
  · exact h

theorem afterUsability_faultsHeld (s0 : State) (h : faultsHeld s) : faultsHeld (afterUsability s0 s) := by
  unfold afterUsability
  split
  · exact h
  · refine evaluate_faultsHeld (by decide) _ ?_
    split <;> exact h

theorem statusRecord_faultsHeld (r : StatusRecord) (h : faultsHeld s) : faultsHeld (statusRecord r s) := by
  have hjoined : faultsHeld (rightsRecord r s) := by
    unfold rightsRecord
    simp only
    split
    · exact setDigital_faultsHeld _ h
    · exact h
  unfold statusRecord
  split
  · exact afterUsability_faultsHeld _ (s := { rightsRecord r s with formatter := _ }) hjoined
  · exact h

theorem lossOfLock_faultsHeld (h : faultsHeld s) : faultsHeld (lossOfLock s) :=
  afterUsability_faultsHeld s (setDigital_faultsHeld .rightsUnstated (s := unlocked s) h)

theorem afterSettings_faultsHeld (s0 : State) (h : faultsHeld s) : faultsHeld (afterSettings s0 s) := by
  have husable : ∀ {u : State}, faultsHeld u → faultsHeld (usabilityStep s0 u) := fun {u} hu => by
    unfold usabilityStep
    split
    · exact hu
    · refine conditionTo_faultsHeld (by decide) _ ?_
      split <;> exact hu
  have hanalog : ∀ {u : State}, faultsHeld u → faultsHeld (analogStep s0 u) := fun {u} hu => by
    unfold analogStep
    simp only
    repeat' split
    all_goals exact hu
  rw [afterSettings_eq]
  exact deliverInput_faultsHeld _ (hanalog (husable (afterSourceChange_faultsHeld s0 h)))

theorem writeDisable_faultsHeld (h : faultsHeld s) : faultsHeld (writeDisable s).1 := by
  unfold writeDisable
  simp only
  split
  · exact seqForcedClose_faultsHeld _ _ (forcedCloseRequest_faultsHeld (s := disabled s) h)
  · exact h

theorem faultModeRequest_faultsHeld (kind mode : Byte) (h : faultsHeld s) :
    faultsHeld (faultModeRequest kind mode s).1 := by
  unfold faultModeRequest
  repeat' split
  · exact h
  · next hnot => exact changeMode_faultsHeld h hnot
  · exact h

theorem verifyStart_faultsHeld (source : Byte) (start : Option (BitVec 20)) (stop : BitVec 20) (threshold : Byte)
    (loop : Bool) (h : faultsHeld s) : faultsHeld (verifyStart source start stop threshold loop s).1 := by
  unfold verifyStart
  simp only
  repeat' split
  all_goals exact h

/-- A request keeps the promise when its own effect does. -/
theorem request_faultsHeld {body : State → State × ResultCode × Payload} (p : Port) (op : Byte) (cls : RequestClass)
    (hbody : faultsHeld (body s).1) (h : faultsHeld s) : faultsHeld (request p op cls body s) := by
  unfold request
  repeat' split
  · exact h
  · next hb =>
    rw [hb] at hbody
    exact hbody
  · exact h

/-- A request whose own effect leaves the fault monitor's records and heads alone keeps the promise. -/
theorem request_faultsHeld_of_same {body : State → State × ResultCode × Payload} (p : Port) (op : Byte)
    (cls : RequestClass) (hbody : (body s).1.faults.records = s.faults.records ∧ (body s).1.faults.heads = s.faults.heads)
    (h : faultsHeld s) : faultsHeld (request p op cls body s) := by
  refine request_faultsHeld p op cls ?_ h
  unfold faultsHeld
  rw [hbody.1, hbody.2]
  exact h

theorem powerOnReset_faultsHeld (s : State) : faultsHeld (powerOnReset s) := by
  obtain ⟨-, -, -, -, hreset, -⟩ := resetSafe
  exact faultsHeld_of_faults rfl hreset

theorem mapRepairer_faultsHeld (path : ReadPath) (ch : Channel) (f : Repairer → Repairer) (h : faultsHeld s) :
    faultsHeld (mapRepairer path ch f s) := by cases path <;> exact h

theorem mapConcealer_faultsHeld (ch : Channel) (f : Concealer → Concealer) (h : faultsHeld s) :
    faultsHeld (mapConcealer ch f s) := by cases ch <;> exact h

/-- Every command keeps the fault records to their modes and CLOG's to its heads. -/
theorem exec_faultsHeld (i : Instr) (h : faultsHeld s) : ∃ t, exec i s = .next t ∧ faultsHeld t := by
  cases i with
  | powerOnReset => exact ⟨_, rfl, powerOnReset_faultsHeld s⟩
  | frameTick dir us => exact ⟨_, rfl, frameTick_faultsHeld dir us h⟩
  | stallTimeout =>
    exact ⟨_, rfl, (afterTransport_hold s.transport (s.withTransport s.transport.atStall)).held h⟩
  | modeReport p m l r =>
    refine ⟨_, rfl, request_faultsHeld _ _ _ ?_ h⟩
    unfold modeReport
    split
    · exact modeChange_faultsHeld _ _ _ h
    · exact h
  | blockArrival blk =>
    refine ⟨_, rfl, ?_⟩
    unfold blockArrival State.withDecoder
    simp only
    split <;> exact h
  | jumpCandidateExpiry => exact ⟨_, rfl, faultsHeld_of_faults (expireCandidate_faults s) h⟩
  | pairPeriod => exact ⟨_, rfl, pairPeriod_faultsHeld h⟩
  | newPathHoldExpiry ch => exact ⟨_, rfl, mapConcealer_faultsHeld ch _ h⟩
  | newPathMuteEnd ch => exact ⟨_, rfl, mapConcealer_faultsHeld ch _ h⟩
  | newPathRecoveryEnd ch => exact ⟨_, rfl, mapConcealer_faultsHeld ch _ h⟩
  | holdExpiry path ch => exact ⟨_, rfl, mapRepairer_faultsHeld path ch _ h⟩
  | muteRampEnd path ch => exact ⟨_, rfl, mapRepairer_faultsHeld path ch _ h⟩
  | recoveryEnd path ch => exact ⟨_, rfl, mapRepairer_faultsHeld path ch _ h⟩
  | converterPairArrival l r =>
    refine ⟨_, rfl, ?_⟩
    split
    · exact fifoArrival_faultsHeld _ h
    · exact h
  | receiverPairArrival l r =>
    refine ⟨_, rfl, ?_⟩
    split
    · exact fifoArrival_faultsHeld _ h
    · exact h
  | statusRecord r => exact ⟨_, rfl, statusRecord_faultsHeld r h⟩
  | lossOfLock => exact ⟨_, rfl, lossOfLock_faultsHeld h⟩
  | lockRegained => exact ⟨_, rfl, afterUsability_faultsHeld s (s := relocked s) h⟩
  | txStatusRecord => exact ⟨_, rfl, faultsHeld_of_faults (txRecord_faults s) h⟩
  | markerRunEnd => exact ⟨_, rfl, (runEnd_hold s).held h⟩
  | frameBuildComplete => exact ⟨_, rfl, faultsHeld_of_faults (buildComplete_faults s) h⟩
  | gateOpenTest => exact ⟨_, rfl, (gateTest_hold s).held h⟩
  | normalCloseEffect => exact ⟨_, rfl, (normalClose_hold s).held h⟩
  | forcedCloseEffect => exact ⟨_, rfl, (forcedClose_hold s).held h⟩
  | trackASent => exact ⟨_, rfl, (trackASent_hold (K := []) s).held h⟩
  | frameWriteComplete => exact ⟨_, rfl, (writeComplete_hold (K := []) s).held h⟩
  | writtenListTimeout => exact ⟨_, rfl, (writtenTimeout_hold s).held h⟩
  | confirmDropUnchecked => exact ⟨_, rfl, h⟩
  | pendingFadeStart ch => exact ⟨_, rfl, h⟩
  | fadeInEnd ch => exact ⟨_, rfl, h⟩
  | fadeOutEnd => exact ⟨_, rfl, (fadeOutEnd_hold s).held h⟩
  | monitorSwitchEnd => exact ⟨_, rfl, faultsHeld_of_faults (endSwitch_faults s) h⟩
  | exchangeStart p =>
    refine ⟨_, rfl, ?_⟩
    unfold exchangeStart
    simp only
    split <;> exact h
  | frameError p =>
    refine ⟨_, rfl, ?_⟩
    unfold frameError
    split <;> exact h
  | unknownOpcode p op =>
    refine ⟨_, rfl, ?_⟩
    split <;> exact h
  | noop p => exact ⟨_, rfl, request_faultsHeld _ _ _ h h⟩
  | status p page =>
    refine ⟨_, rfl, request_faultsHeld_of_same _ _ _ ?_ h⟩
    unfold statusRequest
    simp only
    repeat' split
    all_goals exact ⟨rfl, rfl⟩
  | claim p which take =>
    refine ⟨_, rfl, request_faultsHeld_of_same _ _ _ ?_ h⟩
    unfold claimRequest
    repeat' split
    all_goals exact ⟨rfl, rfl⟩
  | release p which =>
    refine ⟨_, rfl, request_faultsHeld_of_same _ _ _ ?_ h⟩
    unfold releaseRequest
    repeat' split
    all_goals exact ⟨rfl, rfl⟩
  | reportSet p r a =>
    refine ⟨_, rfl, request_faultsHeld_of_same _ _ _ ?_ h⟩
    unfold reportSet
    simp only
    split <;> exact ⟨rfl, rfl⟩
  | readEvents p => exact ⟨_, rfl, request_faultsHeld _ _ _ h h⟩
  | ackEvents p mask =>
    refine ⟨_, rfl, request_faultsHeld_of_same _ _ _ ?_ h⟩
    unfold ackEvents
    split <;> exact ⟨rfl, rfl⟩
  | readPosition p page =>
    refine ⟨_, rfl, request_faultsHeld_of_same _ _ _ ?_ h⟩
    unfold readPosition
    repeat' split
    all_goals exact ⟨rfl, rfl⟩
  | readIndex p k =>
    refine ⟨_, rfl, request_faultsHeld_of_same _ _ _ ?_ h⟩
    unfold readIndex
    simp only
    split <;> exact ⟨rfl, rfl⟩
  | editRead p k part => exact ⟨_, rfl, request_faultsHeld _ _ _ h h⟩
  | readRights p => exact ⟨_, rfl, request_faultsHeld _ _ _ h h⟩
  | readFaults p kind =>
    refine ⟨_, rfl, request_faultsHeld_of_same _ _ _ ?_ h⟩
    unfold readFaults
    repeat' split
    all_goals exact ⟨rfl, rfl⟩
  | clearFaults p => exact ⟨_, rfl, request_faultsHeld _ _ _ (clearFaults_faultsHeld h) h⟩
  | readCounts p first snapshot =>
    refine ⟨_, rfl, request_faultsHeld_of_same _ _ _ ?_ h⟩
    unfold readCounts takeSnapshot
    simp only
    cases p <;> repeat' split
    all_goals exact ⟨rfl, rfl⟩
  | verifyStart p source start stop threshold loop =>
    exact ⟨_, rfl, request_faultsHeld _ _ _ (verifyStart_faultsHeld source start stop threshold loop h) h⟩
  | verifyStop p =>
    refine ⟨_, rfl, request_faultsHeld_of_same _ _ _ ?_ h⟩
    unfold verifyStop
    simp only
    split <;> exact ⟨rfl, rfl⟩
  | verifyRead p page =>
    refine ⟨_, rfl, request_faultsHeld_of_same _ _ _ ?_ h⟩
    unfold verifyRead
    simp only
    repeat' split
    all_goals exact ⟨rfl, rfl⟩
  | setMonitor p mode =>
    refine ⟨_, rfl, request_faultsHeld _ _ _ ?_ h⟩
    unfold setMonitor
    split
    · exact h
    · next m _ => exact reselect_faultsHeld (s := inMonitorMode m s) h
  | editWrite p k e =>
    refine ⟨_, rfl, request_faultsHeld_of_same _ _ _ ?_ h⟩
    unfold editWrite
    simp only
    repeat' split
    all_goals exact ⟨rfl, rfl⟩
  | editStart p first =>
    refine ⟨_, rfl, request_faultsHeld _ _ _ ?_ h⟩
    unfold editStart
    repeat' split
    · exact fetchFrom_faultsHeld _ h
    · exact h
    · exact h
  | hold p =>
    refine ⟨_, rfl, request_faultsHeld_of_same _ _ _ ?_ h⟩
    unfold holdWalk
    split <;> exact ⟨rfl, rfl⟩
  | continueWalk p =>
    refine ⟨_, rfl, request_faultsHeld _ _ _ ?_ h⟩
    unfold continueWalk
    split
    · exact continueHeld_faultsHeld h
    · exact h
  | abort p => exact ⟨_, rfl, request_faultsHeld _ _ _ (abortWalk_faultsHeld h) h⟩
  | writeEnable p => exact ⟨_, rfl, request_faultsHeld _ _ _ h h⟩
  | writeDisable p => exact ⟨_, rfl, request_faultsHeld _ _ _ (writeDisable_faultsHeld h) h⟩
  | setRecord p rate source analog =>
    refine ⟨_, rfl, request_faultsHeld _ _ _ ?_ h⟩
    unfold setRecordSettings
    repeat' split
    · exact h
    · next r d a _ _ _ _ => exact afterSettings_faultsHeld s (s := withSettings r d a s) h
    · exact h
  | setRepair p _ _ _ _ => exact ⟨_, rfl, request_faultsHeld _ _ _ h h⟩
  | faultMode p kind mode => exact ⟨_, rfl, request_faultsHeld _ _ _ (faultModeRequest_faultsHeld kind mode h) h⟩
  | setThresholds p high low => exact ⟨_, rfl, request_faultsHeld _ _ _ h h⟩
  | clearIndex p =>
    refine ⟨_, rfl, request_faultsHeld_of_same _ _ _ ?_ h⟩
    unfold clearIndex emptyIndex
    simp only
    split <;> exact ⟨rfl, rfl⟩

end

/-- Settles O59: the command a step takes keeps the promise (`exec_faultsHeld`), and an idle step changes nothing. -/
theorem faultsKept : Obligations.FaultsKept := by
  unfold Obligations.FaultsKept
  intro s t hs hstep
  unfold step at hstep
  split at hstep
  · cases hstep
    exact hs
  · next c rest _ =>
    have hqueue : faultsHeld { s with pending := rest } := hs
    obtain ⟨u, hu, hheld⟩ := exec_faultsHeld c hqueue
    cases hu.symm.trans hstep
    exact hheld

end Sys2Proof.Machine

namespace Sys2Proof.Machine
open Sys2Proof

-- One theorem at a time: the whole text is also compiled as one, where a thread for each theorem in flight asks for more
-- memory than the check allows.
set_option Elab.async false

/-! ## CLEAR FAULTS: its answer (R171) -/

section
variable {k : FaultKind} {s t : State}

theorem KindApart.clog (h : KindApart .clog s t) : t.faults.records.clog = s.faults.records.clog := h.get

theorem clearFaults_get_of_gone (hs : faultsHeld s) (h : (s.faults.records.get k).present = false) :
    (clearFaults s).faults.records.get k = (s.faults.records.get k).cleared := by
  obtain ⟨u, hbefore, hafter⟩ := clearFaults_split k s
  rw [hafter.get, clearKind_get_of_gone (hbefore.held hs).clogSynced (by rw [hbefore.get, h]), hbefore.get]

/-- A LATCHED action that ends raises FAULT_ENDED. -/
theorem clearFaults_raises (hs : faultsHeld s) (h : (s.faults.records.get k).present = false)
    (hlatched : (s.faults.records.get k).mode = .latched) (haction : (s.faults.records.get k).action = true) (q : Port)
    (hq : EventSet.has (s.ports.get q).report .faultEnded = true) :
    EventSet.has ((clearFaults s).ports.get q).events .faultEnded = true := by
  obtain ⟨u, hbefore, hafter⟩ := clearFaults_split k s
  refine (hafter.ports q).grows _ (clearKind_raises (hbefore.held hs).clogSynced ?_ ?_ ?_ q ?_)
  · rw [hbefore.get, h]
  · rw [hbefore.get, hlatched]
  · rw [hbefore.get, haction]
  · rw [(hbefore.ports q).rest]
    exact hq

theorem clearFaults_get_of_present (hk : k ≠ .clog) (h : (s.faults.records.get k).present = true) :
    (clearFaults s).faults.records.get k = s.faults.records.get k := by
  obtain ⟨u, hbefore, hafter⟩ := clearFaults_split k s
  rw [hafter.get, clearKind_of_present (by rw [hbefore.get, h]), if_neg hk, hbefore.get]

/-- The CLOG record with a head's condition present: its action is what is left of the heads' (R165, R171). -/
theorem clearFaults_clog_of_present (hs : faultsHeld s) (h : s.faults.records.clog.present = true) :
    (clearFaults s).faults.records.clog =
      { s.faults.records.clog with action := (clearFaults s).faults.heads.list.any (·.action) } := by
  obtain ⟨u, hbefore, hafter⟩ := clearFaults_split .clog s
  have hcleared : clearKind .clog u = eachHead clearClogHead u := by
    rw [clearKind_of_present (k := .clog) (by rw [hbefore.get]; exact h), if_pos rfl]
  rw [hcleared] at hafter
  rw [hafter.clog, eachHead_clearClogHead_record (hbefore.held hs).clogSynced, hafter.heads rfl, hbefore.clog]

theorem clearKind_clog_head (s : State) (p : ReadPath) (tr : Track) : (clearKind .clog s).faults.heads.get p tr =
    (s.faults.heads.get p tr).cleared s.faults.records.clog.mode := by
  rw [← eachHead_clearClogHead_get]
  cases h : (s.faults.records.get .clog).present
  case false => rw [clearKind_of_gone h]; rfl
  case true => rw [clearKind_of_present h, if_pos rfl]

theorem clearFaults_head (s : State) (p : ReadPath) (tr : Track) : (clearFaults s).faults.heads.get p tr =
    (s.faults.heads.get p tr).cleared s.faults.records.clog.mode := by
  obtain ⟨u, hbefore, hafter⟩ := clearFaults_split .clog s
  rw [hafter.heads rfl, clearKind_clog_head, hbefore.heads rfl, hbefore.clog]

theorem foldl_clearKind_only (l : List FaultKind) : ∀ s, let t := l.foldl (fun s j => clearKind j s) s
    t = { s with
      ports := t.ports, faults := { s.faults with records := t.faults.records, heads := t.faults.heads } } := by
  induction l with
  | nil => exact fun _ => rfl
  | cons j l ih =>
    intro s
    have hfirst := (clearKind_kindFrame j s).only
    have hrest := ih (clearKind j s)
    dsimp only [List.foldl_cons] at hrest ⊢
    generalize l.foldl (fun s j => clearKind j s) (clearKind j s) = t at hrest ⊢
    rw [hrest, hfirst]

theorem clearFaults_only (s : State) : clearFaults s = { s with
    ports := (clearFaults s).ports
    faults := { s.faults with records := (clearFaults s).faults.records, heads := (clearFaults s).faults.heads } } :=
  foldl_clearKind_only _ s

theorem exec_clearFaults {p : Port} (h : waitsForRise s p = false) : exec (.clearFaults p) s =
    .next (respond p 0x15 .ok (.faultClear (faultKinds.map (clearLine (clearFaults s)))) (clearFaults s)) :=
  congrArg Host.Outcome.next (request_open 0x15 h)

/-! ## A condition as it arises and goes (R159) -/

theorem FaultRecords.ext_get {r r' : FaultRecords} (h : ∀ k, r.get k = r'.get k) : r = r' := by
  obtain ⟨servo, confirm, input, clog, position, uncorr, rate⟩ := r
  have hservo : servo = r'.servo := h .servo
  have hconfirm : confirm = r'.confirm := h .confirm
  have hinput : input = r'.input := h .input
  have hclog : clog = r'.clog := h .clog
  have hposition : position = r'.position := h .position
  have huncorr : uncorr = r'.uncorr := h .uncorr
  have hrate : rate = r'.rate := h .rate
  subst hservo hconfirm hinput hclog hposition huncorr hrate
  rfl

theorem conditionTo_records (k : FaultKind) (c : Option FaultDetail) (s : State) :
    (conditionTo k c s).faults.records =
      s.faults.records.set k ((s.faults.records.get k).under c (knownAfa s)) := by
  refine FaultRecords.ext_get fun j => ?_
  by_cases hj : j = k
  · subst hj
    rw [conditionTo_get, FaultRecords.get_set]
  · rw [conditionTo_get_of_ne hj, FaultRecords.get_set_of_ne _ _ _ _ hj]

theorem conditionTo_eq (k : FaultKind) (c : Option FaultDetail) (s : State) : conditionTo k c s = { s with
    ports := (conditionTo k c s).ports
    faults := { s.faults with
      records := s.faults.records.set k ((s.faults.records.get k).under c (knownAfa s)) } } := by
  have hframe := conditionTo_seqFrame k c s
  have hfaults : (conditionTo k c s).faults = { s.faults with records := (conditionTo k c s).faults.records } := by
    rw [hframe.state_eq]
  have honly := conditionTo_faultOnly k c s
  unfold FaultOnly at honly
  rw [hfaults, conditionTo_records] at honly
  exact honly

/-- A condition arises only in a mode that is on, and with a detail. -/
theorem FaultRecord.under_present {r : FaultRecord} {c : Option FaultDetail} {afa : Option Afa}
    (hgone : r.present = false) (h : (r.under c afa).present = true) : c.isSome = true ∧ r.mode ≠ .off := by
  cases c with
  | none => cases h
  | some d =>
    refine ⟨rfl, fun hoff => ?_⟩
    rw [FaultRecord.under, if_pos (.inr hoff), hgone] at h
    cases h

/-- An action goes only in AUTO, and with its condition. -/
theorem FaultRecord.under_action {r : FaultRecord} {c : Option FaultDetail} {afa : Option Afa}
    (haction : r.action = true) (h : (r.under c afa).action = false) : c = none ∧ r.present = true ∧ r.mode = .auto := by
  cases c with
  | none =>
    by_cases hends : r.present = true ∧ r.mode = .auto
    · exact ⟨rfl, hends⟩
    · rw [FaultRecord.under] at h
      simp only [if_neg hends, haction] at h
      cases h
  | some d =>
    rw [FaultRecord.under] at h
    split at h
    · rw [haction] at h
      cases h
    · simp [haction] at h

theorem conditionTo_raises_of_under {c : Option FaultDetail} (hgone : (s.faults.records.get k).present = false)
    (h : ((s.faults.records.get k).under c (knownAfa s)).present = true) (q : Port)
    (hq : EventSet.has (s.ports.get q).report .faultRaised = true) :
    EventSet.has ((conditionTo k c s).ports.get q).events .faultRaised = true := by
  obtain ⟨hc, hon⟩ := FaultRecord.under_present hgone h
  exact conditionTo_raises k c s hc hgone hon q hq

theorem conditionTo_ends_of_under {c : Option FaultDetail} (haction : (s.faults.records.get k).action = true)
    (h : ((s.faults.records.get k).under c (knownAfa s)).action = false) (q : Port)
    (hq : EventSet.has (s.ports.get q).report .faultEnded = true) :
    EventSet.has ((conditionTo k c s).ports.get q).events .faultEnded = true := by
  obtain ⟨rfl, hpresent, hauto⟩ := FaultRecord.under_action haction h
  exact conditionTo_ends s hpresent hauto haction q hq

end

end Sys2Proof.Machine

namespace Sys2Proof.Machine
open Sys2Proof

-- One theorem at a time: the whole text is also compiled as one, where a thread for each theorem in flight asks for more
-- memory than the check allows.
set_option Elab.async false

/-! ## CLOG's heads through a frame tick (R165) -/

/-- A head after a tally with the usable blocks given, or with none. -/
def ClogHead.talliedBy (c : ClogHead) (m : FaultMode) : Option Nat → ClogHead
  | some n => c.tallied m n
  | none => c

/-- The head's condition is present in `t` and was not in `s`. -/
def headNew (s t : State) (x : ReadPath × Track) : Bool :=
  !(s.faults.heads.get x.1 x.2).present && (t.faults.heads.get x.1 x.2).present

/-- The heads `l` have taken their tallies `usable`, and the CLOG record has followed: each head raised counts one, sets the
detail and seen and raises FAULT_RAISED, each action that a head loses raises FAULT_ENDED (R159, R165). -/
structure HeadsMoved (usable : ReadPath → Track → Option Nat) (l : List (ReadPath × Track)) (s t : State) : Prop where
  moved : ∀ x ∈ l, t.faults.heads.get x.1 x.2 =
    (s.faults.heads.get x.1 x.2).talliedBy s.faults.records.clog.mode (usable x.1 x.2)
  apart : ∀ x : ReadPath × Track, x ∉ l → t.faults.heads.get x.1 x.2 = s.faults.heads.get x.1 x.2
  mode : t.faults.records.clog.mode = s.faults.records.clog.mode
  ports : ∀ q, PortGrow (s.ports.get q) (t.ports.get q)
  count : t.faults.records.clog.count = if l.countP (headNew s t) = 0 then s.faults.records.clog.count
    else min 255 (s.faults.records.clog.count + l.countP (headNew s t))
  quiet : l.countP (headNew s t) = 0 → t.faults.records.clog.seen = s.faults.records.clog.seen ∧
    t.faults.records.clog.detail = s.faults.records.clog.detail
  raised : l.countP (headNew s t) ≠ 0 → t.faults.records.clog.seen = true ∧
    (∃ x ∈ l, t.faults.records.clog.detail = .clogHead x.1 x.2 ∧ headNew s t x = true) ∧
    ∀ q, EventSet.has (s.ports.get q).report .faultRaised = true → EventSet.has (t.ports.get q).events .faultRaised = true
  ended : ∀ x : ReadPath × Track, (s.faults.heads.get x.1 x.2).action = true →
    (t.faults.heads.get x.1 x.2).action = false →
    ∀ q, EventSet.has (s.ports.get q).report .faultEnded = true → EventSet.has (t.ports.get q).events .faultEnded = true

section
variable {usable : ReadPath → Track → Option Nat} {l m : List (ReadPath × Track)} {K : List FaultKind} {s t u : State}

theorem headNew_of_heads (h : ∀ p tr, t.faults.heads.get p tr = s.faults.heads.get p tr) (x : ReadPath × Track) :
    headNew s t x = false := by
  unfold headNew
  rw [h]
  exact Bool.not_and_self _

/-- The heads and the CLOG record as they were: no head of `l` has a tally. -/
theorem MonitorHold.headsMoved (h : MonitorHold K s t) (hk : .clog ∉ K) (hl : ∀ x ∈ l, usable x.1 x.2 = none) :
    HeadsMoved usable l s t := by
  have hheads : ∀ p tr, t.faults.heads.get p tr = s.faults.heads.get p tr := fun p tr => by rw [h.heads hk]
  have hclog : t.faults.records.clog = s.faults.records.clog := h.get .clog hk
  have hnone : l.countP (headNew s t) = 0 :=
    List.countP_eq_zero.mpr fun x _ => by rw [headNew_of_heads hheads]; decide
  exact {
    moved := fun x hx => by rw [hheads, hl x hx]; rfl
    apart := fun _ _ => hheads _ _
    mode := by rw [hclog]
    ports := h.ports
    count := by rw [if_pos hnone, hclog]
    quiet := fun _ => by rw [hclog]; exact ⟨rfl, rfl⟩
    raised := fun hsome => absurd hnone hsome
    ended := fun x ha hg => by rw [hheads, ha] at hg; cases hg }

/-- A head's own part of a tally. -/
theorem HeadTallied.headsMoved {p : ReadPath} {tr : Track} {n : Nat} (h : HeadTallied p tr n s t)
    (hn : usable p tr = some n) : HeadsMoved usable [(p, tr)] s t := by
  have hself : t.faults.heads.get p tr = (s.faults.heads.get p tr).tallied s.faults.records.clog.mode n := by
    rw [h.heads, ClogHeads.get_set]
  have hother : ∀ x : ReadPath × Track, x ≠ (p, tr) → t.faults.heads.get x.1 x.2 = s.faults.heads.get x.1 x.2 :=
    fun x hx => by
      rw [h.heads, ClogHeads.get_set_other]
      exact not_and_or.mp fun hsame => hx (Prod.ext hsame.1 hsame.2)
  have hnew : headNew s t (p, tr) = (s.faults.heads.get p tr).raisedBy s.faults.records.clog.mode n := by
    simp only [headNew, ClogHead.raisedBy, hself]
  have hcount : [(p, tr)].countP (headNew s t) =
      if (s.faults.heads.get p tr).raisedBy s.faults.records.clog.mode n then 1 else 0 := by
    rw [List.countP_singleton, hnew]
  have hzero : [(p, tr)].countP (headNew s t) = 0 ↔
      (s.faults.heads.get p tr).raisedBy s.faults.records.clog.mode n = false := by
    rw [hcount]
    cases (s.faults.heads.get p tr).raisedBy s.faults.records.clog.mode n <;> decide
  refine { moved := fun x hx => ?_, apart := fun x hx => hother x fun hxe => hx (hxe ▸ List.mem_cons_self)
           mode := h.mode, ports := h.ports, count := ?_
           quiet := fun hq => ?_, raised := fun hr => ?_, ended := fun x ha hg => ?_ }
  · obtain rfl := List.mem_singleton.mp hx
    rw [hself, hn]
    rfl
  · split
    · next hq => exact (h.quiet (hzero.mp hq)).2.1
    · next hr =>
      have hr := (Bool.not_eq_false _).mp (mt hzero.mpr hr)
      rw [hcount, if_pos hr]
      exact (h.raised hr).2.1
  · obtain ⟨hseen, -, hdetail⟩ := h.quiet (hzero.mp hq)
    exact ⟨hseen, hdetail⟩
  · have hr := (Bool.not_eq_false _).mp (mt hzero.mpr hr)
    obtain ⟨hseen, -, hdetail, hevent⟩ := h.raised hr
    exact ⟨hseen, ⟨_, List.mem_cons_self, hdetail, hnew.trans hr⟩, hevent⟩
  · by_cases hx : x = (p, tr)
    · subst hx
      exact h.ended ha (hself ▸ hg)
    · rw [hother x hx, ha] at hg
      cases hg

/-- Tallies at different heads, one after another. -/
theorem HeadsMoved.trans (h : HeadsMoved usable l s t) (g : HeadsMoved usable m t u) (hdisjoint : ∀ x ∈ l, x ∉ m) :
    HeadsMoved usable (l ++ m) s u := by
  have hl : ∀ x ∈ l, headNew s u x = headNew s t x := fun x hx => by
    unfold headNew
    rw [g.apart x (hdisjoint x hx)]
  have hm : ∀ x ∈ m, headNew s u x = headNew t u x := fun x hx => by
    unfold headNew
    rw [h.apart x fun hxl => hdisjoint x hxl hx]
  have hcount : (l ++ m).countP (headNew s u) = l.countP (headNew s t) + m.countP (headNew t u) := by
    rw [List.countP_append]
    exact congrArg₂ _ (List.countP_congr fun x hx => by rw [hl x hx]) (List.countP_congr fun x hx => by rw [hm x hx])
  have hreport : ∀ q e, EventSet.has (s.ports.get q).report e = true → EventSet.has (t.ports.get q).report e = true :=
    fun q e hq => by rw [(h.ports q).rest]; exact hq
  refine { moved := fun x hx => ?_, apart := fun x hx => ?_, mode := g.mode.trans h.mode
           ports := fun q => (h.ports q).trans (g.ports q), count := ?_, quiet := fun hq => ?_, raised := fun hr => ?_
           ended := fun x ha hg q hq => ?_ }
  · by_cases hxl : x ∈ l
    · rw [g.apart x (hdisjoint x hxl), h.moved x hxl]
    · rw [g.moved x ((List.mem_append.mp hx).resolve_left hxl), h.apart x hxl, h.mode]
  · obtain ⟨hxl, hxm⟩ := not_or.mp (List.mem_append.not.mp hx)
    rw [g.apart x hxm, h.apart x hxl]
  · rw [hcount, g.count, h.count]
    split <;> split <;> split <;> omega
  · obtain ⟨hzl, hzm⟩ := Nat.add_eq_zero_iff.mp (hcount.symm.trans hq)
    obtain ⟨hseen, hdetail⟩ := h.quiet hzl
    obtain ⟨hseen', hdetail'⟩ := g.quiet hzm
    exact ⟨hseen'.trans hseen, hdetail'.trans hdetail⟩
  · by_cases hzm : m.countP (headNew t u) = 0
    · obtain ⟨hseen', hdetail'⟩ := g.quiet hzm
      obtain ⟨hseen, ⟨x, hx, hdetail, hnew⟩, hevent⟩ := h.raised (by omega)
      exact ⟨hseen'.trans hseen, ⟨x, List.mem_append_left m hx, hdetail'.trans hdetail, (hl x hx).trans hnew⟩,
        fun q hq => (g.ports q).grows _ (hevent q hq)⟩
    · obtain ⟨hseen, ⟨x, hx, hdetail, hnew⟩, hevent⟩ := g.raised hzm
      exact ⟨hseen, ⟨x, List.mem_append_right l hx, hdetail, (hm x hx).trans hnew⟩,
        fun q hq => hevent q (hreport q _ hq)⟩
  · cases hmid : (t.faults.heads.get x.1 x.2).action
    case false => exact (g.ports q).grows _ (h.ended x ha hmid q hq)
    case true => exact g.ended x hmid hg q (hreport q _ hq)

theorem HeadsMoved.before (g : HeadsMoved usable l t u) (h : MonitorHold K s t) (hk : .clog ∉ K) :
    HeadsMoved usable l s u :=
  (h.headsMoved (l := []) hk nofun).trans g nofun

theorem HeadsMoved.after (h : HeadsMoved usable l s t) (g : MonitorHold K t u) (hk : .clog ∉ K) :
    HeadsMoved usable l s u := by
  have htrans := h.trans (g.headsMoved (l := []) hk nofun) fun _ _ => List.not_mem_nil
  rwa [List.append_nil] at htrans

/-! ### The tallies of a tick -/

/-- The usable blocks of a head in a tally (R165). -/
def Tally.usableAt (k : Tally) : Track → Nat
  | .a => k.headA.clean + k.headA.fixed
  | .b => k.headB.clean + k.headB.fixed

/-- The usable blocks that a decoder's result hands a head: none when it is no completion. -/
def TickResult.usableAt : TickResult → Track → Option Nat
  | .completion c, tr => some (c.tally.usableAt tr)
  | .subcode _, _ => none
  | .noFrame, _ => none

theorem clogTally_headsMoved (path : ReadPath) (k : Tally) (s : State)
    (husable : ∀ tr, usable path tr = some (k.usableAt tr)) :
    HeadsMoved usable [(path, .a), (path, .b)] s (clogTally path k s) :=
  ((clogTallyHead_tallied path .a k.headA s).headsMoved (husable .a)).trans
    ((clogTallyHead_tallied path .b k.headB _).headsMoved (husable .b)) (by simp)

theorem preTally_headsMoved (r : TickResult) (s : State) (husable : ∀ tr, usable .pre tr = r.usableAt tr) :
    HeadsMoved usable [(.pre, .a), (.pre, .b)] s (preTally r s) := by
  have hstill : r.usableAt .a = none → r.usableAt .b = none →
      HeadsMoved usable [(.pre, .a), (.pre, .b)] s s := fun ha hb =>
    (MonitorHold.refl [] s).headsMoved List.not_mem_nil (by simp [husable, ha, hb])
  cases r with
  | completion c =>
    have hrest : MonitorHold [.uncorr, .rate, .input] s (rateTally c.tally (uncorrTally c.tally s)) :=
      ((evaluate_hold (k := .uncorr) (by decide) _ s).mono (by decide)).trans ((rateTally_hold _ _).mono (by decide))
    exact (clogTally_headsMoved .pre c.tally _ husable).before hrest (by decide)
  | subcode k => exact hstill rfl rfl
  | noFrame => exact hstill rfl rfl

theorem preTick_headsMoved (hloaded : s.transport.mode ≠ .unloaded)
    (husable : ∀ tr, usable .pre tr = (decoderResult .pre s).usableAt tr) :
    HeadsMoved usable [(.pre, .a), (.pre, .b)] s (preTick s) := by
  rw [preTick_of_loaded hloaded, tapeMapArrival_eq]
  generalize decoderResult .pre s = r at husable
  have hbefore : MonitorHold [.position, .input] s (takeRightsPack r.packs.rights
      (beforeRightsPack r (decoderTick .pre r s))) :=
    (decoderTick_hold .pre r s).trans ((beforeRightsPack_hold r _).trans (takeRightsPack_hold _ _))
  have hafter : ∀ fp st b j u, MonitorHold [.input] u
      (verifyResult .pre r fp j (seqFramePosition fp st b u)) := fun fp st b j u =>
    (seqFramePosition_hold fp st b u).trans (verifyResult_hold .pre r fp j _)
  exact ((preTally_headsMoved r _ husable).after (hafter _ _ _ _ _) (by decide)).before hbefore (by decide)

theorem confTick_headsMoved (husable : ∀ tr, usable .conf tr = (decoderResult .conf s).usableAt tr) :
    HeadsMoved usable [(.conf, .a), (.conf, .b)] s (confTick s) := by
  rw [confTick_eq]
  generalize decoderResult .conf s = r at husable
  refine HeadsMoved.before ?_ (decoderTick_hold (K := []) .conf r s) List.not_mem_nil
  generalize decoderTick .conf r s = u
  have hstill : r.usableAt .a = none → r.usableAt .b = none →
      HeadsMoved usable [(.conf, .a), (.conf, .b)] u u := fun ha hb =>
    (MonitorHold.refl [] u).headsMoved List.not_mem_nil (by simp [husable, ha, hb])
  cases r with
  | completion c =>
    exact ((clogTally_headsMoved .conf c.tally _ husable).before (confirmTally_hold c.tally u) (by decide)).after
      (verifyStep_hold (K := []) _ _ _ _ _) List.not_mem_nil
  | subcode k => exact hstill rfl rfl
  | noFrame => exact hstill rfl rfl

/-- The result of each decoder, with the transport and the tape map given. -/
def resultAt (s : State) (x : Transport) (m : TapeMap) : ReadPath → TickResult
  | .pre => decoderResult .pre (s.withTransport x)
  | .conf => decoderResult .conf { s with transport := x, tapeMap := m }

/-- The result of each decoder at a frame tick, from the state before it and the transport and the tape map after it. -/
def tickResult (dir : Direction) (us : Nat) (s : State) : ReadPath → TickResult :=
  resultAt s (frameTick dir us s).transport (frameTick dir us s).tapeMap

/-- The four heads at a whole tick. -/
theorem frameTick_headsMoved (dir : Direction) (us : Nat) (hloaded : s.transport.mode ≠ .unloaded) :
    HeadsMoved (fun path => (tickResult dir us s path).usableAt) [(.pre, .a), (.pre, .b), (.conf, .a), (.conf, .b)] s
      (frameTick dir us s) := by
  have hpre : decoderResult .pre (atPreDecoder dir us s) = tickResult dir us s .pre :=
    decoderResult_atPreDecoder dir us s
  have hconf : decoderResult .conf (atConfDecoder dir us s) = tickResult dir us s .conf := decoderResult_atConf dir us s
  have htransport : (atPreDecoder dir us s).transport = s.transport.atTick dir us :=
    ((atPreDecoder_tickKeep dir us s).rights .pre).transport
  rw [frameTick_eq_tickEnd]
  refine HeadsMoved.after ?_ (tickEnd_hold _) (by decide)
  refine HeadsMoved.before ?_ (atPreDecoder_hold dir us s) (by decide)
  exact (preTick_headsMoved (by rw [htransport]; exact hloaded) fun tr => by rw [hpre]).trans
    (confTick_headsMoved (s := atConfDecoder dir us s) fun tr => by rw [hconf]) (by decide)

end

end Sys2Proof.Machine

namespace Sys2Proof.Machine
open Sys2Proof

-- One theorem at a time: the whole text is also compiled as one, where a thread for each theorem in flight asks for more
-- memory than the check allows.
set_option Elab.async false

section
variable {K : List FaultKind} {s t u : State} {k : Tally} {afa : Option Afa}

theorem knownAfa_congr (h : t.tapeMap = s.tapeMap) : knownAfa t = knownAfa s := by
  unfold knownAfa
  rw [h]

/-! ## UNCORR and RATE through a frame tick (R167, R168) -/

/-- What the tally of a PRE completion leaves of UNCORR, RATE and its window. -/
structure RatesTallied (k : Tally) (afa : Option Afa) (s t : State) : Prop where
  uncorr : t.faults.records.uncorr = s.faults.records.uncorr.under
    (if k.uncorrA + k.uncorrB = 0 then none else some (.uncorr k.identity k.uncorrA k.uncorrB)) afa
  off : s.faults.records.rate.mode = .off →
    t.faults.window = s.faults.window ∧ t.faults.records.rate = s.faults.records.rate
  on : s.faults.records.rate.mode ≠ .off → t.faults.window = pushWindow s.faults.window k.unusable ∧
    t.faults.records.rate = s.faults.records.rate.under
      (if rateCondition s.faults.records.rate.present s.faults.high s.faults.low t.faults.window.sum then
        some (.rateSum t.faults.window.sum) else none) afa

theorem rateTally_off (h : s.faults.records.rate.mode = .off) : rateTally k s = s := if_pos h

/-- The number has joined the window, before the condition is evaluated. -/
def rateJoined (k : Tally) (s : State) : State :=
  { s with faults := { s.faults with window := pushWindow s.faults.window k.unusable } }

theorem rateTally_on (h : s.faults.records.rate.mode ≠ .off) : rateTally k s = evaluate .rate
    (if rateCondition s.faults.records.rate.present s.faults.high s.faults.low (rateJoined k s).faults.window.sum then
      some (.rateSum (rateJoined k s).faults.window.sum) else none) (rateJoined k s) := if_neg h

theorem rateTally_tallied (k : Tally) (s : State) : RatesTallied k (knownAfa s) s (rateTally k (uncorrTally k s)) := by
  have huncorr : (uncorrTally k s).faults.records.uncorr = _ := evaluate_get (k := .uncorr) (by decide) _ s
  have hhold : MonitorHold [.uncorr, .input] s (uncorrTally k s) := evaluate_hold (by decide) _ s
  have hafa : knownAfa (uncorrTally k s) = knownAfa s := knownAfa_congr (uncorrTally_seqFrame k s).tapeMap
  have hrate : (uncorrTally k s).faults.records.rate = s.faults.records.rate := hhold.get .rate (by decide)
  have hwindow := hhold.window (by decide)
  have hhigh := hhold.high
  have hlow := hhold.low
  generalize uncorrTally k s = u at *
  have hkept : (rateTally k u).faults.records.uncorr = u.faults.records.uncorr :=
    (rateTally_hold k u).get .uncorr (by decide)
  refine ⟨hkept.trans huncorr, fun hoff => ?_, fun hon => ?_⟩
  · rw [rateTally_off (hrate ▸ hoff)]
    exact ⟨hwindow, hrate⟩
  · have hon : u.faults.records.rate.mode ≠ .off := hrate ▸ hon
    have hjoined : (rateTally k u).faults.window = pushWindow s.faults.window k.unusable := by
      rw [rateTally_on hon, (evaluate_seqFrame _ _ _).window, ← hwindow]
      rfl
    refine ⟨hjoined, ?_⟩
    rw [hjoined, ← hwindow, ← hrate, ← hafa, ← hhigh, ← hlow, rateTally_on hon]
    exact evaluate_get (k := .rate) (by decide) _ _

theorem RatesTallied.before (g : RatesTallied k afa t u) (h : MonitorHold K s t) (hu : .uncorr ∉ K) (hr : .rate ∉ K) :
    RatesTallied k afa s u := by
  have huncorr : t.faults.records.uncorr = s.faults.records.uncorr := h.get .uncorr hu
  have hrate : t.faults.records.rate = s.faults.records.rate := h.get .rate hr
  have hwindow := h.window hr
  refine ⟨huncorr ▸ g.uncorr, fun hoff => ?_, fun hon => ?_⟩
  · rw [← hwindow, ← hrate]
    exact g.off (hrate ▸ hoff)
  · rw [← hwindow, ← hrate, ← h.high, ← h.low]
    exact g.on (hrate ▸ hon)

theorem RatesTallied.after (h : RatesTallied k afa s t) (g : MonitorHold K t u) (hu : .uncorr ∉ K) (hr : .rate ∉ K) :
    RatesTallied k afa s u := by
  have huncorr : u.faults.records.uncorr = t.faults.records.uncorr := g.get .uncorr hu
  have hrate : u.faults.records.rate = t.faults.records.rate := g.get .rate hr
  have hwindow := g.window hr
  refine ⟨huncorr.trans h.uncorr, fun hoff => ?_, fun hon => ?_⟩
  · rw [hwindow, hrate]
    exact h.off hoff
  · rw [hwindow, hrate]
    exact h.on hon

theorem afterRightsPack_tapeMap (r : TickResult) (s0 s : State) : (afterRightsPack r s0 s).tapeMap = s.tapeMap := by
  unfold afterRightsPack
  simp only [verifyResult_tapeMap, seqFramePosition_tapeMap, preTally_tapeMap]

/-- After the tally of a PRE result no record but INPUT's differs. -/
theorem afterTally_hold (r : TickResult) (fp : Option Afa) (st : PosState) (b j : Bool) (s : State) :
    MonitorHold [.input] s (verifyResult .pre r fp j (seqFramePosition fp st b s)) :=
  (seqFramePosition_hold fp st b s).trans (verifyResult_hold .pre r fp j _)

theorem afterRightsPack_rates (c : Completion) (s0 s : State) :
    RatesTallied c.tally (knownAfa s) s (afterRightsPack (.completion c) s0 s) := by
  have htally : RatesTallied c.tally (knownAfa s) s (preTally (.completion c) s) :=
    (rateTally_tallied c.tally s).after (clogTally_hold .pre c.tally _) (by decide) (by decide)
  unfold afterRightsPack
  exact htally.after (K := [.input]) (afterTally_hold _ _ _ _ _ _) (by decide) (by decide)

/-- A PRE completion at the fault monitor: the AFA of a raise is the one after the frame's packs (R159, R167, R168). -/
theorem preTick_rates {c : Completion} (hloaded : s.transport.mode ≠ .unloaded)
    (hresult : decoderResult .pre s = .completion c) : RatesTallied c.tally (knownAfa (preTick s)) s (preTick s) := by
  rw [preTick_of_loaded hloaded, tapeMapArrival_eq, hresult, knownAfa_congr (afterRightsPack_tapeMap _ _ _)]
  refine (afterRightsPack_rates c _ _).before (K := [.position, .input]) ?_ (by decide) (by decide)
  exact (decoderTick_hold .pre _ s).trans ((beforeRightsPack_hold _ _).trans (takeRightsPack_hold _ _))

/-- Without a PRE completion a tick holds all records but those of CLOG, POSITION and INPUT. -/
theorem preTick_hold_of_none (hloaded : s.transport.mode ≠ .unloaded)
    (hresult : ∀ c, decoderResult .pre s ≠ .completion c) : MonitorHold [.position, .input] s (preTick s) := by
  rw [preTick_of_loaded hloaded, tapeMapArrival_eq]
  generalize decoderResult .pre s = r at hresult
  have hnone : ∀ u, preTally r u = u := fun u => by
    cases r with
    | completion c => exact absurd rfl (hresult c)
    | subcode k => rfl
    | noFrame => rfl
  unfold afterRightsPack
  rw [hnone]
  exact (decoderTick_hold .pre r s).trans <| (beforeRightsPack_hold r _).trans <|
    (takeRightsPack_hold _ _).trans ((afterTally_hold _ _ _ _ _ _).mono (by decide))

/-- UNCORR, RATE and its window before the PRE decoder of a tick and after it. -/
theorem aroundPre_hold (dir : Direction) (us : Nat) (s : State) :
    MonitorHold [.servo, .confirm, .input, .clog, .position] s (atPreDecoder dir us s) ∧
      MonitorHold [.servo, .confirm, .input, .clog, .position] (atConfDecoder dir us s) (frameTick dir us s) := by
  refine ⟨(atPreDecoder_hold dir us s).mono (by decide), ?_⟩
  rw [frameTick_eq_tickEnd]
  exact ((confTick_hold _).mono (by decide)).trans ((tickEnd_hold _).mono (by decide))

theorem atPreDecoder_transport (dir : Direction) (us : Nat) (s : State) :
    (atPreDecoder dir us s).transport = s.transport.atTick dir us :=
  ((atPreDecoder_tickKeep dir us s).rights .pre).transport

theorem frameTick_rates {dir : Direction} {us : Nat} {c : Completion} (hloaded : s.transport.mode ≠ .unloaded)
    (hresult : tickResult dir us s .pre = .completion c) : RatesTallied c.tally
      (if (frameTick dir us s).tapeMap.pos.state = .unknown then none else some (frameTick dir us s).tapeMap.periodValue)
      s (frameTick dir us s) := by
  obtain ⟨hbefore, hafter⟩ := aroundPre_hold dir us s
  have hafa : knownAfa (atConfDecoder dir us s) = if (frameTick dir us s).tapeMap.pos.state = .unknown then none
      else some (frameTick dir us s).tapeMap.periodValue := by
    rw [frameTick_eq_tickEnd, ← tickEnd_knownAfa, knownAfa_congr (confTick_tapeMap _)]
  rw [← hafa]
  refine RatesTallied.after (RatesTallied.before ?_ hbefore (by decide) (by decide)) hafter (by decide) (by decide)
  exact preTick_rates (by rw [atPreDecoder_transport]; exact hloaded)
    ((decoderResult_atPreDecoder dir us s).trans hresult)

theorem frameTick_rates_of_none {dir : Direction} {us : Nat} (hloaded : s.transport.mode ≠ .unloaded)
    (hresult : ∀ c, tickResult dir us s .pre ≠ .completion c) :
    MonitorHold [.servo, .confirm, .input, .clog, .position] s (frameTick dir us s) := by
  obtain ⟨hbefore, hafter⟩ := aroundPre_hold dir us s
  refine hbefore.trans (MonitorHold.trans ?_ hafter)
  refine (preTick_hold_of_none (by rw [atPreDecoder_transport]; exact hloaded) fun c => ?_).mono (by decide)
  rw [decoderResult_atPreDecoder]
  exact hresult c

end

end Sys2Proof.Machine

namespace Sys2Proof.Machine
open Sys2Proof

-- One theorem at a time: the whole text is also compiled as one, where a thread for each theorem in flight asks for more
-- memory than the check allows.
set_option Elab.async false

section
variable {K : List FaultKind} {s t u : State} {d : FaultDetail} {a : Afa} {r : FaultRecord}

/-! ## POSITION through a frame tick (R102, R166) -/

/-- A report on the position has reached the POSITION record, and its tick the tag. -/
structure PositionReported (d : FaultDetail) (a : Afa) (s t : State) : Prop where
  record : t.faults.records.position = s.faults.records.position.under (some d) (some a)
  tag : t.faults.positionTag = some s.transport.tick

theorem PositionReported.before (g : PositionReported d a t u) (h : MonitorHold K s t) (hk : .position ∉ K)
    (htick : t.transport.tick = s.transport.tick) : PositionReported d a s u := by
  have hrecord : t.faults.records.position = s.faults.records.position := h.get .position hk
  exact ⟨hrecord ▸ g.record, htick ▸ g.tag⟩

theorem PositionReported.after (h : PositionReported d a s t) (g : MonitorHold K t u) (hk : .position ∉ K) :
    PositionReported d a s u where
  record := (g.get .position hk).trans h.record
  tag := (g.tag hk).trans h.tag

theorem positionReport_on (hloaded : s.transport.mode ≠ .unloaded) (hon : s.faults.records.position.mode ≠ .off) :
    positionReport d s =
      evaluate .position (some d) { s with faults := { s.faults with positionTag := some s.transport.tick } } :=
  if_neg fun h => h.elim hloaded hon

theorem positionReport_reported (hloaded : s.transport.mode ≠ .unloaded) (hon : s.faults.records.position.mode ≠ .off)
    (ha : knownAfa s = some a) : PositionReported d a s (positionReport d s) := by
  rw [positionReport_on hloaded hon]
  exact ⟨(evaluate_get (k := .position) (by decide) _ _).trans (by rw [← ha]; rfl), (evaluate_seqFrame _ _ _).positionTag⟩

theorem FaultRecord.under_some_present (hon : r.mode ≠ .off) (d : FaultDetail) (afa : Option Afa) :
    (r.under (some d) afa).present = true := by
  simp only [FaultRecord.under]
  split
  · next h => exact h.resolve_right hon
  · rfl

/-- A record whose condition is present keeps its first detail (R159). -/
theorem FaultRecord.under_of_present (h : r.present = true) (d : FaultDetail) (afa : Option Afa) :
    r.under (some d) afa = r := if_pos (.inl h)

/-- A later report of the same tick changes neither the record nor the tag. -/
theorem PositionReported.again {d' : FaultDetail} {a' : Afa} (h : PositionReported d a s t) (g : PositionReported d' a' t u)
    (hon : s.faults.records.position.mode ≠ .off) (htick : t.transport.tick = s.transport.tick) :
    PositionReported d a s u where
  record := by
    rw [g.record, FaultRecord.under_of_present]
    · exact h.record
    · rw [h.record]
      exact FaultRecord.under_some_present hon _ _
  tag := by rw [g.tag, htick]

/-! ### A jump -/

theorem PositionRecord.handle_jumped_state (p : PositionRecord) (k : Option PositionPack)
    (h : (p.handle k).2 = .jumped) : (p.handle k).1.state = .read := by
  cases k with
  | none => cases h
  | some k =>
    by_cases hknown : p.state = .unknown
    · rw [handle_unknown hknown] at h
      cases h
    cases hnear : withinSnap k.afa p.afa with
    | true =>
      rw [handle_near hknown hnear] at h
      cases h
    | false =>
      by_cases hjump : ∃ c, p.candidate = some c ∧ c.projected = k.afa
      · obtain ⟨c, hc, hat⟩ := hjump
        rw [handle_jump hknown hnear hc hat]
        rfl
      · rw [handle_new hknown hnear fun c hc hat => hjump ⟨c, hc, hat⟩] at h
        cases h

theorem PositionRecord.arrived_afa (p : PositionRecord) (r : TickResult) (b : Bool) :
    (p.arrived r b).afa = (p.handle r.packs.position).1.afa := by
  have hblank : ∀ q : PositionRecord, (q.blank b).afa = q.afa := fun q => by
    unfold PositionRecord.blank
    simp only
    repeat' split
    all_goals rfl
  rw [arrived, hblank, edit_eq]

theorem beforeRightsPack_after (r : TickResult) (s : State) : MonitorHold K (arrivalMoved r s) (beforeRightsPack r s) := by
  have hkept : ∀ (u : State) fp st, MonitorHold K u (keepOldFrame r fp st u) := fun _ _ _ => {}
  rw [beforeRightsPack_eq]
  refine MonitorHold.trans (.of_faults ?_ ?_) (hkept _ _ _)
  · rw [tapeMapRest_only]
  · exact (tapeMapRest_tickRights .pre _ _ _ _).ports

theorem seqJump_hold (s : State) : MonitorHold [.input] s (seqJump s) :=
  (seqForcedCloseAll_seqFrame _ _ s).inputHold (seqForcedCloseAll_recFrame _ _ s) (seqForcedCloseAll_faultsHeld _ _)

/-- After the POSITION pack, POSITION holds what it held unless the pack was a jump. -/
theorem afterJump_hold (r : TickResult) (s0 s : State) :
    MonitorHold [.uncorr, .rate, .clog, .input] (arrivalMoved r s)
      (afterRightsPack r s0 (takeRightsPack r.packs.rights (beforeRightsPack r s))) := by
  have htail : ∀ u, MonitorHold [.uncorr, .rate, .clog, .input] u (afterRightsPack r s0 u) := fun u => by
    unfold afterRightsPack
    exact (preTally_hold r u).trans ((afterTally_hold _ _ _ _ _ _).mono (by decide))
  exact (beforeRightsPack_after r s).trans <| (takeRightsPack_hold _ _).trans (htail _)

theorem arrivalMoved_reported (r : TickResult) (hloaded : s.transport.mode ≠ .unloaded)
    (hon : s.faults.records.position.mode ≠ .off) (hj : (s.tapeMap.pos.handle r.packs.position).2 = .jumped) :
    PositionReported (.positionJump (s.tapeMap.pos.handle r.packs.position).1.afa)
      (s.tapeMap.pos.handle r.packs.position).1.afa s (arrivalMoved r s) := by
  have hread := PositionRecord.handle_jumped_state _ _ hj
  unfold arrivalMoved
  simp only [hj, if_true, reportJump_eq]
  generalize (s.tapeMap.pos.handle r.packs.position).1 = p at hread
  have hcounted : MonitorHold [] s (jumpCounted (s.withPosition p)) :=
    { ports := (raiseEvent_seqFrame .positionJump (s.withPosition p)).ports }
  have hafa : knownAfa (jumpCounted (s.withPosition p)) = some p.afa := if_neg (by
    rw [show (jumpCounted (s.withPosition p)).tapeMap.pos.state = .read from hread]
    decide)
  have hreport := (positionReport_reported (d := .positionJump p.afa) (s := jumpCounted (s.withPosition p)) hloaded hon
    hafa).before hcounted List.not_mem_nil rfl
  exact hreport.after (seqJump_hold _) (by decide)

theorem arrivalMoved_still (r : TickResult) (hj : (s.tapeMap.pos.handle r.packs.position).2 ≠ .jumped) :
    MonitorHold K s (arrivalMoved r s) := by
  unfold arrivalMoved
  simp only [if_neg hj]
  exact {}

theorem preTick_reported (hloaded : s.transport.mode ≠ .unloaded) (hon : s.faults.records.position.mode ≠ .off)
    (hj : (s.tapeMap.pos.handle (decoderResult .pre s).packs.position).2 = .jumped) :
    PositionReported (.positionJump (s.tapeMap.pos.handle (decoderResult .pre s).packs.position).1.afa)
      (s.tapeMap.pos.handle (decoderResult .pre s).packs.position).1.afa s (preTick s) := by
  rw [preTick_of_loaded hloaded, tapeMapArrival_eq]
  generalize decoderResult .pre s = r at hj
  have hdecoder := decoderTick_hold (K := []) .pre r s
  have htransport := decoderTick_transport .pre r s
  have hmap := decoderTick_tapeMap .pre r s
  have hon' : (decoderTick .pre r s).faults.records.position.mode ≠ .off := by
    rw [show (decoderTick .pre r s).faults.records.position = _ from hdecoder.get .position List.not_mem_nil]
    exact hon
  generalize decoderTick .pre r s = u at *
  rw [← hmap] at hj ⊢
  exact ((arrivalMoved_reported r (by rw [htransport]; exact hloaded) hon' hj).after (afterJump_hold r u u)
    (by decide)).before hdecoder List.not_mem_nil (by rw [htransport])

theorem preTick_still (hloaded : s.transport.mode ≠ .unloaded)
    (hj : (s.tapeMap.pos.handle (decoderResult .pre s).packs.position).2 ≠ .jumped) :
    MonitorHold [.uncorr, .rate, .clog, .input] s (preTick s) := by
  rw [preTick_of_loaded hloaded, tapeMapArrival_eq]
  generalize decoderResult .pre s = r at hj
  refine (decoderTick_hold .pre r s).trans ((arrivalMoved_still r ?_).trans (afterJump_hold r _ _))
  rw [decoderTick_tapeMap]
  exact hj

/-! ### The tape map's own tick -/

/-- The tape map's move at a tick, before POSITION hears of a clamp. -/
def mapMoved (s : State) : State :=
  { s with tapeMap := { s.tapeMap with
    periodValue := s.tapeMap.pos.afa, pos := (s.tapeMap.pos.tick s.transport.dir).1 } }

theorem tapeMapTick_eq (s : State) : tapeMapTick s = if (s.tapeMap.pos.tick s.transport.dir).2 then
    positionReport (.positionRange (s.tapeMap.pos.tick s.transport.dir).1.afa) (mapMoved s) else mapMoved s := rfl

theorem mapMoved_hold (s : State) : MonitorHold K s (mapMoved s) := {}

/-- A move is clamped at the ends of the AFA's range (R98). -/
theorem PositionRecord.tick_clamped_iff (p : PositionRecord) (dir : Direction) : (p.tick dir).2 = true ↔
    p.state ≠ .unknown ∧ ((dir = .forward ∧ 1048575 ≤ p.afa) ∨ (dir = .reverse ∧ p.afa = 0)) := by
  unfold PositionRecord.tick
  by_cases hknown : p.state = .unknown
  · simp [hknown]
  · cases dir
    · by_cases hend : p.afa + 1 ≤ 1048575
      · have hnot : ¬ 1048575 ≤ p.afa := Nat.not_le.mpr (Nat.lt_of_succ_le hend)
        simp [hknown, moveAfa, afaMax, hend, hnot]
      · have hat : 1048575 ≤ p.afa := Nat.le_of_lt_succ (Nat.not_le.mp hend)
        simp [hknown, moveAfa, afaMax, hend, hat]
    · by_cases hend : p.afa = 0
      · simp [hknown, moveAfa, hend]
      · simp [hknown, moveAfa, hend]

theorem tapeMapTick_reported (hloaded : s.transport.mode ≠ .unloaded) (hon : s.faults.records.position.mode ≠ .off)
    (hc : (s.tapeMap.pos.tick s.transport.dir).2 = true) :
    PositionReported (.positionRange (s.tapeMap.pos.tick s.transport.dir).1.afa)
      (s.tapeMap.pos.tick s.transport.dir).1.afa s (tapeMapTick s) := by
  have hknown : (s.tapeMap.pos.tick s.transport.dir).1.state ≠ .unknown := by
    rw [PositionRecord.tick_state]
    exact ((PositionRecord.tick_clamped_iff _ _).mp hc).1
  rw [tapeMapTick_eq, if_pos hc]
  exact (positionReport_reported (s := mapMoved s) hloaded hon (if_neg hknown)).before
    (mapMoved_hold (K := []) s) List.not_mem_nil rfl

theorem tapeMapTick_still (hc : (s.tapeMap.pos.tick s.transport.dir).2 ≠ true) : MonitorHold K s (tapeMapTick s) := by
  rw [tapeMapTick_eq, if_neg hc]
  exact mapMoved_hold s

/-! ### The fault monitor's own tick -/

theorem positionTick_of_later (h : ∀ x, s.faults.positionTag = some x → ¬ x < s.transport.tick) : positionTick s = s := by
  unfold positionTick
  split
  · next x hx => exact if_neg (h x hx)
  · rfl

/-- The condition goes when the last report is older than the tick (R166). -/
theorem positionTick_gone (h : ∀ x, s.faults.positionTag = some x → x < s.transport.tick) :
    (positionTick s).faults.positionTag = none ∧ (positionTick s).faults.records.position =
      if s.faults.positionTag.isSome then s.faults.records.position.under none none else s.faults.records.position := by
  unfold positionTick
  split
  · next x hx =>
    rw [if_pos (h x hx), hx]
    exact ⟨(conditionTo_seqFrame _ _ _).positionTag, conditionTo_get (k := .position) none _⟩
  · next hnone =>
    exact ⟨hnone, by rw [hnone]; rfl⟩

end

end Sys2Proof.Machine

namespace Sys2Proof.Machine
open Sys2Proof

-- One theorem at a time: the whole text is also compiled as one, where a thread for each theorem in flight asks for more
-- memory than the check allows.
set_option Elab.async false

section
variable {s t : State} {dir : Direction} {us : Nat}

/-! ## POSITION at the end of a tick (R98, R166) -/

theorem tapeMapTick_transport (s : State) : (tapeMapTick s).transport = s.transport := by
  rw [tapeMapTick_eq]
  split
  · exact (positionReport_seqFrame _ _).transport
  · rfl

theorem tickBlend_hold {K : List FaultKind} (s : State) : MonitorHold K s (tickBlend s) := {}

/-- Where a report of the same tick stands, the end of the tick leaves POSITION alone. -/
theorem tickEnd_hold_of_now (h : (tapeMapTick s).faults.positionTag = some s.transport.tick) :
    MonitorHold [.input] (tapeMapTick s) (tickEnd s) := by
  have hlater : positionTick (tickBlend (tapeMapTick s)) = tickBlend (tapeMapTick s) := by
    refine positionTick_of_later fun x hx => ?_
    rw [show (tickBlend (tapeMapTick s)).transport = _ from tapeMapTick_transport s,
      Option.some.inj (hx.symm.trans h)]
    exact Nat.lt_irrefl _
  unfold tickEnd tickBack
  rw [hlater]
  exact (tickBlend_hold _).trans (afterMonitor_hold _)

theorem tickEnd_reported (hloaded : s.transport.mode ≠ .unloaded) (hon : s.faults.records.position.mode ≠ .off)
    (hc : (s.tapeMap.pos.tick s.transport.dir).2 = true) :
    PositionReported (.positionRange (s.tapeMap.pos.tick s.transport.dir).1.afa)
      (s.tapeMap.pos.tick s.transport.dir).1.afa s (tickEnd s) := by
  have hreport := tapeMapTick_reported hloaded hon hc
  exact hreport.after (tickEnd_hold_of_now hreport.tag) (by decide)

theorem tickEnd_still (hc : (s.tapeMap.pos.tick s.transport.dir).2 ≠ true)
    (htag : s.faults.positionTag = some s.transport.tick) : MonitorHold [.input] s (tickEnd s) := by
  have hmap := tapeMapTick_still (K := [.input]) hc
  exact hmap.trans (tickEnd_hold_of_now ((hmap.tag (by decide)).trans htag))

theorem tickEnd_gone (hc : (s.tapeMap.pos.tick s.transport.dir).2 ≠ true)
    (htag : ∀ x, s.faults.positionTag = some x → x < s.transport.tick) :
    (tickEnd s).faults.positionTag = none ∧ (tickEnd s).faults.records.position =
      if s.faults.positionTag.isSome then s.faults.records.position.under none none else s.faults.records.position := by
  have hmap : MonitorHold [] s (tickBlend (tapeMapTick s)) := (tapeMapTick_still hc).trans (tickBlend_hold _)
  have htransport : (tickBlend (tapeMapTick s)).transport = s.transport := tapeMapTick_transport s
  have hrecord : (tickBlend (tapeMapTick s)).faults.records.position = _ := hmap.get .position List.not_mem_nil
  have hheld := hmap.tag List.not_mem_nil
  obtain ⟨htick, hgone⟩ := positionTick_gone (s := tickBlend (tapeMapTick s)) (by rwa [hheld, htransport])
  have hend := afterMonitor_hold (positionTick (tickBlend (tapeMapTick s)))
  rw [hheld, hrecord] at hgone
  exact ⟨(hend.tag (by decide)).trans htick, (hend.get .position (by decide)).trans hgone⟩

/-! ## POSITION at a whole tick -/

/-- The state at the end of a tick: after the decoders. -/
def atTickEnd (dir : Direction) (us : Nat) (s : State) : State := confTick (atConfDecoder dir us s)

theorem atTickEnd_transport (dir : Direction) (us : Nat) (hloaded : s.transport.mode ≠ .unloaded) :
    (atTickEnd dir us s).transport = s.transport.atTick dir us := by
  have hpre : (atConfDecoder dir us s).transport = (atPreDecoder dir us s).transport := by
    have hmode : (atPreDecoder dir us s).transport.mode ≠ .unloaded := by
      rw [atPreDecoder_transport]
      exact hloaded
    unfold atConfDecoder
    rw [preTick_of_loaded hmode, (tapeMapArrival_core _ _).transport, decoderTick_transport]
  unfold atTickEnd
  rw [(confTick_rights _).transport, decoderTick_transport, hpre, atPreDecoder_transport]

theorem frameTick_atTickEnd (dir : Direction) (us : Nat) (s : State) :
    frameTick dir us s = tickEnd (atTickEnd dir us s) := frameTick_eq_tickEnd dir us s

/-- The frame tick's POSITION pack was a jump. -/
def tickJumped (dir : Direction) (us : Nat) (s : State) : Prop :=
  (s.tapeMap.pos.expired.handle (tickResult dir us s .pre).packs.position).2 = .jumped

theorem jumps_iff_tickJumped (hloaded : s.transport.mode ≠ .unloaded) :
    (frameTick dir us s).faults.counters.jumps ≠ s.faults.counters.jumps ↔ tickJumped dir us s := by
  rw [(frameTick_ticked dir us hloaded).jumps]
  unfold tickJumped tickResult resultAt
  split
  · next hj => exact ⟨fun _ => hj, fun _ => by bv_omega⟩
  · next hj => exact ⟨fun h => absurd rfl h, fun h => absurd h hj⟩

/-- A move of the tick was clamped (R98), as the tick leaves the tape map. -/
theorem clamped_iff (dir : Direction) (us : Nat) (hloaded : s.transport.mode ≠ .unloaded) :
    ((atTickEnd dir us s).tapeMap.pos.tick (atTickEnd dir us s).transport.dir).2 = true ↔
      (frameTick dir us s).tapeMap.pos.state ≠ .unknown ∧
        ((dir = .forward ∧ 1048575 ≤ (frameTick dir us s).tapeMap.periodValue) ∨
          (dir = .reverse ∧ (frameTick dir us s).tapeMap.periodValue = 0)) := by
  rw [PositionRecord.tick_clamped_iff, frameTick_atTickEnd, tickEnd_tapeMap, PositionRecord.tick_state,
    atTickEnd_transport dir us hloaded]
  have hdir : (s.transport.atTick dir us).dir = dir := rfl
  rw [hdir]

theorem atTickEnd_of_jump (hloaded : s.transport.mode ≠ .unloaded) (hon : s.faults.records.position.mode ≠ .off)
    (hj : tickJumped dir us s) : PositionReported (.positionJump (frameTick dir us s).tapeMap.periodValue)
      (frameTick dir us s).tapeMap.periodValue { s with transport := s.transport.atTick dir us }
      (atTickEnd dir us s) := by
  have hpos := atPreDecoder_pos dir us s
  have htransport := atPreDecoder_transport dir us s
  have hbefore := atPreDecoder_hold dir us s
  have hresult : decoderResult .pre (atPreDecoder dir us s) = tickResult dir us s .pre :=
    decoderResult_atPreDecoder dir us s
  have hperiod : (frameTick dir us s).tapeMap.periodValue =
      (s.tapeMap.pos.expired.handle (tickResult dir us s .pre).packs.position).1.afa := by
    rw [(frameTick_ticked dir us hloaded).periodValue, PositionRecord.arrived_afa, tickResult, resultAt]
  rw [hperiod]
  unfold tickJumped at hj
  unfold atTickEnd atConfDecoder
  generalize atPreDecoder dir us s = w at *
  rw [← hresult, ← hpos] at hj ⊢
  have hon' : w.faults.records.position.mode ≠ .off := by
    rw [show w.faults.records.position = _ from hbefore.get .position (by decide)]
    exact hon
  have hreport := preTick_reported (s := w) (by rw [htransport]; exact hloaded) hon' hj
  have hsame : MonitorHold [.servo, .confirm, .input] { s with transport := s.transport.atTick dir us } w :=
    { hbefore with }
  exact (hreport.after (confTick_hold _) (by decide)).before hsame (by decide) (by rw [htransport])

/-- Without a jump POSITION comes to the end of the tick as it was. -/
theorem atTickEnd_of_no_jump (hloaded : s.transport.mode ≠ .unloaded) (hj : ¬ tickJumped dir us s) :
    MonitorHold [.servo, .confirm, .input, .uncorr, .rate, .clog] s (atTickEnd dir us s) := by
  have hpos := atPreDecoder_pos dir us s
  have htransport := atPreDecoder_transport dir us s
  have hresult : decoderResult .pre (atPreDecoder dir us s) = tickResult dir us s .pre :=
    decoderResult_atPreDecoder dir us s
  refine ((atPreDecoder_hold dir us s).mono (by decide)).trans ?_
  unfold tickJumped at hj
  unfold atTickEnd atConfDecoder
  generalize atPreDecoder dir us s = w at *
  rw [← hresult, ← hpos] at hj
  exact ((preTick_still (by rw [htransport]; exact hloaded) hj).mono (by decide)).trans
    ((confTick_hold _).mono (by decide))

/-- What a tick leaves of POSITION: a jump, else a clamp, is reported; with neither the condition of an older report goes. -/
structure PositionAtTick (jumped clamped : Prop) (s t : State) : Prop where
  jump : jumped → PositionReported (.positionJump t.tapeMap.periodValue) t.tapeMap.periodValue
    { s with transport := t.transport } t
  clamp : ¬ jumped → clamped → PositionReported (.positionRange t.tapeMap.pos.afa) t.tapeMap.pos.afa
    { s with transport := t.transport } t
  gone : ¬ jumped → ¬ clamped → t.faults.positionTag = none ∧ t.faults.records.position =
    if s.faults.positionTag.isSome then s.faults.records.position.under none none else s.faults.records.position

theorem frameTick_position (hloaded : s.transport.mode ≠ .unloaded) (hon : s.faults.records.position.mode ≠ .off)
    (htag : ∀ x, s.faults.positionTag = some x → x ≤ s.transport.tick) :
    PositionAtTick (tickJumped dir us s)
      (((atTickEnd dir us s).tapeMap.pos.tick (atTickEnd dir us s).transport.dir).2 = true) s (frameTick dir us s) := by
  have htransport := atTickEnd_transport dir us hloaded
  have hend : (frameTick dir us s).transport = (atTickEnd dir us s).transport := by
    rw [frameTick_transport, htransport]
  have hmap : (frameTick dir us s).tapeMap.pos.afa =
      ((atTickEnd dir us s).tapeMap.pos.tick (atTickEnd dir us s).transport.dir).1.afa := by
    rw [frameTick_atTickEnd, tickEnd_tapeMap]
  have hmode : (atTickEnd dir us s).transport.mode ≠ .unloaded := by
    rw [htransport]
    exact hloaded
  refine ⟨fun hj => ?_, fun hj hc => ?_, fun hj hc => ?_⟩
  · have hreport := atTickEnd_of_jump (us := us) hloaded hon hj
    rw [frameTick_atTickEnd, ← htransport] at hreport
    rw [hend, frameTick_atTickEnd]
    generalize atTickEnd dir us s = v at *
    by_cases hc : (v.tapeMap.pos.tick v.transport.dir).2 = true
    · have hon' : v.faults.records.position.mode ≠ .off := by
        rw [hreport.record, FaultRecord.under_mode]
        exact hon
      exact hreport.again (tickEnd_reported hmode hon' hc) hon rfl
    · exact hreport.after (tickEnd_still hc hreport.tag) (by decide)
  · have hhold := atTickEnd_of_no_jump (us := us) hloaded hj
    rw [hend, hmap, frameTick_atTickEnd]
    generalize atTickEnd dir us s = v at *
    have hon' : v.faults.records.position.mode ≠ .off := by
      rw [show v.faults.records.position = _ from hhold.get .position (by decide)]
      exact hon
    have hsame : MonitorHold [.servo, .confirm, .input, .uncorr, .rate, .clog] { s with transport := v.transport } v :=
      { hhold with }
    exact (tickEnd_reported hmode hon' hc).before hsame (by decide) rfl
  · have hhold := atTickEnd_of_no_jump (us := us) hloaded hj
    rw [frameTick_atTickEnd]
    generalize atTickEnd dir us s = v at *
    have htag' := hhold.tag (by decide)
    have hrecord : v.faults.records.position = _ := hhold.get .position (by decide)
    have hgone := tickEnd_gone hc fun x hx => by
      rw [htransport]
      exact Nat.lt_succ_of_le (htag x (htag'.symm.trans hx))
    rw [htag', hrecord] at hgone
    exact hgone

end

end Sys2Proof.Machine

namespace Sys2Proof.Machine
open Sys2Proof

-- One theorem at a time: the whole text is also compiled as one, where a thread for each theorem in flight asks for more
-- memory than the check allows.
set_option Elab.async false

section
variable {usable : ReadPath → Track → Option Nat} {s t : State} {k : Tally} {afa : Option Afa}

/-- The four heads in the order of the tick. -/
def allHeads : List (ReadPath × Track) := [(.pre, .a), (.pre, .b), (.conf, .a), (.conf, .b)]

theorem mem_allHeads (p : ReadPath) (tr : Track) : (p, tr) ∈ allHeads := by cases p <;> cases tr <;> decide

theorem HeadsMoved.head (h : HeadsMoved usable allHeads s t) (p : ReadPath) (tr : Track) :
    t.faults.heads.get p tr = (s.faults.heads.get p tr).talliedBy s.faults.records.clog.mode (usable p tr) :=
  h.moved _ (mem_allHeads p tr)

/-- A condition that arises at a head counts among the four. -/
theorem countP_headNew_ne_zero {p : ReadPath} {tr : Track} (hgone : (s.faults.heads.get p tr).present = false)
    (hnew : (t.faults.heads.get p tr).present = true) : allHeads.countP (headNew s t) ≠ 0 := by
  refine Nat.ne_of_gt (List.countP_pos_iff.mpr ⟨(p, tr), mem_allHeads p tr, ?_⟩)
  unfold headNew
  rw [hgone, hnew]
  rfl

theorem pushWindow_eq (w : List Nat) (n : Nat) : pushWindow w n = (w ++ [n]).drop (w.length - 7) := by
  unfold pushWindow
  rw [Nat.add_sub_add_right w.length 1 7]

theorem rateCondition_iff (present : Bool) (high low sum : Nat) :
    rateCondition present high low sum = true ↔ (if present then low else high) < sum := by
  unfold rateCondition
  cases present <;> simp

theorem TickResult.usableAt_of_none {r : TickResult} (h : ∀ c, r ≠ .completion c) (tr : Track) : r.usableAt tr = none := by
  cases r with
  | completion c => exact absurd rfl (h c)
  | subcode k => rfl
  | noFrame => rfl

end

/-- Settles O55: CLEAR FAULTS kind by kind (`clearFaults_split`), a condition by `conditionTo_eq`, and a tick by the heads in
turn (`frameTick_headsMoved`), the tally of its PRE completion (`frameTick_rates`) and the reports on the position
(`frameTick_position`). -/
theorem faultsCleared : Obligations.FaultsCleared := by
  refine ⟨fun p s hfree hs => ⟨_, exec_clearFaults hfree, ?_, fun k hgone => ⟨?_, fun hlatched haction q hq => ?_⟩,
    fun k hk hpresent => clearFaults_get_of_present hk hpresent, clearFaults_clog_of_present hs,
    clearFaults_head s, ⟨_, by rw [respond_port]; rfl, rfl⟩, ?_⟩, fun k c s => ?_, fun dir us s hloaded htag => ?_⟩
  · exact faultsHeld_of_faults rfl (clearFaults_faultsHeld hs)
  · refine (clearFaults_get_of_gone hs hgone).trans ?_
    rw [FaultRecord.cleared, hgone]
  · rw [respond_events]
    exact clearFaults_raises hs hgone hlatched haction q hq
  · have honly := clearFaults_only s
    generalize clearFaults s = t at honly
    rw [honly]
    rfl
  · exact ⟨conditionTo_eq k c s, conditionTo_raises_of_under, conditionTo_ends_of_under⟩
  · have hheads : HeadsMoved _ allHeads s _ := frameTick_headsMoved dir us hloaded
    have hrates := fun c => frameTick_rates (dir := dir) (us := us) (c := c) hloaded
    have hstill := frameTick_rates_of_none (dir := dir) (us := us) hloaded
    have hposition := fun hon => frameTick_position (dir := dir) (us := us) hloaded hon htag
    have hjumped := jumps_iff_tickJumped (dir := dir) (us := us) hloaded
    have hclamped := clamped_iff dir us hloaded
    refine ⟨frameTick dir us s, rfl, ?_⟩
    simp only [← hjumped, hclamped] at hposition
    unfold tickResult at hheads hrates hstill
    generalize frameTick dir us s = t at *
    refine ⟨fun path tr hnone => ?_, fun path c hc tr => ?_, fun _ hnew => ?_, hheads.count,
      fun path tr => hheads.ended (path, tr), fun hnone => ?_, fun c hc => ?_, fun hon => ?_⟩
    · rw [hheads.head, TickResult.usableAt_of_none fun c => by cases path <;> exact hnone c]
      rfl
    · have hresult : resultAt s t.transport t.tapeMap path = .completion c := by cases path <;> exact hc
      rw [hheads.head, hresult]
      cases tr <;> rfl
    · obtain ⟨path, tr, hgone, hpresent⟩ := hnew
      obtain ⟨hseen, ⟨x, -, hdetail, hx⟩, hevent⟩ := hheads.raised (countP_headNew_ne_zero hgone hpresent)
      obtain ⟨hbefore, hafter⟩ := (Bool.and_eq_true _ _).mp hx
      exact ⟨hseen, ⟨x.1, x.2, hdetail, by simpa using hbefore, hafter⟩, hevent⟩
    · have hhold := hstill hnone
      exact ⟨hhold.get .uncorr (by decide), hhold.get .rate (by decide), hhold.window (by decide)⟩
    · obtain ⟨huncorr, hoff, hon⟩ := hrates c hc
      refine ⟨huncorr, hoff, fun hmode => ?_⟩
      obtain ⟨hwindow, hrate⟩ := hon hmode
      simp only [rateCondition_iff] at hrate
      exact ⟨hwindow.trans (pushWindow_eq _ _), hrate⟩
    · obtain ⟨hjump, hclamp, hgone⟩ := hposition hon
      exact ⟨fun hj => ⟨(hjump hj).tag, (hjump hj).record⟩,
        fun hj hc => ⟨(hclamp hj hc).tag, (hclamp hj hc).record⟩, hgone⟩

end Sys2Proof.Machine

namespace Sys2Proof.Machine
open Sys2Proof

-- One theorem at a time: the whole text is also compiled as one, where a thread for each theorem in flight asks for more
-- memory than the check allows.
set_option Elab.async false

/-! ## READ FAULTS, READ COUNTS and the requests of the verify scan (R172 to R174) -/

section
variable {p : Port} {s t : State} {res : ResultCode} {pl : Payload} {body : State → State × ResultCode × Payload}

/-- A request of class OPEN that the port may send, by what its body gives. -/
theorem request_answers (op : Byte) (h : waitsForRise s p = false) (hbody : body s = (t, res, pl)) :
    request p op .openClass body s = respond p op res pl t := by
  rw [request_open op h, hbody]

theorem readFaults_kind (k : FaultKind) (s : State) :
    readFaults (BitVec.ofNat 8 (codeOfFaultKind k)) s = (s, .ok, faultView s k) := by
  have hcode : BitVec.ofNat 8 (codeOfFaultKind k) ≠ 0 := by cases k <;> decide
  unfold readFaults
  rw [if_neg hcode, faultKindOfCode_code]

theorem readFaults_range {c : Byte} (h : 7 < c.toNat) (s : State) : readFaults c s = (s, .range, .zeros) := by
  have hcode : c ≠ 0 := fun h0 => by
    rw [h0] at h
    exact absurd h (by decide)
  unfold readFaults
  rw [if_neg hcode, faultKindOfCode_eq_none (.inr h)]

/-- The state in which READ COUNTS reads: the port's snapshot taken when it asks for one. -/
def countsRead (p : Port) (snap : Bool) (s : State) : State := if snap then takeSnapshot p s else s

theorem readCounts_range {first : Byte} (h : 22 < first.toNat) (p : Port) (snap : Bool) (s : State) :
    readCounts p first snap s = (s, .range, .zeros) := if_neg (Nat.not_lt.mpr h)

theorem readCounts_ok {first : Byte} (h : first.toNat ≤ 22) (p : Port) (snap : Bool) (s : State) :
    readCounts p first snap s = (countsRead p snap s, .ok,
      let c := (snapshotOf (countsRead p snap s) p).list
      .counters (c.getD first.toNat 0) (c.getD (first.toNat + 1) 0) (c.getD (first.toNat + 2) 0)) :=
  if_pos (Nat.lt_succ_of_le h)

/-! ### VERIFY START -/

variable {source thr : Byte} {start : Option (BitVec 20)} {stop : BitVec 20} {loop : Bool}

/-- What VERIFY START refuses with RANGE (R174). -/
def verifyStartBad (source : Byte) (start : Option (BitVec 20)) (stop : BitVec 20) (loop : Bool) : Prop :=
  1 < source.toNat ∨ (∃ a, start = some a ∧ stop.toNat < a.toNat) ∨ (loop = true ∧ start = none)

theorem pathOfCode_of_gt (h : 1 < source.toNat) : pathOfCode source = none := by
  unfold pathOfCode
  split
  · omega
  · omega
  · rfl

theorem pathOfCode_of_le (h : ¬ 1 < source.toNat) : pathOfCode source = some (if source = 0 then .pre else .conf) := by
  rcases Nat.le_one_iff_eq_zero_or_eq_one.mp (Nat.not_lt.mp h) with h | h
  · rw [show source = 0 from BitVec.eq_of_toNat_eq h]
    rfl
  · rw [show source = 1 from BitVec.eq_of_toNat_eq h]
    rfl

/-- The AFAs and the loop that VERIFY START refuses. -/
theorem verifyStart_addresses_iff : ((start.any fun a => decide (stop.toNat < a.toNat)) || (loop && start.isNone)) = true ↔
    (∃ a, start = some a ∧ stop.toNat < a.toNat) ∨ (loop = true ∧ start = none) := by
  cases start <;> simp

/-- The record of a scan that VERIFY START begins (R174). -/
def verifyBegun (source : Byte) (start : Option (BitVec 20)) (stop : BitVec 20) (thr : Byte) (loop : Bool) : VerifyRecord :=
  { state := if start.isSome then .waiting else .scanning, source := if source = 0 then .pre else .conf
    start := start.map fun a => a.toNat, stop := stop.toNat, threshold := if 112 < thr.toNat then 112 else thr.toNat
    loop := loop, checked := 0, passes := 0, lastScan := none, prevScan := none, failure := none, stopCause := none }

theorem verifyStart_busy (h : scanRuns s.faults.verify = true) :
    verifyStart source start stop thr loop s = (s, .busy, .zeros) := if_pos h

theorem verifyStart_range (hidle : ¬ scanRuns s.faults.verify = true) (hbad : verifyStartBad source start stop loop) :
    verifyStart source start stop thr loop s = (s, .range, .zeros) := by
  unfold verifyStart
  rw [if_neg hidle]
  by_cases hsource : 1 < source.toNat
  · rw [pathOfCode_of_gt hsource]
  · rw [pathOfCode_of_le hsource]
    exact if_pos (verifyStart_addresses_iff.mpr (hbad.resolve_left hsource))

theorem verifyStart_of_good (hidle : ¬ scanRuns s.faults.verify = true) (hgood : ¬ verifyStartBad source start stop loop) :
    verifyStart source start stop thr loop s =
      if (if source = 0 then ReadPath.pre else .conf) = .conf ∧ s.transport.mode ≠ .record then (s, .state, .zeros)
      else if 112 < thr.toNat then
        (setVerify (verifyBegun source start stop thr loop) s, .clamped,
          .verifyClamped (verifyBegun source start stop thr loop).state (verifyBegun source start stop thr loop).threshold)
      else (setVerify (verifyBegun source start stop thr loop) s, .ok,
        .verifyState (verifyBegun source start stop thr loop).state) := by
  obtain ⟨hsource, haddresses⟩ := not_or.mp hgood
  have hthreshold : min 112 thr.toNat = if 112 < thr.toNat then 112 else thr.toNat := by
    split <;> omega
  unfold verifyStart verifyBegun
  rw [if_neg hidle, pathOfCode_of_le hsource]
  simp only [mt verifyStart_addresses_iff.mp haddresses, hthreshold, if_false, Bool.false_eq_true]

/-- A scan of CONF begins in RECORD alone (R174). -/
theorem verifyStart_state (hidle : ¬ scanRuns s.faults.verify = true) (hgood : ¬ verifyStartBad source start stop loop)
    (hsource : source = 1) (hmode : s.transport.mode ≠ .record) :
    verifyStart source start stop thr loop s = (s, .state, .zeros) := by
  rw [verifyStart_of_good hidle hgood, if_pos ⟨by rw [hsource]; rfl, hmode⟩]

theorem verifyStart_begun (hidle : ¬ scanRuns s.faults.verify = true) (hgood : ¬ verifyStartBad source start stop loop)
    (hmay : source = 0 ∨ s.transport.mode = .record) :
    verifyStart source start stop thr loop s =
      if 112 < thr.toNat then
        (setVerify (verifyBegun source start stop thr loop) s, .clamped,
          .verifyClamped (verifyBegun source start stop thr loop).state (verifyBegun source start stop thr loop).threshold)
      else (setVerify (verifyBegun source start stop thr loop) s, .ok,
        .verifyState (verifyBegun source start stop thr loop).state) := by
  rw [verifyStart_of_good hidle hgood]
  refine if_neg fun ⟨hconf, hmode⟩ => ?_
  rcases hmay with rfl | hrecord
  · cases hconf
  · exact hmode hrecord

theorem payloadBits_verifyClamped (st : VerifyState) :
    (payloadBits (.verifyClamped st 112)).toNat = codeOfVerify st * 2 ^ 88 + 112 * 2 ^ 80 := by
  cases st <;> rfl

/-! ### VERIFY STOP and VERIFY READ -/

theorem verifyStop_runs (h : scanRuns s.faults.verify = true) :
    verifyStop s = (stopScan .request s, .ok, .verifyState .stopped) := by
  unfold verifyStop
  simp only [h, if_true]
  rfl

theorem verifyStop_idle (h : ¬ scanRuns s.faults.verify = true) :
    verifyStop s = (s, .ok, .verifyState s.faults.verify.state) := by
  unfold verifyStop
  simp only [h, if_false, Bool.false_eq_true]

theorem verifyRead_range {page : Byte} (h : 1 < page.toNat) (s : State) : verifyRead page s = (s, .range, .zeros) := by
  have hzero : page ≠ 0 := fun h0 => by
    rw [h0] at h
    exact absurd h (by decide)
  have hone : page ≠ 1 := fun h1 => by
    rw [h1] at h
    exact absurd h (by decide)
  unfold verifyRead
  simp only [if_neg hzero, if_neg hone]

end

end Sys2Proof.Machine

namespace Sys2Proof.Machine
open Sys2Proof

-- One theorem at a time: the whole text is also compiled as one, where a thread for each theorem in flight asks for more
-- memory than the check allows.
set_option Elab.async false

/-! ## A step of the verify scan (R175, R176) -/

/-- The completion is of the scan's source, and the scan runs or begins with it. -/
def VerifyRecord.steps (v : VerifyRecord) (path : ReadPath) (scan : Option Afa) : Prop :=
  v.source = path ∧ (v.state = .scanning ∨ (v.state = .waiting ∧ v.start.isSome = true ∧ scan = v.start))

/-- The position of the checked frame breaks the succession: a jump for PRE, an AFA that is not the next for CONF. -/
def VerifyRecord.broken (v : VerifyRecord) (scan : Option Afa) (jumped : Bool) : Prop :=
  match v.source with
  | .pre => jumped = true
  | .conf => ∃ a b, v.prevScan = some a ∧ scan = some b ∧ b ≠ a + 1

/-- The record after a checked frame, before what its outcome adds. -/
def VerifyRecord.next (v : VerifyRecord) (scan : Option Afa) : VerifyRecord :=
  { v with state := .scanning, checked := min 65535 (v.checked + 1), prevScan := scan }

/-- The record after a frame that fails. -/
def VerifyRecord.failed (v : VerifyRecord) (scan : Option Afa) (k : Tally) (c : VerifyCause) : VerifyRecord :=
  { v.next scan with state := .fail, failure := some (verifyFailureOf c scan k) }

section
variable {path : ReadPath} {scan : Option Afa} {jumped : Bool} {k : Tally} {c : VerifyCause} {a : Afa} {s : State}

theorem verifyStep_of_not (h : ¬ s.faults.verify.steps path scan) : verifyStep path scan jumped k s = s := by
  unfold verifyStep
  simp only
  split
  · rfl
  next hsource =>
    have hidle := not_and.mp h (not_not.mp hsource)
    split
    · next hwaiting => exact if_neg fun hstart => hidle (.inr ⟨hwaiting, hstart⟩)
    · next hscanning => exact absurd (.inl hscanning) hidle
    all_goals rfl

theorem verifyStep_of_steps (h : s.faults.verify.steps path scan) :
    verifyStep path scan jumped k s = verifyCheck scan jumped k s := by
  obtain ⟨hsource, hscanning | ⟨hwaiting, hstart⟩⟩ := h
  · unfold verifyStep
    simp only [hsource, hscanning, ne_eq, not_true, if_false]
  · unfold verifyStep
    simp only [hsource, hwaiting, ne_eq, not_true, if_false]
    exact if_pos hstart

/-- The record as the check takes it: the frame is counted. -/
def VerifyRecord.counted (v : VerifyRecord) : VerifyRecord :=
  { v with state := .scanning, checked := min 65535 (v.checked + 1) }

/-- The first of the three causes, in their order (R176). -/
theorem verifyCause_of_broken {v : VerifyRecord} (h : v.broken scan jumped) :
    verifyCause v.counted scan jumped k = some .position := by
  unfold VerifyRecord.broken at h
  unfold verifyCause VerifyRecord.counted
  cases hsource : v.source <;> rw [hsource] at h <;> simp only
  · rw [if_pos h]
  · obtain ⟨x, y, hprev, rfl, hne⟩ := h
    rw [if_pos (by simp [scanBreaks, hprev, hne])]

theorem verifyCause_of_whole {v : VerifyRecord} (h : ¬ v.broken scan jumped) : verifyCause v.counted scan jumped k =
    if k.uncorrA + k.uncorrB ≠ 0 then some .columns
    else if v.threshold < k.unusable then some .blocks
    else none := by
  unfold VerifyRecord.broken at h
  unfold verifyCause VerifyRecord.counted
  cases hsource : v.source <;> rw [hsource] at h <;> simp only
  · rw [if_neg h]
  · refine if_neg fun hbreaks => h ?_
    cases hprev : v.prevScan with
    | none => simp [scanBreaks, hprev] at hbreaks
    | some x =>
      cases scan with
      | none => simp [scanBreaks] at hbreaks
      | some y => exact ⟨x, y, rfl, rfl, by simpa [scanBreaks, hprev] using hbreaks⟩

theorem verifyCheck_fails (h : verifyCause s.faults.verify.counted scan jumped k = some c) :
    verifyCheck scan jumped k s = raiseEvent .verifyDone (setVerify (s.faults.verify.failed scan k c) s) := by
  unfold verifyCheck
  rw [VerifyRecord.counted] at h
  simp only [h]
  rfl

theorem verifyCheck_unplaced (h : verifyCause s.faults.verify.counted none jumped k = none) :
    verifyCheck none jumped k s = setVerify (s.faults.verify.next none) s := by
  unfold verifyCheck
  rw [VerifyRecord.counted] at h
  simp only [h]
  rfl

/-- The record of a passed frame with its AFA. -/
def VerifyRecord.placed (v : VerifyRecord) (a : Afa) : VerifyRecord := { v.next (some a) with lastScan := some a }

theorem verifyCheck_placed (h : verifyCause s.faults.verify.counted (some a) jumped k = none) :
    verifyCheck (some a) jumped k s =
      if a < s.faults.verify.stop then setVerify (s.faults.verify.placed a) s
      else if s.faults.verify.loop then setVerify { s.faults.verify.placed a with
        state := .waiting, passes := min 255 (s.faults.verify.passes + 1), lastScan := none, prevScan := none } s
      else raiseEvent .verifyDone (setVerify { s.faults.verify.placed a with state := .pass } s) := by
  unfold verifyCheck
  rw [VerifyRecord.counted] at h
  simp only [h]
  rfl

theorem scanDone_events (v : VerifyRecord) (s : State) (q : Port)
    (hq : EventSet.has (s.ports.get q).report .verifyDone = true) :
    EventSet.has ((raiseEvent .verifyDone (setVerify v s)).ports.get q).events .verifyDone = true :=
  raised_has (SeqFrame.refl (setVerify v s)) .verifyDone q hq

/-- A scan that a check ends tells so. -/
theorem verifyCheck_ends (h : (verifyCheck scan jumped k s).faults.verify.state = .fail ∨
      (verifyCheck scan jumped k s).faults.verify.state = .pass) (q : Port)
    (hq : EventSet.has (s.ports.get q).report .verifyDone = true) :
    EventSet.has ((verifyCheck scan jumped k s).ports.get q).events .verifyDone = true := by
  have hrunning : ∀ v : VerifyRecord, v.state = .scanning ∨ v.state = .waiting →
      ¬ ((setVerify v s).faults.verify.state = .fail ∨ (setVerify v s).faults.verify.state = .pass) := fun v hv => by
    show ¬ (v.state = .fail ∨ v.state = .pass)
    rcases hv with hv | hv <;> rw [hv] <;> decide
  cases hcause : verifyCause s.faults.verify.counted scan jumped k with
  | some c =>
    rw [verifyCheck_fails hcause]
    exact scanDone_events _ s q hq
  | none =>
    cases scan with
    | none =>
      rw [verifyCheck_unplaced hcause] at h
      exact absurd h (hrunning _ (.inl rfl))
    | some a =>
      rw [verifyCheck_placed hcause] at h ⊢
      split at h
      · exact absurd h (hrunning _ (.inl rfl))
      · next hend =>
        split at h
        · exact absurd h (hrunning _ (.inr rfl))
        · next hloop =>
          rw [if_neg hend, if_neg hloop]
          exact scanDone_events _ s q hq

/-- A step goes by the verify record alone. -/
theorem verifyStep_congr {t : State} (h : t.faults.verify = s.faults.verify) :
    (verifyStep path scan jumped k t).faults.verify = (verifyStep path scan jumped k s).faults.verify := by
  by_cases hsteps : s.faults.verify.steps path scan
  · rw [verifyStep_of_steps hsteps, verifyStep_of_steps (h ▸ hsteps)]
    cases hcause : verifyCause s.faults.verify.counted scan jumped k with
    | some c =>
      rw [verifyCheck_fails hcause, verifyCheck_fails (h ▸ hcause), h]
      rfl
    | none =>
      cases scan with
      | none =>
        rw [verifyCheck_unplaced hcause, verifyCheck_unplaced (h ▸ hcause), h]
        rfl
      | some a =>
        rw [verifyCheck_placed hcause, verifyCheck_placed (h ▸ hcause), h]
        split
        · rfl
        · split <;> rfl
  · rw [verifyStep_of_not hsteps, verifyStep_of_not (h ▸ hsteps), h]

end

end Sys2Proof.Machine

namespace Sys2Proof.Machine
open Sys2Proof

-- One theorem at a time: the whole text is also compiled as one, where a thread for each theorem in flight asks for more
-- memory than the check allows.
set_option Elab.async false

/-! ## The verify scan through a frame tick (R175, R177) -/

/-- The verify record stands. -/
def SameVerify (s t : State) : Prop := t.faults.verify = s.faults.verify

section
variable {s t u : State}

theorem SameVerify.trans (h : SameVerify s t) (g : SameVerify t u) : SameVerify s u := Eq.trans g h

theorem SeqFrame.sameVerify (h : SeqFrame s t) : SameVerify s t := h.verify

theorem ClogOnly.sameVerify (h : ClogOnly s t) : SameVerify s t := by
  unfold ClogOnly at h
  rw [h]
  rfl

theorem buildAtTick_sameVerify (s : State) : SameVerify s (buildAtTick s) := by
  unfold buildAtTick
  split <;> rfl

theorem decoderTick_sameVerify (path : ReadPath) (r : TickResult) (s : State) : SameVerify s (decoderTick path r s) := by
  cases path <;> cases r <;> rfl

theorem positionReport_sameVerify (d : FaultDetail) (s : State) : SameVerify s (positionReport d s) :=
  (positionReport_seqFrame d s).sameVerify

theorem arrivalMoved_sameVerify (r : TickResult) (s : State) : SameVerify s (arrivalMoved r s) := by
  have hmoved : SameVerify s (s.withPosition (s.tapeMap.pos.handle r.packs.position).1) := rfl
  have hcounted : ∀ v, SameVerify v (jumpCounted v) := fun _ => rfl
  unfold arrivalMoved
  simp only
  split
  · rw [reportJump_eq]
    exact hmoved.trans <| (hcounted _).trans <| (positionReport_sameVerify _ _).trans (seqJump_seqFrame _).sameVerify
  · exact hmoved

theorem beforeRightsPack_sameVerify (r : TickResult) (s : State) : SameVerify s (beforeRightsPack r s) := by
  have hrest : ∀ v packs b fp, SameVerify v (tapeMapRest packs b fp v) := fun v packs b fp => by
    rw [tapeMapRest_only packs b fp v]
    rfl
  have hkept : ∀ v fp st, SameVerify v (keepOldFrame r fp st v) := fun _ _ _ => rfl
  rw [beforeRightsPack_eq]
  exact (arrivalMoved_sameVerify r s).trans ((hrest _ _ _ _).trans (hkept _ _ _))

theorem takeRightsPack_sameVerify (k : Option RightsPack) (s : State) : SameVerify s (takeRightsPack k s) := by
  rw [takeRightsPack_only k s]
  rfl

theorem preTally_sameVerify (r : TickResult) (s : State) : SameVerify s (preTally r s) := by
  have hrate : ∀ k v, SameVerify v (rateTally k v) := fun k v => by
    by_cases hoff : v.faults.records.rate.mode = .off
    · rw [rateTally_off hoff]
      rfl
    · rw [rateTally_on hoff]
      exact SameVerify.trans (t := rateJoined k v) rfl (evaluate_seqFrame _ _ _).sameVerify
  unfold preTally
  split
  · exact (uncorrTally_seqFrame _ s).sameVerify.trans ((hrate _ _).trans (clogTally_only _ _ _).sameVerify)
  · rfl
  · rfl

theorem seqFramePosition_sameVerify (fp : Option Afa) (st : PosState) (d : Bool) (s : State) :
    SameVerify s (seqFramePosition fp st d s) := by
  have hkept : SameVerify s (positionKept fp s) := rfl
  rw [seqFramePosition_eq]
  split
  · exact hkept.trans (armedPosition_seqFrame _ _ _ _).sameVerify
  · exact hkept.trans (recordingPosition_seqFrame _ _).sameVerify
  all_goals exact hkept

theorem confirmTally_sameVerify (k : Tally) (s : State) : SameVerify s (confirmTally k s) := by
  have hnote : SameVerify s (noteConf s) := by
    unfold noteConf
    split <;> rfl
  have hremoved : ∀ v l, SameVerify v { v with formatter := { v.formatter with written := l } } := fun _ _ => rfl
  unfold confirmTally
  simp only
  refine hnote.trans ?_
  repeat' split
  · rfl
  · exact hremoved _ _
  · exact (hremoved _ _).trans (conditionTo_seqFrame _ _ _).sameVerify
  · exact (hremoved _ _).trans (evaluate_seqFrame _ _ _).sameVerify

theorem tickEnd_sameVerify (s : State) : SameVerify s (tickEnd s) := by
  have hmap : SameVerify s (tapeMapTick s) := by
    have hmoved : SameVerify s (mapMoved s) := rfl
    rw [tapeMapTick_eq]
    split
    · exact hmoved.trans (positionReport_sameVerify _ _)
    · exact hmoved
  have hposition : ∀ v, SameVerify v (positionTick v) := fun v => by
    have htag : ∀ tag, SameVerify v { v with faults := { v.faults with positionTag := tag } } := fun _ => rfl
    unfold positionTick
    repeat' split
    · exact (htag _).trans (conditionTo_seqFrame _ _ _).sameVerify
    · rfl
    · rfl
  have hbuild : ∀ v, SameVerify v (buildStart v) := fun v => by
    have hstop : ∀ sp kind d, SameVerify v (buildStop sp kind d v) := fun sp kind d => by
      have hcancelled : SameVerify v (openCancelled v) := rfl
      unfold buildStop
      split
      · exact hcancelled.trans (seqRefused_seqFrame _ _ _).sameVerify
      · exact (closeRequest_seqFrame (writtenFrame v) v).sameVerify.trans (seqLaterStop_seqFrame _ _ _).sameVerify
    unfold buildStart
    simp only
    repeat' split
    · rfl
    · exact hstop _ _ _
    · exact hstop _ _ _
    · rfl
  have hsending : ∀ v, SameVerify v (startSending v) := fun v => by
    rw [startSending_only]
    rfl
  have hrest : ∀ v, SameVerify v (tickClock (positionTick (tickBlend v))) := fun v => hposition (tickBlend v)
  exact hmap.trans ((hrest _).trans ((hbuild _).trans (hsending _)))

/-! ### The range test -/

/-- A change at the transport interface stops a scan in SCANNING that leaves decode range, or for CONF RECORD (R177). -/
def verifyLeaves (x : Transport) (s : State) : Prop :=
  (decodeRange x = true ∧ decodeRange s.transport = false) ∨
    (s.faults.verify.source = .conf ∧ x.mode = .record ∧ s.transport.mode ≠ .record)

theorem afterTransport_verify (x : Transport) (s : State) :
    (afterTransport x s).faults.verify = (verifyRange x s).faults.verify := (afterTransport_frame x s).verify

theorem verifyRange_stops {x : Transport} (hscanning : s.faults.verify.state = .scanning) (h : verifyLeaves x s) :
    verifyRange x s = stopScan .range s := if_pos ⟨hscanning, h⟩

theorem verifyRange_stands {x : Transport} (h : ¬ verifyLeaves x s) : verifyRange x s = s := if_neg fun hc => h hc.2

/-! ### The decoders' steps -/

theorem verifyResult_congr (path : ReadPath) (r : TickResult) (scan : Option Afa) (j : Bool) (h : SameVerify s t) :
    (verifyResult path r scan j t).faults.verify = (verifyResult path r scan j s).faults.verify := by
  cases r with
  | completion c => exact verifyStep_congr h
  | subcode k => exact h
  | noFrame => exact h

theorem preTick_verify (hloaded : s.transport.mode ≠ .unloaded) : (preTick s).faults.verify =
    (verifyResult .pre (decoderResult .pre s) (arrivalPosition (decoderResult .pre s) s)
      ((s.tapeMap.pos.handle (decoderResult .pre s).packs.position).2 == .jumped) s).faults.verify := by
  rw [preTick_of_loaded hloaded, tapeMapArrival_eq]
  generalize decoderResult .pre s = r
  have hdecoder := decoderTick_sameVerify .pre r s
  have hmap := decoderTick_tapeMap .pre r s
  generalize decoderTick .pre r s = v at *
  have hfront := hdecoder.trans <| (beforeRightsPack_sameVerify r v).trans <| (takeRightsPack_sameVerify r.packs.rights _).trans
    (preTally_sameVerify r _)
  unfold arrivalPosition
  rw [← hmap]
  unfold afterRightsPack
  exact verifyResult_congr .pre r _ _ (hfront.trans (seqFramePosition_sameVerify _ _ _ _))

theorem confTick_verify {c : Completion} (h : decoderResult .conf s = .completion c) : (confTick s).faults.verify =
    (verifyStep .conf (confScan c (matchedEntry c.tally s)) false c.tally s).faults.verify := by
  have hdecoder := decoderTick_sameVerify .conf (.completion c) s
  have hwritten : matchedEntry c.tally (decoderTick .conf (.completion c) s) = matchedEntry c.tally s := by
    unfold matchedEntry
    rw [(decoderTick_confHold .conf (.completion c) s).written]
  rw [confTick_eq, h]
  show (verifyStep _ (confScan c (matchedEntry c.tally (decoderTick .conf (.completion c) s))) _ _ _).faults.verify = _
  rw [hwritten]
  exact verifyStep_congr
    (hdecoder.trans ((confirmTally_sameVerify _ _).trans (clogTally_only _ _ _).sameVerify))

/-- A scan of another source, or one that does not run, is left alone. -/
theorem verifyStep_apart {path : ReadPath} {scan : Option Afa} {j : Bool} {k : Tally}
    (h : s.faults.verify.source ≠ path ∨ s.faults.verify.state = .stopped) : verifyStep path scan j k s = s := by
  refine verifyStep_of_not fun ⟨hsource, hstate⟩ => ?_
  rcases h with h | h
  · exact h hsource
  · rw [h] at hstate
    exact hstate.elim (by decide) fun hw => absurd hw.1 (by decide)

theorem preTick_verify_apart (hloaded : s.transport.mode ≠ .unloaded)
    (h : s.faults.verify.source ≠ .pre ∨ s.faults.verify.state = .stopped) : SameVerify s (preTick s) := by
  unfold SameVerify
  rw [preTick_verify hloaded]
  unfold verifyResult
  split
  · rw [verifyStep_apart h]
  · rfl
  · rfl

theorem confTick_verify_apart (h : s.faults.verify.source ≠ .conf ∨ s.faults.verify.state = .stopped) :
    SameVerify s (confTick s) := by
  have hdecoder := decoderTick_sameVerify .conf (decoderResult .conf s) s
  cases hresult : decoderResult .conf s with
  | completion c =>
    unfold SameVerify
    rw [confTick_verify hresult, verifyStep_apart h]
  | subcode k =>
    rw [confTick_eq, hresult]
    exact decoderTick_sameVerify .conf (.subcode k) s
  | noFrame =>
    rw [confTick_eq, hresult]
    exact decoderTick_sameVerify .conf .noFrame s

end

end Sys2Proof.Machine

namespace Sys2Proof.Machine
open Sys2Proof

-- One theorem at a time: the whole text is also compiled as one, where a thread for each theorem in flight asks for more
-- memory than the check allows.
set_option Elab.async false

section
variable {s t : State} {dir : Direction} {us : Nat} {c : Completion}

/-! ## The verify scan at a whole tick (R175, R177) -/

/-- A step never changes the source of the scan. -/
theorem verifyStep_source (path : ReadPath) (scan : Option Afa) (j : Bool) (k : Tally) (s : State) :
    (verifyStep path scan j k s).faults.verify.source = s.faults.verify.source := by
  unfold verifyStep verifyCheck
  simp only
  repeat' split
  all_goals rfl

theorem atPreDecoder_verify (hb : beforeTick s = s) : (atPreDecoder dir us s).faults.verify =
    (verifyRange s.transport (s.withTransport (s.transport.atTick dir us))).faults.verify := by
  have hrights : ∀ v, SameVerify v (tickRights v) := fun _ => rfl
  unfold atPreDecoder tickFront
  rw [hb]
  exact Eq.trans ((hrights _).trans (buildAtTick_sameVerify _)) (afterTransport_verify _ _)

theorem atPreDecoder_sameVerify (hb : beforeTick s = s) (hrange : decodeRange (s.transport.atTick dir us) = true) :
    SameVerify s (atPreDecoder dir us s) := by
  unfold SameVerify
  rw [atPreDecoder_verify hb, verifyRange_stands]
  · rfl
  · rintro (⟨-, hleft⟩ | ⟨-, hrecord, hleft⟩)
    · exact absurd (hrange.symm.trans hleft) (by decide)
    · exact hleft hrecord

theorem atPreDecoder_stopped (hb : beforeTick s = s) (hrange : ¬ decodeRange (s.transport.atTick dir us) = true)
    (hscanning : s.faults.verify.state = .scanning) (hold : decodeRange s.transport = true) :
    (atPreDecoder dir us s).faults.verify = { s.faults.verify with state := .stopped, stopCause := some .range } := by
  have hleaves : verifyLeaves s.transport (s.withTransport (s.transport.atTick dir us)) :=
    .inl ⟨hold, Bool.eq_false_iff.mpr hrange⟩
  rw [atPreDecoder_verify hb, verifyRange_stops (s := s.withTransport (s.transport.atTick dir us)) hscanning hleaves]
  rfl

/-- A tick out of decode range stops a scan in SCANNING, and no step follows. -/
theorem frameTick_stopped (hloaded : s.transport.mode ≠ .unloaded) (hb : beforeTick s = s)
    (hrange : ¬ decodeRange (s.transport.atTick dir us) = true) (hscanning : s.faults.verify.state = .scanning)
    (hold : decodeRange s.transport = true) : (frameTick dir us s).faults.verify =
      { s.faults.verify with state := .stopped, stopCause := some .range } := by
  have hstopped := atPreDecoder_stopped hb hrange hscanning hold
  have htransport := atPreDecoder_transport dir us s
  rw [frameTick_eq_tickEnd]
  unfold atConfDecoder
  generalize atPreDecoder dir us s = w at *
  have hpre : SameVerify w (preTick w) :=
    preTick_verify_apart (by rw [htransport]; exact hloaded) (.inr (by rw [hstopped]))
  have hconf : SameVerify (preTick w) (confTick (preTick w)) :=
    confTick_verify_apart (.inr (by rw [hpre, hstopped]))
  exact Eq.trans (hpre.trans (hconf.trans (tickEnd_sameVerify _))) hstopped

theorem frameTick_preStep (hloaded : s.transport.mode ≠ .unloaded) (hb : beforeTick s = s)
    (hrange : decodeRange (s.transport.atTick dir us) = true) (hsource : s.faults.verify.source = .pre)
    (hresult : tickResult dir us s .pre = .completion c) : (frameTick dir us s).faults.verify =
      (verifyStep .pre (frameTick dir us s).seq.lastPosition
        ((s.tapeMap.pos.expired.handle (tickResult dir us s .pre).packs.position).2 == .jumped) c.tally s).faults.verify := by
  have hsame := atPreDecoder_sameVerify hb hrange
  have htransport := atPreDecoder_transport dir us s
  have hpos := atPreDecoder_pos dir us s
  have hpre : decoderResult .pre (atPreDecoder dir us s) = tickResult dir us s .pre := decoderResult_atPreDecoder dir us s
  have hlast : (frameTick dir us s).seq.lastPosition = arrivalPosition (tickResult dir us s .pre) (atPreDecoder dir us s) := by
    rw [(frameTick_ticked dir us hloaded).lastPosition, ← hpos, tickResult, resultAt]
    rfl
  rw [hlast, frameTick_eq_tickEnd]
  unfold atConfDecoder
  generalize atPreDecoder dir us s = w at *
  have harrival := preTick_verify (s := w) (by rw [htransport]; exact hloaded)
  rw [hpre, hpos, hresult] at harrival
  have harrival : (preTick w).faults.verify = (verifyStep .pre _ _ c.tally w).faults.verify := harrival
  have hconf : SameVerify (preTick w) (confTick (preTick w)) :=
    confTick_verify_apart (.inl (by rw [harrival, verifyStep_source, hsame, hsource]; decide))
  rw [hresult]
  exact (Eq.trans (hconf.trans (tickEnd_sameVerify _)) harrival).trans (verifyStep_congr hsame)

theorem frameTick_confStep (hloaded : s.transport.mode ≠ .unloaded) (hb : beforeTick s = s)
    (hrange : decodeRange (s.transport.atTick dir us) = true) (hsource : s.faults.verify.source = .conf)
    (hresult : tickResult dir us s .conf = .completion c) : (frameTick dir us s).faults.verify =
      (verifyStep .conf (confScan c (matchedEntry c.tally s)) false c.tally s).faults.verify := by
  have hsame := atPreDecoder_sameVerify hb hrange
  have htransport := atPreDecoder_transport dir us s
  have hconf : decoderResult .conf (atConfDecoder dir us s) = tickResult dir us s .conf := decoderResult_atConf dir us s
  have hwritten : matchedEntry c.tally (atConfDecoder dir us s) = matchedEntry c.tally s := by
    unfold matchedEntry
    rw [(atConfDecoder_confHold hb).written]
  have hkept : SameVerify s (atConfDecoder dir us s) :=
    hsame.trans (preTick_verify_apart (by rw [htransport]; exact hloaded) (.inl (by rw [hsame, hsource]; decide)))
  rw [frameTick_eq_tickEnd, tickEnd_sameVerify, confTick_verify (hconf.trans hresult), hwritten]
  exact verifyStep_congr hkept

/-! ## A stall and a mode report (R177) -/

theorem stallTimeout_stopped (hscanning : s.faults.verify.state = .scanning) (hold : decodeRange s.transport = true) :
    (stallTimeout s).faults.verify = { s.faults.verify with state := .stopped, stopCause := some .range } ∧
      ∀ q, EventSet.has (s.ports.get q).report .verifyDone = true →
        EventSet.has ((stallTimeout s).ports.get q).events .verifyDone = true := by
  have hstalled : decodeRange s.transport.atStall = false := Bool.eq_false_iff.mpr fun hrange => by
    obtain ⟨-, hrunning, -⟩ := (decodeRange_iff _).mp hrange
    cases hrunning
  have hstopped : verifyRange s.transport (s.withTransport s.transport.atStall) =
      stopScan .range (s.withTransport s.transport.atStall) :=
    verifyRange_stops (s := s.withTransport s.transport.atStall) hscanning (.inl ⟨hold, hstalled⟩)
  have hframe := afterTransport_frame s.transport (s.withTransport s.transport.atStall)
  rw [hstopped] at hframe
  exact ⟨hframe.verify, fun q hq => (hframe.ports q).grows _ (scanDone_events _ (s.withTransport s.transport.atStall) q hq)⟩

/-- The range test at a mode report that keeps the tape: out of PLAY and RECORD, or for CONF out of RECORD. -/
theorem verifyLeaves_mode (m : Mode) (lock prot : Bool) (s : State) :
    verifyLeaves s.transport (takeMode m lock prot s) ↔
      (decodeRange s.transport = true ∧ m ≠ .play ∧ m ≠ .record) ∨
        (s.faults.verify.source = .conf ∧ s.transport.mode = .record ∧ m ≠ .record) := by
  have hsource : (takeMode m lock prot s).faults.verify.source = s.faults.verify.source := by
    rw [takeMode_only]
  have hrange : decodeRange s.transport = true →
      (decodeRange { s.transport with mode := m, lock := lock, prot := prot } = false ↔ m ≠ .play ∧ m ≠ .record) :=
    fun hold => by
      obtain ⟨-, hrest⟩ := (decodeRange_iff _).mp hold
      rw [← Bool.not_eq_true, decodeRange_iff, ← not_or]
      exact not_congr ⟨And.left, fun hm => ⟨hm, hrest⟩⟩
  unfold verifyLeaves
  rw [takeMode_transport, hsource]
  exact or_congr_left (and_congr_right hrange)

theorem modeChange_verify {m : Mode} {lock prot : Bool} (hscanning : s.faults.verify.state = .scanning)
    (hloaded : m ≠ .unloaded) :
    (verifyLeaves s.transport (takeMode m lock prot s) → (modeChange m lock prot s).faults.verify =
      { s.faults.verify with state := .stopped, stopCause := some .range }) ∧
    (¬ verifyLeaves s.transport (takeMode m lock prot s) →
      (modeChange m lock prot s).faults.verify = s.faults.verify) := by
  have htaken : (takeMode m lock prot s).faults.verify = s.faults.verify := by
    rw [takeMode_only]
  rw [modeChange_loaded lock prot (.inl hloaded), afterTransport_verify]
  refine ⟨fun h => ?_, fun h => ?_⟩
  · rw [verifyRange_stops (htaken ▸ hscanning) h]
    show { (takeMode m lock prot s).faults.verify with state := .stopped, stopCause := some .range } = _
    rw [htaken]
  · rw [verifyRange_stands h, htaken]

end

end Sys2Proof.Machine

namespace Sys2Proof.Machine
open Sys2Proof

-- One theorem at a time: the whole text is also compiled as one, where a thread for each theorem in flight asks for more
-- memory than the check allows.
set_option Elab.async false

section
variable {p : Port} {s : State}

theorem countsRead_snaps (p : Port) (snap : Bool) (s : State) :
    ((countsRead p snap s).faults.snap1, (countsRead p snap s).faults.snap2, (countsRead p snap s).faults.snap3) =
        (if snap = false then (s.faults.snap1, s.faults.snap2, s.faults.snap3)
        else match p with
          | .p1 => (s.faults.counters, s.faults.snap2, s.faults.snap3)
          | .p2 => (s.faults.snap1, s.faults.counters, s.faults.snap3)
          | .p3 => (s.faults.snap1, s.faults.snap2, s.faults.counters)) ∧
      countsRead p snap s = { s with faults := { s.faults with
        snap1 := (countsRead p snap s).faults.snap1, snap2 := (countsRead p snap s).faults.snap2
        snap3 := (countsRead p snap s).faults.snap3 } } := by
  cases snap with
  | false => exact ⟨rfl, rfl⟩
  | true => cases p <;> exact ⟨rfl, rfl⟩

/-- The failure's count of blocks, and the test of the threshold, head by head. -/
theorem Tally.unusable_eq (k : Tally) :
    k.unusable = k.headA.flagged + k.headA.lost + (k.headB.flagged + k.headB.lost) := Nat.add_assoc _ _ _

theorem verifyFailureOf_eq (c : VerifyCause) (scan : Option Afa) (k : Tally) : verifyFailureOf c scan k =
    ⟨scan, if k.headA.flagged + k.headA.lost < k.headB.flagged + k.headB.lost then .b else .a,
      k.headA.flagged + k.headA.lost + (k.headB.flagged + k.headB.lost), k.uncorrA + k.uncorrB, c⟩ := by
  rw [← Tally.unusable_eq]
  rfl

end

/-! ## A step of the verify scan, outcome by outcome (R176) -/

section
variable {path : ReadPath} {scan : Option Afa} {jumped : Bool} {k : Tally} {a : Afa} {s : State}

theorem verifyStep_position (h : s.faults.verify.steps path scan) (hbroken : s.faults.verify.broken scan jumped) :
    (verifyStep path scan jumped k s).faults.verify = s.faults.verify.failed scan k .position := by
  rw [verifyStep_of_steps h, verifyCheck_fails (verifyCause_of_broken hbroken)]
  rfl

theorem verifyStep_columns (h : s.faults.verify.steps path scan) (hwhole : ¬ s.faults.verify.broken scan jumped)
    (hcolumns : k.uncorrA + k.uncorrB ≠ 0) :
    (verifyStep path scan jumped k s).faults.verify = s.faults.verify.failed scan k .columns := by
  rw [verifyStep_of_steps h, verifyCheck_fails ((verifyCause_of_whole hwhole).trans (if_pos hcolumns))]
  rfl

theorem verifyCause_of_columns {v : VerifyRecord} (hwhole : ¬ v.broken scan jumped)
    (hcolumns : k.uncorrA + k.uncorrB = 0) : verifyCause v.counted scan jumped k =
      if v.threshold < k.unusable then some .blocks else none :=
  (verifyCause_of_whole hwhole).trans (if_neg (not_not.mpr hcolumns))

theorem verifyStep_blocks (h : s.faults.verify.steps path scan) (hwhole : ¬ s.faults.verify.broken scan jumped)
    (hcolumns : k.uncorrA + k.uncorrB = 0) (hblocks : s.faults.verify.threshold < k.unusable) :
    (verifyStep path scan jumped k s).faults.verify = s.faults.verify.failed scan k .blocks := by
  rw [verifyStep_of_steps h, verifyCheck_fails ((verifyCause_of_columns hwhole hcolumns).trans (if_pos hblocks))]
  rfl

theorem verifyStep_unplaced (h : s.faults.verify.steps path none) (hwhole : ¬ s.faults.verify.broken none jumped)
    (hcolumns : k.uncorrA + k.uncorrB = 0) (hblocks : ¬ s.faults.verify.threshold < k.unusable) :
    (verifyStep path none jumped k s).faults.verify = s.faults.verify.next none := by
  rw [verifyStep_of_steps h, verifyCheck_unplaced ((verifyCause_of_columns hwhole hcolumns).trans (if_neg hblocks))]
  rfl

/-- A frame with an AFA that passes the check: below the end the scan goes on, at the end it passes or waits again. -/
theorem verifyStep_placed (h : s.faults.verify.steps path (some a)) (hwhole : ¬ s.faults.verify.broken (some a) jumped)
    (hcolumns : k.uncorrA + k.uncorrB = 0) (hblocks : ¬ s.faults.verify.threshold < k.unusable) :
    (verifyStep path (some a) jumped k s).faults.verify =
      if a < s.faults.verify.stop then s.faults.verify.placed a
      else if s.faults.verify.loop then { s.faults.verify.placed a with
        state := .waiting, passes := min 255 (s.faults.verify.passes + 1), lastScan := none, prevScan := none }
      else { s.faults.verify.placed a with state := .pass } := by
  rw [verifyStep_of_steps h, verifyCheck_placed ((verifyCause_of_columns hwhole hcolumns).trans (if_neg hblocks))]
  split
  · rfl
  · split <;> rfl

end

/-- Settles O56: the requests by their bodies (`request_answers`), a step by its outcomes (`verifyStep_position` to
`verifyStep_placed`), a tick by `frameTick_preStep`, `frameTick_confStep` and `frameTick_stopped`, a stall and a report by the
range test (`verifyRange_stops`). -/
theorem monitorRequests : Obligations.MonitorRequests := by
  refine ⟨fun p s hfree => ⟨⟨?_, fun k => ?_, fun c hc => ?_⟩, fun first snap => ⟨fun h => ?_, fun h => ?_⟩, ?_⟩,
    fun path scan jumped k s => ?_, fun dir us s hloaded hb => ?_, fun s hscanning => ⟨fun hold => ?_, ?_⟩⟩
  · exact congrArg Host.Outcome.next (request_answers 0x14 hfree rfl)
  · exact congrArg Host.Outcome.next (request_answers 0x14 hfree (readFaults_kind k s))
  · exact congrArg Host.Outcome.next (request_answers 0x14 hfree (readFaults_range hc s))
  · exact congrArg Host.Outcome.next (request_answers 0x16 hfree (readCounts_range h p snap s))
  · obtain ⟨hsnaps, honly⟩ := countsRead_snaps p snap s
    exact ⟨_, countsRead p snap s,
      congrArg Host.Outcome.next (request_answers 0x16 hfree (readCounts_ok h p snap s)), hsnaps, honly, rfl⟩
  · intro v runs
    have hruns : runs ↔ scanRuns s.faults.verify = true := (scanRuns_iff _).symm
    refine ⟨fun source start stop thr loop => ?_, fun h => ?_, fun h => ?_, ?_, ?_, fun page h => ?_⟩
    · intro bad
      have hanswer : ∀ {t res pl}, verifyStart source start stop thr loop s = (t, res, pl) →
          exec (.verifyStart p source start stop thr loop) s = .next (respond p 0x18 res pl t) :=
        fun h => congrArg Host.Outcome.next (request_answers 0x18 hfree h)
      refine ⟨fun h => hanswer (verifyStart_busy (hruns.mp h)),
        fun h hbad => hanswer (verifyStart_range (mt hruns.mpr h) hbad),
        fun h hgood hsource hmode => hanswer (verifyStart_state (mt hruns.mpr h) hgood hsource hmode),
        fun h hgood hmay => ⟨fun hlow => hanswer ?_, fun hhigh => ⟨hanswer ?_, payloadBits_verifyClamped _⟩⟩⟩
      · rw [verifyStart_begun (mt hruns.mpr h) hgood hmay, if_neg (Nat.not_lt.mpr hlow)]
        rfl
      · rw [verifyStart_begun (mt hruns.mpr h) hgood hmay, if_pos hhigh]
        have hthreshold : (verifyBegun source start stop thr loop).threshold = 112 := if_pos hhigh
        rw [hthreshold]
        rfl
    · exact congrArg Host.Outcome.next (request_answers 0x19 hfree (verifyStop_runs (hruns.mp h)))
    · exact congrArg Host.Outcome.next (request_answers 0x19 hfree (verifyStop_idle (mt hruns.mpr h)))
    · exact congrArg Host.Outcome.next (request_answers 0x1A hfree rfl)
    · exact congrArg Host.Outcome.next (request_answers 0x1A hfree rfl)
    · exact congrArg Host.Outcome.next (request_answers 0x1A hfree (verifyRead_range h s))
  · intro v t steps badA badB broken columns next fail
    have hfail : ∀ c, fail c = v.failed scan k c := fun c => by
      unfold VerifyRecord.failed
      rw [verifyFailureOf_eq]
      rfl
    have hbad : k.unusable = badA + badB := k.unusable_eq
    refine ⟨fun h => verifyStep_of_not h, fun h => ?_⟩
    refine ⟨verifyStep_only path scan jumped k s, fun hend q hq => ?_, fun hbroken => ?_, fun hwhole hcolumns => ?_,
      fun hwhole hcolumns hblocks => ?_, fun hwhole hcolumns hblocks => ⟨fun hnone => ?_, fun a hscan => ?_⟩⟩
    · have ht : t = verifyCheck scan jumped k s := verifyStep_of_steps h
      rw [ht] at hend ⊢
      exact verifyCheck_ends hend q hq
    · exact (verifyStep_position h hbroken).trans (hfail _).symm
    · exact (verifyStep_columns h hwhole hcolumns).trans (hfail _).symm
    · exact (verifyStep_blocks h hwhole hcolumns (hbad ▸ hblocks)).trans (hfail _).symm
    · subst hnone
      exact verifyStep_unplaced h hwhole hcolumns (Nat.not_lt.mpr (hbad ▸ hblocks))
    · subst hscan
      have hplaced := verifyStep_placed h hwhole hcolumns (Nat.not_lt.mpr (hbad ▸ hblocks))
      refine ⟨fun hbelow => hplaced.trans (if_pos hbelow), fun hat hloop => hplaced.trans ?_,
        fun hat hloop => hplaced.trans ?_⟩
      · rw [if_neg (Nat.not_lt.mpr hat), if_neg (Bool.eq_false_iff.mp hloop)]
        rfl
      · rw [if_neg (Nat.not_lt.mpr hat), if_pos hloop]
        rfl
  · have hpre := fun c hrange hsource => frameTick_preStep (us := us) (dir := dir) (c := c) hloaded hb hrange hsource
    have hconf := fun c hrange hsource => frameTick_confStep (us := us) (dir := dir) (c := c) hloaded hb hrange hsource
    have hstopped := frameTick_stopped (us := us) (dir := dir) hloaded hb
    have hjumped := jumps_iff_tickJumped (dir := dir) (us := us) hloaded
    have htransport := frameTick_transport dir us s
    refine ⟨frameTick dir us s, rfl, ?_⟩
    simp only [tickJumped, ← htransport] at hjumped hpre hconf hstopped
    unfold tickResult at hpre hconf hjumped
    generalize frameTick dir us s = t at *
    intro x range pre conf
    have hrange : range ↔ decodeRange t.transport = true := (decodeRange_iff _).symm
    refine ⟨fun h hsource c hc => ⟨_, ?_, hpre c (hrange.mp h) hsource hc⟩, fun h hsource c hc => ?_,
      fun h hscan hold => hstopped (mt hrange.mpr h) hscan hold⟩
    · rw [hjumped, beq_iff_eq]
    · intro matched stepped
      have hmatched : ∀ w, matched w = matchesIdentity c.tally.identity w := matched_eq c.tally
      have hstep := hconf c (hrange.mp h) hsource hc
      refine ⟨fun k hk => ?_, fun hk hnone => ?_, fun hk older w newer hlist holder hw => ?_⟩
      · rw [confScan, hk] at hstep
        exact hstep
      · rw [confScan, hk, matchedEntry_eq_none fun v hv => by rw [← hmatched]; exact hnone v hv] at hstep
        exact hstep
      · obtain ⟨hfirst, -⟩ := matchedEntry_of_first (s := s) (k := c.tally) hlist
          (fun v hv => by rw [← hmatched]; exact holder v hv) (by rw [← hmatched]; exact hw)
        rw [confScan, hk, hfirst] at hstep
        exact hstep
  · obtain ⟨hstopped, hevents⟩ := stallTimeout_stopped hscanning hold
    exact ⟨stallTimeout s, rfl, hstopped, hevents⟩
  · intro p m l r mode hfree hclaim hmode hloaded hl hr
    rw [← modeOfCode_eq] at hmode
    obtain ⟨hleft, hkept⟩ := modeChange_verify (lock := decide (l = 0)) (prot := decide (r = 0)) hscanning hloaded
    refine ⟨_, congrArg Host.Outcome.next (request_transport 0x80 hfree hclaim), fun h => ?_, fun h => ?_⟩
    · rw [modeReport_of_mode hmode hl hr]
      exact hleft ((verifyLeaves_mode _ _ _ _).mpr h)
    · rw [modeReport_of_mode hmode hl hr]
      exact hkept (mt (verifyLeaves_mode _ _ _ _).mp h)

end Sys2Proof.Machine

namespace Sys2Proof.Machine
open Sys2Proof

-- One theorem at a time: the whole text is also compiled as one, where a thread for each theorem in flight asks for more
-- memory than the check allows.
set_option Elab.async false

/-! ## The fall of select (R179) -/

section
variable {p : Port} {s : State}

theorem exchangeStart_of_free (h : waitsForRise s p = false) : exchangeStart p s = { s with
    ports := s.ports.set p { s.ports.get p with select := .exchange (summaryOf s p) (s.ports.get p).response } } :=
  if_neg fun hwaits => by simp [waitsForRise, hwaits] at h

theorem exchangeStart_of_waits (h : waitsForRise s p = true) : exchangeStart p s = s :=
  if_pos (by simpa [waitsForRise] using h)

/-! ## The summary and its sources (R185, R193) -/

theorem Event.exists_of_bit {i : Nat} (h : i < 13) : ∃ e : Event, e.bit = i := by
  have hall : ∀ i : Fin 13, ∃ e ∈ [Event.seqDone, .seqFault, .gateOpened, .gateClosed, .faultRaised, .faultEnded,
      .positionJump, .indexChanged, .markerSeen, .rightsChanged, .verifyDone, .claimLost, .modeChanged], e.bit = i.val := by
    decide
  obtain ⟨e, -, he⟩ := hall ⟨i, h⟩
  exact ⟨e, he⟩

theorem attentionLine_iff (c : PortContext) : attentionLine c = true ↔
    ∃ e, EventSet.has c.events e = true ∧ EventSet.has c.attn e = true := by
  unfold attentionLine EventSet.has
  constructor
  · intro h
    obtain ⟨i, hi⟩ : ∃ i, (c.events &&& c.attn).getLsbD i = true := by
      by_contra hnone
      refine bne_iff_ne.mp h (BitVec.eq_of_getLsbD_eq fun i _ => ?_)
      rw [Bool.eq_false_iff.mpr fun hi => hnone ⟨i, hi⟩, BitVec.ofNat_eq_ofNat, BitVec.getLsbD_zero]
    obtain ⟨e, rfl⟩ := Event.exists_of_bit (BitVec.lt_of_getLsbD hi)
    rw [BitVec.getLsbD_and, Bool.and_eq_true] at hi
    exact ⟨e, hi⟩
  · rintro ⟨e, hevents, hattn⟩
    refine bne_iff_ne.mpr fun hzero => ?_
    have hbit : (c.events &&& c.attn).getLsbD e.bit = true := by
      rw [BitVec.getLsbD_and, hevents, hattn]
      rfl
    rw [hzero] at hbit
    simp at hbit

theorem mem_faultKinds (k : FaultKind) : k ∈ faultKinds := by cases k <;> decide

theorem faultFlag_iff (r : FaultRecords) : faultFlag r = true ↔ ∃ k, (r.get k).action = true := by
  unfold faultFlag
  rw [List.any_eq_true]
  exact ⟨fun ⟨k, _, hk⟩ => ⟨k, hk⟩, fun ⟨k, hk⟩ => ⟨k, mem_faultKinds k, hk⟩⟩

theorem warnFlag_iff (r : FaultRecords) :
    warnFlag r = true ↔ ∃ k, (r.get k).seen = true ∧ (r.get k).action = false := by
  unfold warnFlag
  rw [List.any_eq_true]
  constructor
  · rintro ⟨k, -, hk⟩
    exact ⟨k, by simpa using hk⟩
  · rintro ⟨k, hseen, haction⟩
    exact ⟨k, mem_faultKinds k, by rw [hseen, haction]; rfl⟩

/-- The kinds stand in the order of their codes. -/
theorem find_faultKinds {f : FaultKind → Bool} {k : FaultKind} (hk : f k = true)
    (hbefore : ∀ j, codeOfFaultKind j < codeOfFaultKind k → f j = false) : faultKinds.find? f = some k := by
  have hsplit : faultKinds = faultKinds.take (codeOfFaultKind k - 1) ++ k :: faultKinds.drop (codeOfFaultKind k) := by
    cases k <;> rfl
  have hlow : ∀ j ∈ faultKinds.take (codeOfFaultKind k - 1), codeOfFaultKind j < codeOfFaultKind k := by
    cases k <;> decide
  exact List.find?_eq_some_iff_append.mpr ⟨hk, _, _, hsplit, fun j hj => by rw [hbefore j (hlow j hj)]; rfl⟩

theorem find_faultKinds_none {f : FaultKind → Bool} (h : ∀ k, f k = false) : faultKinds.find? f = none :=
  List.find?_eq_none.mpr fun k _ => by rw [h k]; decide

theorem faultCode_of_action {r : FaultRecords} {k : FaultKind} (hk : (r.get k).action = true)
    (hbefore : ∀ j, codeOfFaultKind j < codeOfFaultKind k → (r.get j).action = false) :
    faultCode r = codeOfFaultKind k := by
  unfold faultCode
  rw [find_faultKinds (f := fun j => (r.get j).action) hk hbefore]

theorem faultCode_of_seen {r : FaultRecords} {k : FaultKind} (hnone : ∀ j, (r.get j).action = false)
    (hk : (r.get k).seen = true) (hbefore : ∀ j, codeOfFaultKind j < codeOfFaultKind k → (r.get j).seen = false) :
    faultCode r = codeOfFaultKind k := by
  unfold faultCode
  rw [find_faultKinds_none (f := fun j => (r.get j).action) hnone,
    find_faultKinds (f := fun j => (r.get j).seen) hk hbefore]

theorem faultCode_of_none {r : FaultRecords} (h : ∀ k, (r.get k).action = false ∧ (r.get k).seen = false) :
    faultCode r = 0 := by
  unfold faultCode
  rw [find_faultKinds_none (f := fun j => (r.get j).action) fun k => (h k).1,
    find_faultKinds_none (f := fun j => (r.get j).seen) fun k => (h k).2]

end

/-! ## The bits of the response frame (R179, R198) -/

section
variable {v w : Nat} (x : BitVec v) (y : BitVec w)

theorem extract_append_high : (x ++ y).extractLsb' w v = x := by
  rw [BitVec.extractLsb'_append_eq_of_le (Nat.le_refl w), Nat.sub_self, BitVec.extractLsb'_eq_self]

theorem extract_append_low : (x ++ y).extractLsb' 0 w = y := by
  rw [BitVec.extractLsb'_append_eq_of_add_le (Nat.le_of_eq (Nat.zero_add w)), BitVec.extractLsb'_eq_self]

end

section
variable (m : Summary) (r : Response)

/-- What follows byte 0. -/
theorem frame_rest (start len : Nat) (h : start + len ≤ 120) : (responseFrame m r).extractLsb' start len =
    ((BitVec.ofBool (m.gate == .opened) ++ (BitVec.ofBool m.fault ++ (BitVec.ofBool m.warn ++
      (BitVec.ofNat 3 m.faultCode ++ 0#2))) : Byte) ++ ((BitVec.ofNat 4 (codeOfError m.error) ++
        BitVec.ofNat 4 (codeOfResult r.result) : Byte) ++ (r.echo ++ payloadBits r.payload)) : BitVec 120).extractLsb'
          start len :=
  BitVec.extractLsb'_append_eq_of_add_le (v := 8) (w := 120) h

theorem frame_flags : (responseFrame m r).getLsbD 127 = m.reset ∧ (responseFrame m r).getLsbD 126 = m.frame ∧
    (responseFrame m r).getLsbD 125 = m.attn ∧ (responseFrame m r).getLsbD 124 = m.editHeld ∧
    (responseFrame m r).getLsbD 123 = m.transportHeld ∧
    (responseFrame m r).getLsbD 119 = (m.gate == .opened) ∧ (responseFrame m r).getLsbD 118 = m.fault ∧
    (responseFrame m r).getLsbD 117 = m.warn := by
  unfold responseFrame
  simp only [BitVec.getLsbD_append]
  simp

theorem codeOfSeq_lt (q : SeqState) : codeOfSeq q < 2 ^ 3 := by cases q <;> decide

theorem codeOfError_lt (e : Option ErrorKind) : codeOfError e < 2 ^ 4 := by
  rcases e with _ | e
  · decide
  · cases e <;> decide

theorem codeOfResult_lt (c : ResultCode) : codeOfResult c < 2 ^ 4 := by cases c <;> decide

theorem toNat_ofNat_of_lt {w n : Nat} (h : n < 2 ^ w) : (BitVec.ofNat w n).toNat = n := by
  rw [BitVec.toNat_ofNat, Nat.mod_eq_of_lt h]

theorem frame_seq : (responseFrame m r).extractLsb' 120 3 = BitVec.ofNat 3 (codeOfSeq m.seq) :=
  (BitVec.extractLsb'_append_eq_of_le (v := 8) (w := 120) (by decide)).trans <|
    (BitVec.extractLsb'_append_eq_of_add_le (v := 1) (w := 7) (by decide)).trans <|
    (BitVec.extractLsb'_append_eq_of_add_le (v := 1) (w := 6) (by decide)).trans <|
    (BitVec.extractLsb'_append_eq_of_add_le (v := 1) (w := 5) (by decide)).trans <|
    (BitVec.extractLsb'_append_eq_of_add_le (v := 1) (w := 4) (by decide)).trans (extract_append_low _ _)

/-- Byte 1 of the frame: the gate and fault flags, the fault code, and two bits of 0. -/
theorem frame_faultCode : (responseFrame m r).extractLsb' 114 3 = BitVec.ofNat 3 m.faultCode ∧
    (responseFrame m r).extractLsb' 112 2 = 0 := by
  have hbyte : ∀ start len, start + len ≤ 5 → 112 ≤ start + 112 → (responseFrame m r).extractLsb' (start + 112) len =
      (BitVec.ofNat 3 m.faultCode ++ 0#2).extractLsb' start len := fun start len h h' =>
    (frame_rest m r _ _ (by omega)).trans <|
      (BitVec.extractLsb'_append_eq_of_le (v := 8) (w := 112) h').trans <| by
        rw [Nat.add_sub_cancel]
        exact (BitVec.extractLsb'_append_eq_of_add_le (v := 1) (w := 7) (by omega)).trans <|
          (BitVec.extractLsb'_append_eq_of_add_le (v := 1) (w := 6) (by omega)).trans
            (BitVec.extractLsb'_append_eq_of_add_le (v := 1) (w := 5) h)
  exact ⟨(hbyte 2 3 (by decide) (by decide)).trans (extract_append_high _ _),
    (hbyte 0 2 (by decide) (by decide)).trans (extract_append_low _ _)⟩

/-- Byte 2 of the frame, the echoed opcode and the payload. -/
theorem frame_tail : (responseFrame m r).extractLsb' 108 4 = BitVec.ofNat 4 (codeOfError m.error) ∧
    (responseFrame m r).extractLsb' 104 4 = BitVec.ofNat 4 (codeOfResult r.result) ∧
    (responseFrame m r).extractLsb' 96 8 = r.echo ∧ (responseFrame m r).extractLsb' 0 96 = payloadBits r.payload := by
  have hbyte : ∀ start len, start + len ≤ 112 → (responseFrame m r).extractLsb' start len =
      ((BitVec.ofNat 4 (codeOfError m.error) ++ BitVec.ofNat 4 (codeOfResult r.result) : Byte) ++
        (r.echo ++ payloadBits r.payload) : BitVec 112).extractLsb' start len := fun start len h =>
    (frame_rest m r _ _ (by omega)).trans (BitVec.extractLsb'_append_eq_of_add_le (v := 8) (w := 112) h)
  refine ⟨(hbyte _ _ (by decide)).trans ?_, (hbyte _ _ (by decide)).trans ?_, (hbyte _ _ (by decide)).trans ?_,
    (hbyte _ _ (by decide)).trans ?_⟩
  · exact (BitVec.extractLsb'_append_eq_of_le (v := 8) (w := 104) (by decide)).trans (extract_append_high _ _)
  · exact (BitVec.extractLsb'_append_eq_of_le (v := 8) (w := 104) (by decide)).trans (extract_append_low _ _)
  · exact (BitVec.extractLsb'_append_eq_of_add_le (v := 8) (w := 104) (by decide)).trans (extract_append_high _ _)
  · exact (BitVec.extractLsb'_append_eq_of_add_le (v := 8) (w := 104) (by decide)).trans (extract_append_low _ _)

end

end Sys2Proof.Machine

namespace Sys2Proof.Machine
open Sys2Proof

-- One theorem at a time: the whole text is also compiled as one, where a thread for each theorem in flight asks for more
-- memory than the check allows.
set_option Elab.async false

/-! ## Payloads whose fields have bytes of their own (R195, R197, R198) -/

theorem payloadBits_seqState (st : SeqState) : (payloadBits (.seqState st)).toNat = codeOfSeq st * 2 ^ 88 := by
  cases st <;> rfl

theorem payloadBits_writeEnable (on : Bool) : (payloadBits (.writeEnable on)).toNat = if on then 2 ^ 88 else 0 := by
  cases on <;> rfl

theorem payloadBits_entryNumber (k : BitVec 5) : (payloadBits (.entryNumber k)).toNat = k.toNat * 2 ^ 88 := by
  have hlow : (k ++ 0#88).toNat = k.toNat * 2 ^ 88 := by
    rw [BitVec.toNat_append, Nat.shiftLeft_eq, BitVec.toNat_ofNat, Nat.zero_mod, Nat.or_zero]
  have hall : (0#3 ++ (k ++ 0#88)).toNat = (k ++ 0#88).toNat := by
    rw [BitVec.toNat_append, BitVec.toNat_ofNat, Nat.zero_mod, Nat.zero_shiftLeft, Nat.zero_or]
  exact hall.trans hlow

theorem payloadBits_counters (c0 c1 c2 : Word32) : (payloadBits (.counters c0 c1 c2)).extractLsb' 64 32 = c0 ∧
    (payloadBits (.counters c0 c1 c2)).extractLsb' 32 32 = c1 ∧
    (payloadBits (.counters c0 c1 c2)).extractLsb' 0 32 = c2 := by
  have hrest : ∀ start, start + 32 ≤ 64 → (payloadBits (.counters c0 c1 c2)).extractLsb' start 32 =
      (c1 ++ c2).extractLsb' start 32 := fun start h => BitVec.extractLsb'_append_eq_of_add_le (v := 32) (w := 64) h
  exact ⟨extract_append_high c0 (c1 ++ c2), (hrest 32 (by decide)).trans (extract_append_high c1 c2),
    (hrest 0 (by decide)).trans (extract_append_low c1 c2)⟩

theorem payloadBits_thresholds (high low : Nat) :
    (payloadBits (.thresholds high low)).extractLsb' 80 16 = BitVec.ofNat 16 high ∧
      (payloadBits (.thresholds high low)).extractLsb' 64 16 = BitVec.ofNat 16 low ∧
      (payloadBits (.thresholds high low)).extractLsb' 0 64 = 0 := by
  have hrest : ∀ start len, start + len ≤ 80 → (payloadBits (.thresholds high low)).extractLsb' start len =
      (wordField low ++ 0#64).extractLsb' start len :=
    fun start len h => BitVec.extractLsb'_append_eq_of_add_le (v := 16) (w := 80) h
  exact ⟨extract_append_high (wordField high) (wordField low ++ 0#64),
    (hrest 64 16 (by decide)).trans (extract_append_high (wordField low) 0#64),
    (hrest 0 64 (by decide)).trans (extract_append_low (wordField low) 0#64)⟩

theorem maskField_eq (e : EventSet) : maskField e = e.zeroExtend 16 := by
  refine BitVec.eq_of_toNat_eq ?_
  have he := e.isLt
  show (0#3 ++ e).toNat = _
  simp only [BitVec.toNat_append, BitVec.toNat_setWidth, BitVec.toNat_ofNat]
  rw [Nat.mod_eq_of_lt (by omega : e.toNat < 2 ^ 16)]
  simp

theorem payloadBits_eventSets (r a e : EventSet) :
    (payloadBits (.eventSets r a e)).extractLsb' 80 16 = e.zeroExtend 16 ∧
      (payloadBits (.eventSets r a e)).extractLsb' 64 16 = r.zeroExtend 16 ∧
      (payloadBits (.eventSets r a e)).extractLsb' 48 16 = a.zeroExtend 16 ∧
      (payloadBits (.eventSets r a e)).extractLsb' 0 48 = 0 := by
  have hrest : ∀ start len, start + len ≤ 80 → (payloadBits (.eventSets r a e)).extractLsb' start len =
      (maskField r ++ (maskField a ++ 0#48)).extractLsb' start len :=
    fun start len h => BitVec.extractLsb'_append_eq_of_add_le (v := 16) (w := 80) h
  have hlast : ∀ start len, start + len ≤ 64 → (payloadBits (.eventSets r a e)).extractLsb' start len =
      (maskField a ++ 0#48).extractLsb' start len := fun start len h =>
    (hrest start len (by omega)).trans (BitVec.extractLsb'_append_eq_of_add_le (v := 16) (w := 64) h)
  simp only [← maskField_eq]
  exact ⟨extract_append_high (maskField e) (maskField r ++ (maskField a ++ 0#48)),
    (hrest 64 16 (by decide)).trans (extract_append_high (maskField r) (maskField a ++ 0#48)),
    (hlast 48 16 (by decide)).trans (extract_append_high (maskField a) 0#48),
    (hlast 0 48 (by decide)).trans (extract_append_low (maskField a) 0#48)⟩

section
variable (v : TransportView)

theorem payloadBits_transport_flags : (payloadBits (.transport v)).getLsbD 80 = !v.lock ∧
    (payloadBits (.transport v)).getLsbD 72 = !v.prot ∧ (payloadBits (.transport v)).getLsbD 64 = (v.dir == .reverse) ∧
    (payloadBits (.transport v)).getLsbD 40 = v.stalled ∧ (payloadBits (.transport v)).getLsbD 32 = v.decodeRange ∧
    (payloadBits (.transport v)).getLsbD 24 = v.writeWindow := by
  have hyes : ∀ b, (byteField (codeOfYes b))[0] = !b := fun b => by cases b <;> rfl
  have hdir : ∀ d, (byteField (codeOfDirection d))[0] = (d == .reverse) := fun d => by cases d <;> rfl
  have hflag : ∀ b, (flagField b)[0] = b := fun b => by cases b <;> rfl
  unfold payloadBits
  simp only [BitVec.getLsbD_append]
  simp [hyes, hdir, hflag]

/-- From the ratio on. -/
theorem payloadBits_transport_rest {start len : Nat} (h : start + len ≤ 64) :
    (payloadBits (.transport v)).extractLsb' start len = (wordField v.ratio ++ (flagField v.stalled ++
      (flagField v.decodeRange ++ (flagField v.writeWindow ++ 0#24)))).extractLsb' start len :=
  (BitVec.extractLsb'_append_eq_of_add_le (v := 8) (w := 88) (by omega)).trans <|
    (BitVec.extractLsb'_append_eq_of_add_le (v := 8) (w := 80) (by omega)).trans <|
    (BitVec.extractLsb'_append_eq_of_add_le (v := 8) (w := 72) (by omega)).trans
      (BitVec.extractLsb'_append_eq_of_add_le (v := 8) (w := 64) h)

theorem payloadBits_transport_fields : ((payloadBits (.transport v)).extractLsb' 88 8).toNat = codeOfMode v.mode ∧
    (payloadBits (.transport v)).extractLsb' 48 16 = BitVec.ofNat 16 v.ratio ∧
    (payloadBits (.transport v)).extractLsb' 0 24 = 0 := by
  have hmode : (payloadBits (.transport v)).extractLsb' 88 8 = byteField (codeOfMode v.mode) :=
    extract_append_high (v := 8) (w := 88) _ _
  refine ⟨?_, (payloadBits_transport_rest v (by decide)).trans (extract_append_high (v := 16) (w := 48) _ _),
    (payloadBits_transport_rest v (by decide)).trans ?_⟩
  · rw [hmode]
    cases v.mode <;> rfl
  · exact (BitVec.extractLsb'_append_eq_of_add_le (v := 16) (w := 48) (by decide)).trans <|
      (BitVec.extractLsb'_append_eq_of_add_le (v := 8) (w := 40) (by decide)).trans <|
      (BitVec.extractLsb'_append_eq_of_add_le (v := 8) (w := 32) (by decide)).trans (extract_append_low _ _)

end

/-! ## The places of the other payloads' fields (R195, R198; log entry 3) -/

section
variable {form : PayloadForm} {i j w w' o o' : Nat}

/-- The fields of a form, each with the bits before it. -/
def PayloadForm.fields (form : PayloadForm) : List (Nat × Nat) := form.widths.zip form.places

theorem PayloadForm.fields_getElem (hw : form.widths[i]? = some w) (ho : form.places[i]? = some o) :
    form.fields[i]? = some (w, o) := List.getElem?_zip_eq_some.mpr ⟨hw, ho⟩

theorem PayloadForm.mem_fields_iff {f : Nat × Nat} :
    f ∈ form.fields ↔ ∃ i : Nat, form.widths[i]? = some f.1 ∧ form.places[i]? = some f.2 := by
  rw [List.mem_iff_getElem?]
  exact exists_congr fun i => List.getElem?_zip_eq_some

theorem PayloadForm.fields_mem (hw : form.widths[i]? = some w) (ho : form.places[i]? = some o) : (w, o) ∈ form.fields :=
  mem_fields_iff.mpr ⟨i, hw, ho⟩

/-- Each field has bits of its own. -/
theorem PayloadForm.fields_apart (hj : j ≠ i) (hw : form.widths[i]? = some w) (ho : form.places[i]? = some o)
    (hw' : form.widths[j]? = some w') (ho' : form.places[j]? = some o') : o + w ≤ o' ∨ o' + w' ≤ o := by
  obtain ⟨-, -, hpairwise, -⟩ := form.places_suit
  obtain ⟨hi, hfield⟩ := List.getElem?_eq_some_iff.mp (fields_getElem hw ho)
  obtain ⟨hj', hfield'⟩ := List.getElem?_eq_some_iff.mp (fields_getElem hw' ho')
  have hR := List.pairwise_iff_getElem.mp hpairwise
  rcases Nat.lt_or_gt_of_ne hj with hlt | hlt
  · have h := hR j i hj' hi hlt
    change (form.fields[j]).2 + (form.fields[j]).1 ≤ (form.fields[i]).2 ∨
      (form.fields[i]).2 + (form.fields[i]).1 ≤ (form.fields[j]).2 at h
    rw [hfield, hfield'] at h
    exact h.symm
  · have h := hR i j hi hj' hlt
    change (form.fields[i]).2 + (form.fields[i]).1 ≤ (form.fields[j]).2 ∨
      (form.fields[j]).2 + (form.fields[j]).1 ≤ (form.fields[i]).2 at h
    rw [hfield, hfield'] at h
    exact h

/-- Every form but that of page 0 of STATUS has room for whole bytes. -/
theorem PayloadForm.roomy_widths (h : form ≠ .sequencer) : roomy form.widths = true := by
  cases form with
  | sequencer => exact absurd rfl h
  | kindRecord k => cases k <;> decide
  | faultRecord k => cases k <;> decide
  | position | indexEntry | rights | faultSummary | faultClear | verifyPage0 | verifyPage1 => decide

theorem PayloadForm.fields_roomy (h : form ≠ .sequencer) : roomy (form.fields.map (·.1)) = true := by
  have hfst : form.fields.map (·.1) = form.widths :=
    List.map_fst_zip (Nat.le_of_eq (Laws.places_length form).symm)
  rw [hfst]
  exact roomy_widths h

theorem wide_eq_true : wide w = true ↔ 8 < w := decide_eq_true_iff

/-- Where there is room, the bits above a value of more than one byte are no other field's. -/
theorem PayloadForm.fields_above (hform : form ≠ .sequencer) (hwide : 8 < w) (hw : form.widths[i]? = some w)
    (ho : form.places[i]? = some o) (hw' : form.widths[j]? = some w') (ho' : form.places[j]? = some o') :
    o' + w' ≤ o / 8 * 8 ∨ o ≤ o' := by
  obtain ⟨-, -, -, -, -, habove⟩ := form.places_suit
  exact habove (fields_roomy hform) _ (fields_mem hw ho) (wide_eq_true.mpr hwide) _ (fields_mem hw' ho')

/-- No byte before a field is left out. -/
theorem PayloadForm.fields_before (hw : form.widths[i]? = some w) (ho : form.places[i]? = some o) {byte : Nat}
    (hbyte : byte < o / 8) : ∃ j w' o' : Nat, form.widths[j]? = some w' ∧ form.places[j]? = some o' ∧ o' / 8 ≤ byte ∧
      byte ≤ (o' + w' - 1) / 8 := by
  obtain ⟨-, -, -, hbefore, -⟩ := form.places_suit
  obtain ⟨g, hg, hlow, hhigh⟩ := hbefore _ (fields_mem hw ho) byte hbyte
  obtain ⟨j, hgw, hgo⟩ := mem_fields_iff.mp hg
  exact ⟨j, g.1, g.2, hgw, hgo, hlow, hhigh⟩

theorem PayloadForm.fields_low_end (hw : form.widths[i]? = some w) (ho : form.places[i]? = some o) :
    (8 < w → (o + w) % 8 = 0) ∧ (w ≤ 8 → o / 8 = (o + w - 1) / 8) := by
  have h := Laws.places_low_end form _ (fields_mem hw ho)
  refine ⟨fun hwide => ?_, fun hnarrow => ?_⟩
  · rwa [if_pos (wide_eq_true.mpr hwide)] at h
  · rwa [if_neg fun hwide => absurd (wide_eq_true.mp hwide) (Nat.not_lt.mpr hnarrow)] at h

/-! ### The bits of a laid payload -/

theorem payloadBits_of_laid {pl : Payload} {vs : List Nat} (h : pl.laid = some (form, vs)) :
    payloadBits pl = layFields form.fields vs := by
  have hlaid : payloadBits pl = match pl.laid with
      | some (f, vs) => layFields (f.widths.zip f.places) vs
      | none => 0 := by
    cases pl <;> first | rfl | cases h
  rw [hlaid, h]
  rfl

/-- A bit of a laid payload is set just where the field that covers it has that bit of its value set. -/
theorem laid_getLsbD {pl : Payload} {vs : List Nat} (h : pl.laid = some (form, vs)) (x : Nat) :
    (payloadBits pl).getLsbD x = true ↔ ∃ i w o v : Nat, form.widths[i]? = some w ∧ form.places[i]? = some o ∧
      vs[i]? = some v ∧ 96 - o - w ≤ x ∧ x < 96 - o ∧ v.testBit (x - (96 - o - w)) = true := by
  rw [payloadBits_of_laid h, Laws.layFields_getLsbD form.fields vs x (Laws.places_bound form)]
  constructor
  · rintro ⟨⟨⟨w, o⟩, v⟩, hmem, hlow, hhigh, hbit⟩
    obtain ⟨i, hi⟩ := List.mem_iff_getElem?.mp hmem
    obtain ⟨hfield, hv⟩ := List.getElem?_zip_eq_some.mp hi
    obtain ⟨hw, ho⟩ := List.getElem?_zip_eq_some.mp hfield
    exact ⟨i, w, o, v, hw, ho, hv, hlow, hhigh, hbit⟩
  · rintro ⟨i, w, o, v, hw, ho, hv, hlow, hhigh, hbit⟩
    have hi : (form.fields.zip vs)[i]? = some ((w, o), v) :=
      List.getElem?_zip_eq_some.mpr ⟨PayloadForm.fields_getElem hw ho, hv⟩
    exact ⟨⟨⟨w, o⟩, v⟩, List.mem_of_getElem? hi, hlow, hhigh, hbit⟩

/-- A field of a laid payload reads back as its value. -/
theorem laid_field {pl : Payload} {vs : List Nat} {v : Nat} (h : pl.laid = some (form, vs))
    (hw : form.widths[i]? = some w) (ho : form.places[i]? = some o) (hv : vs[i]? = some v) :
    ((payloadBits pl).extractLsb' (96 - o - w) w).toNat = v % 2 ^ w := by
  have hbound : o + w ≤ 96 := Laws.places_bound form _ (PayloadForm.fields_mem hw ho)
  have hbits : (payloadBits pl).extractLsb' (96 - o - w) w = BitVec.ofNat w v := by
    refine BitVec.eq_of_getLsbD_eq fun b hb => ?_
    rw [BitVec.getLsbD_extractLsb', BitVec.getLsbD_ofNat, decide_eq_true hb, Bool.true_and, Bool.true_and,
      Bool.eq_iff_iff, laid_getLsbD h]
    constructor
    · rintro ⟨j, w', o', v', hw', ho', hv', hlow, hhigh, hbit⟩
      have hbound' : o' + w' ≤ 96 := Laws.places_bound form _ (PayloadForm.fields_mem hw' ho')
      have hsame : j = i := by
        by_contra hne
        rcases PayloadForm.fields_apart hne hw ho hw' ho' with happart | happart <;> omega
      subst hsame
      obtain rfl := Option.some.inj (hw.symm.trans hw')
      obtain rfl := Option.some.inj (ho.symm.trans ho')
      obtain rfl := Option.some.inj (hv.symm.trans hv')
      rwa [Nat.add_sub_cancel_left] at hbit
    · intro hbit
      exact ⟨i, w, o, v, hw, ho, hv, by omega, by omega, by rwa [Nat.add_sub_cancel_left]⟩
  rw [hbits, BitVec.toNat_ofNat]

/-- Bits that no field uses are 0. -/
theorem laid_unused {pl : Payload} {vs : List Nat} {bit : Nat} (h : pl.laid = some (form, vs)) (hbit : bit < 96)
    (hunused : ∀ i w o : Nat, form.widths[i]? = some w → form.places[i]? = some o → bit < o ∨ o + w ≤ bit) :
    (payloadBits pl).getLsbD (95 - bit) = false := by
  rw [Bool.eq_false_iff]
  intro hset
  obtain ⟨i, w, o, v, hw, ho, -, hlow, hhigh, -⟩ := (laid_getLsbD h _).mp hset
  have hbound : o + w ≤ 96 := Laws.places_bound form _ (PayloadForm.fields_mem hw ho)
  rcases hunused i w o hw ho with hout | hout <;> omega

end

end Sys2Proof.Machine

namespace Sys2Proof.Machine
open Sys2Proof

-- One theorem at a time: the whole text is also compiled as one, where a thread for each theorem in flight asks for more
-- memory than the check allows.
set_option Elab.async false

/-! ## Values that fit their fields read back (R198) -/

/-- Each value is within the bits of its field. -/
def ValuesFit (vs ws : List Nat) : Prop := List.Forall₂ (fun v w => v < 2 ^ w) vs ws

section
variable {vs us ws xs : List Nat} {v w : Nat}

theorem ValuesFit.nil : ValuesFit [] [] := List.Forall₂.nil

theorem ValuesFit.cons (hv : v < 2 ^ w) (h : ValuesFit vs ws) : ValuesFit (v :: vs) (w :: ws) := List.Forall₂.cons hv h

theorem ValuesFit.append (h : ValuesFit vs ws) (g : ValuesFit us xs) : ValuesFit (vs ++ us) (ws ++ xs) :=
  List.rel_append h g

theorem ValuesFit.lt (h : ValuesFit vs ws) {i : Nat} (hv : vs[i]? = some v) (hw : ws[i]? = some w) : v < 2 ^ w := by
  obtain ⟨hi, rfl⟩ := List.getElem?_eq_some_iff.mp hv
  obtain ⟨hi', rfl⟩ := List.getElem?_eq_some_iff.mp hw
  exact (List.forall₂_iff_get.mp h).2 i hi hi'

/-- Two laid payloads of one form with the same bits carry the same values. -/
theorem laid_values_eq {form : PayloadForm} {pl pl' : Payload} (hpl : pl.laid = some (form, vs))
    (hpl' : pl'.laid = some (form, us)) (hv : ValuesFit vs form.widths) (hu : ValuesFit us form.widths)
    (heq : payloadBits pl = payloadBits pl') : vs = us := by
  have hlen : vs.length = form.widths.length := List.Forall₂.length_eq hv
  have hlen' : us.length = form.widths.length := List.Forall₂.length_eq hu
  refine List.ext_getElem (hlen.trans hlen'.symm) fun i hi hi' => ?_
  have hw := List.getElem?_eq_getElem (hlen ▸ hi : i < form.widths.length)
  have ho := List.getElem?_eq_getElem (Laws.places_length form ▸ hlen ▸ hi : i < form.places.length)
  have hread := laid_field hpl hw ho (List.getElem?_eq_getElem hi)
  have hread' := laid_field hpl' hw ho (List.getElem?_eq_getElem hi')
  rw [heq, hread', Nat.mod_eq_of_lt (hu.lt (List.getElem?_eq_getElem hi') hw),
    Nat.mod_eq_of_lt (hv.lt (List.getElem?_eq_getElem hi) hw)] at hread
  exact hread.symm

end

/-! ### Codes read back -/

/-- Codes that a table of their values reads back are different. -/
theorem code_injective {α : Type} {f : α → Nat} (table : List α) (h : ∀ a, table[f a]? = some a) : Function.Injective f :=
  fun a b hab => Option.some.inj ((h a).symm.trans (hab ▸ h b))

theorem codeOfSeq_injective : Function.Injective codeOfSeq :=
  code_injective [.idle, .armed, .recording, .closing, .held, .fault] fun q => by cases q <;> rfl

theorem codeOfError_injective : Function.Injective codeOfError :=
  code_injective [none, some .late, some .range, some .rate, some .position, some .loop, some .mode, some .tapeProtected,
    some .writeOff, some .denied, some .input, some .transport, some .write, some .unloaded] fun e => by
      rcases e with _ | e
      · rfl
      · cases e <;> rfl

theorem codeOfDetail_injective : Function.Injective codeOfDetail :=
  code_injective [.absent, .rightsNone, .rightsUnstated, .notRecord, .noLock, .speed, .address] fun d => by cases d <;> rfl

theorem codeOfVerify_injective : Function.Injective codeOfVerify :=
  code_injective [.idle, .waiting, .scanning, .pass, .fail, .stopped] fun q => by cases q <;> rfl

theorem codeOfPath_injective : Function.Injective codeOfPath :=
  code_injective [.pre, .conf] fun p => by cases p <;> rfl

theorem codeOfStop_injective : Function.Injective codeOfStop :=
  code_injective [none, some .request, some .range, some .unload] fun c => by
    rcases c with _ | c
    · rfl
    · cases c <;> rfl

theorem bitOf_injective : Function.Injective bitOf :=
  code_injective [false, true] fun b => by cases b <;> rfl

theorem bitOf_lt (b : Bool) : bitOf b < 2 ^ 1 := by cases b <;> decide

/-- A value that may be absent, by its present bit and its value. -/
theorem option_eq_of_values {α : Type} {f : α → Nat} (hf : Function.Injective f) {a b : Option α} {d : α}
    (hpresent : bitOf a.isSome = bitOf b.isSome) (hvalue : f (a.getD d) = f (b.getD d)) : a = b := by
  have hsome := bitOf_injective hpresent
  cases a with
  | none =>
    cases b with
    | none => rfl
    | some y => cases hsome
  | some x =>
    cases b with
    | none => cases hsome
    | some y => exact congrArg some (hf hvalue)

theorem afaValues_injective : Function.Injective afaValues := fun a b h => by
  obtain ⟨hpresent, hvalue⟩ := List.cons.inj h
  exact option_eq_of_values (f := id) (d := 0) Function.injective_id hpresent (List.head_eq_of_cons_eq hvalue)

theorem afaValues_fit {a : Option Afa} (h : ∀ x, a = some x → x ≤ 1048575) : ValuesFit (afaValues a) [1, 20] := by
  refine .cons (bitOf_lt _) (.cons ?_ .nil)
  cases a with
  | none => decide
  | some x => exact Nat.lt_of_le_of_lt (h x rfl) (by decide)

/-! ### The sequencer fields of STATUS (R143) -/

/-- The fields of the last close. -/
def closeValues : Option (CloseKind × Fin 32) → List Nat
  | some (.complete, k) => [0, k.val]
  | some (.aborted, k) => [1, k.val]
  | none => [0, 0]

/-- The fields of the error record. -/
def errorValues : Option ErrorRecord → List Nat
  | none => [0, 0, 0, 0, 0, 0]
  | some e => [codeOfError (some e.kind), if e.phase = .fetch then 0 else 1, e.entry.val, codeOfDetail e.detail] ++
      afaValues e.afa

theorem SeqView.values_eq (v : SeqView) : v.values =
    [codeOfSeq v.state, v.pointer.val, bitOf v.held.isSome, (v.held.getD 0).val, bitOf v.kept, bitOf v.holdPending,
      bitOf v.abortPending, v.guard, bitOf v.lastClose.isSome] ++ closeValues v.lastClose ++ [v.baked.toNat] ++
      errorValues v.error := rfl

theorem closeValues_fit (c : Option (CloseKind × Fin 32)) : ValuesFit (closeValues c) [1, 5] := by
  rcases c with _ | ⟨kind, k⟩
  · exact .cons (by decide) (.cons (by decide) .nil)
  · cases kind <;> exact .cons (by decide) (.cons k.isLt .nil)

theorem closeValues_injective {c d : Option (CloseKind × Fin 32)} (hpresent : bitOf c.isSome = bitOf d.isSome)
    (h : closeValues c = closeValues d) : c = d := by
  have hsome := bitOf_injective hpresent
  rcases c with _ | ⟨kind, k⟩ <;> rcases d with _ | ⟨kind', k'⟩
  · rfl
  · cases hsome
  · cases hsome
  · cases kind <;> cases kind' <;> simp_all [closeValues, Fin.ext_iff]

theorem codeOfDetail_lt (d : ErrorDetail) : codeOfDetail d < 2 ^ 3 := by cases d <;> decide

theorem errorValues_fit {e : Option ErrorRecord} (h : ∀ x a, e = some x → x.afa = some a → a ≤ 1048575) :
    ValuesFit (errorValues e) [4, 1, 5, 3, 1, 20] := by
  cases e with
  | none =>
    exact .cons (by decide) <| .cons (by decide) <| .cons (by decide) <| .cons (by decide) <| afaValues_fit (a := none) nofun
  | some x =>
    have hphase : (if x.phase = .fetch then 0 else 1) < 2 ^ 1 := by split <;> decide
    exact .cons (codeOfError_lt _) <| .cons hphase <| .cons x.entry.isLt <| .cons (codeOfDetail_lt _) <|
      afaValues_fit fun a => h x a rfl

theorem phaseValue_injective {p q : Phase}
    (h : (if p = .fetch then 0 else 1) = (if q = .fetch then 0 else 1)) : p = q := by
  cases p <;> cases q <;> first | rfl | cases h

theorem errorValues_injective : Function.Injective errorValues := fun e f h => by
  have hkind : codeOfError (e.map (·.kind)) = codeOfError (f.map (·.kind)) := by
    have hhead := congrArg List.head? h
    cases e <;> cases f <;> exact Option.some.inj hhead
  have hkinds := codeOfError_injective hkind
  cases e with
  | none =>
    cases f with
    | none => rfl
    | some y => cases hkinds
  | some x =>
    cases f with
    | none => cases hkinds
    | some y =>
      obtain ⟨kind, phase, entry, detail, afa⟩ := x
      obtain ⟨kind', phase', entry', detail', afa'⟩ := y
      obtain rfl : kind = kind' := Option.some.inj hkinds
      obtain ⟨-, h⟩ := List.cons.inj h
      obtain ⟨hphase, h⟩ := List.cons.inj h
      obtain ⟨hentry, h⟩ := List.cons.inj h
      obtain ⟨hdetail, hafa⟩ := List.cons.inj h
      obtain rfl := phaseValue_injective hphase
      obtain rfl := Fin.ext hentry
      obtain rfl := codeOfDetail_injective hdetail
      obtain rfl := afaValues_injective hafa
      rfl

theorem SeqView.values_fit {v : SeqView} (hguard : v.guard < 64)
    (hafa : ∀ e a, v.error = some e → e.afa = some a → a ≤ 1048575) :
    ValuesFit v.values PayloadForm.sequencer.widths := by
  have hfront : ValuesFit [codeOfSeq v.state, v.pointer.val, bitOf v.held.isSome, (v.held.getD 0).val, bitOf v.kept,
      bitOf v.holdPending, bitOf v.abortPending, v.guard, bitOf v.lastClose.isSome] [3, 5, 1, 5, 1, 1, 1, 6, 1] :=
    .cons (codeOfSeq_lt _) <| .cons v.pointer.isLt <| .cons (bitOf_lt _) <| .cons (v.held.getD 0).isLt <|
      .cons (bitOf_lt _) <| .cons (bitOf_lt _) <| .cons (bitOf_lt _) <| .cons hguard <| .cons (bitOf_lt _) .nil
  have hbaked : ValuesFit [v.baked.toNat] [32] := .cons v.baked.isLt .nil
  rw [values_eq]
  exact ((hfront.append (closeValues_fit _)).append hbaked).append (errorValues_fit hafa)

theorem closeValues_length (c : Option (CloseKind × Fin 32)) : (closeValues c).length = 2 :=
  List.Forall₂.length_eq (closeValues_fit c)

theorem SeqView.values_injective : Function.Injective SeqView.values := fun v w h => by
  rw [values_eq, values_eq, List.append_assoc, List.append_assoc, List.append_assoc, List.append_assoc] at h
  obtain ⟨hfront, h⟩ := List.append_inj h rfl
  obtain ⟨hclose, h⟩ := List.append_inj h ((closeValues_length _).trans (closeValues_length _).symm)
  obtain ⟨hbaked, herror⟩ := List.append_inj h rfl
  simp only [List.cons.injEq, and_true] at hfront hbaked
  obtain ⟨hstate, hpointer, hheld, hentry, hkept, hhold, habort, hguard, hpresent⟩ := hfront
  obtain ⟨state, pointer, held, kept, hold, abort, guard, close, baked, error⟩ := v
  obtain ⟨state', pointer', held', kept', hold', abort', guard', close', baked', error'⟩ := w
  obtain rfl := codeOfSeq_injective hstate
  obtain rfl := Fin.ext hpointer
  obtain rfl := option_eq_of_values Fin.val_injective hheld hentry
  obtain rfl := bitOf_injective hkept
  obtain rfl := bitOf_injective hhold
  obtain rfl := bitOf_injective habort
  obtain rfl : guard = guard' := hguard
  obtain rfl := closeValues_injective hpresent hclose
  obtain rfl := BitVec.eq_of_toNat_eq hbaked
  obtain rfl := errorValues_injective herror
  rfl

/-! ### Page 0 of VERIFY READ (R174) -/

theorem codeOfVerify_lt (q : VerifyState) : codeOfVerify q < 2 ^ 3 := by cases q <;> decide

theorem codeOfPath_lt (p : ReadPath) : codeOfPath p < 2 ^ 1 := by cases p <;> decide

theorem codeOfStop_lt (c : Option StopCause) : codeOfStop c < 2 ^ 2 := by
  rcases c with _ | c
  · decide
  · cases c <;> decide

theorem VerifyView.values_fit {v : VerifyView} (hstop : v.stop ≤ 1048575) (hstart : ∀ a, v.start = some a → a ≤ 1048575)
    (hthreshold : v.threshold ≤ 112) (hchecked : v.checked ≤ 65535) (hpasses : v.passes ≤ 255) :
    ValuesFit v.values PayloadForm.verifyPage0.widths := by
  have hfront : ValuesFit [codeOfVerify v.state, codeOfPath v.source] [3, 1] :=
    .cons (codeOfVerify_lt _) (.cons (codeOfPath_lt _) .nil)
  have hrest : ValuesFit [v.stop, v.threshold, bitOf v.loop, v.checked, v.passes, codeOfStop v.stopCause]
      [20, 7, 1, 16, 8, 2] :=
    .cons (Nat.lt_of_le_of_lt hstop (by decide)) <| .cons (Nat.lt_of_le_of_lt hthreshold (by decide)) <|
      .cons (bitOf_lt _) <| .cons (Nat.lt_of_le_of_lt hchecked (by decide)) <|
      .cons (Nat.lt_of_le_of_lt hpasses (by decide)) <| .cons (codeOfStop_lt _) .nil
  exact (hfront.append (afaValues_fit hstart)).append hrest

theorem VerifyView.values_injective : Function.Injective VerifyView.values := fun v w h => by
  obtain ⟨hfront, hrest⟩ := List.append_inj (s₁ := [codeOfVerify v.state, codeOfPath v.source] ++ afaValues v.start)
    (s₂ := [codeOfVerify w.state, codeOfPath w.source] ++ afaValues w.start) h rfl
  obtain ⟨hcodes, hstart⟩ := List.append_inj hfront rfl
  simp only [List.cons.injEq, and_true] at hcodes hrest
  obtain ⟨hstate, hsource⟩ := hcodes
  obtain ⟨hstop, hthreshold, hloop, hchecked, hpasses, hcause⟩ := hrest
  obtain ⟨state, source, start, stop, threshold, loop, checked, passes, cause⟩ := v
  obtain ⟨state', source', start', stop', threshold', loop', checked', passes', cause'⟩ := w
  obtain rfl := codeOfVerify_injective hstate
  obtain rfl := codeOfPath_injective hsource
  obtain rfl := afaValues_injective hstart
  obtain rfl : stop = stop' := hstop
  obtain rfl : threshold = threshold' := hthreshold
  obtain rfl := bitOf_injective hloop
  obtain rfl : checked = checked' := hchecked
  obtain rfl : passes = passes' := hpasses
  obtain rfl := codeOfStop_injective hcause
  rfl

/-- Settles O6: the exchange by `exchangeStart_of_free`, the summary by its sources, the frame by its fields (`frame_flags`,
`frame_seq`, `frame_faultCode`, `frame_tail`), the payloads by their fields (`laid_field`, `laid_unused`, `laid_values_eq`). -/
theorem exchangeShiftsPreviousResponse : Obligations.ExchangeShiftsPreviousResponse := by
  intro p s
  refine ⟨fun hfree => ?_, fun hwaits => congrArg Host.Outcome.next (exchangeStart_of_waits hwaits), ?_, fun k f hf => ?_,
    fun k hf => ?_, fun m r => ?_, ?_, fun v => ?_, fun r a e => payloadBits_eventSets r a e, fun form => ?_,
    fun v w hguard hguard' hafa hafa' heq => ?_,
    fun v w hstop hstop' hstart hstart' hthr hthr' hchecked hchecked' hpasses hpasses' heq => ?_⟩
  · refine ⟨_, congrArg Host.Outcome.next (exchangeStart_of_free hfree), ?_, rfl, ?_, fun q hq => ?_⟩
    · simp only [shiftedOut, Ports.get_set]
    · simp only [Ports.get_set]
    · exact Ports.get_set_of_ne _ _ _ _ hq
  · exact ⟨rfl, rfl, attentionLine_iff _, beq_iff_eq, beq_iff_eq, rfl, rfl, rfl, faultFlag_iff _, warnFlag_iff _,
      fun k => faultCode_of_action, fun k hnone => faultCode_of_seen hnone, faultCode_of_none⟩
  · rw [shiftedBit, hf]
    rfl
  · rw [shiftedBit, hf]
    rfl
  · obtain ⟨hreset, hframe, hattn, hedit, htransport, hgate, hfault, hwarn⟩ := frame_flags m r
    obtain ⟨hcode, hzero⟩ := frame_faultCode m r
    obtain ⟨herror, hresult, hecho, hpayload⟩ := frame_tail m r
    refine ⟨hreset, hframe, hattn, hedit, htransport, ?_, ?_, hfault, hwarn, hcode, hzero, ?_, ?_, hecho, hpayload⟩
    · rw [frame_seq, toNat_ofNat_of_lt (codeOfSeq_lt _)]
    · rw [hgate, beq_iff_eq]
    · rw [herror, toNat_ofNat_of_lt (codeOfError_lt _)]
    · rw [hresult, toNat_ofNat_of_lt (codeOfResult_lt _)]
  · exact ⟨rfl, fun _ => rfl, payloadBits_seqState, payloadBits_writeEnable, payloadBits_entryNumber, rfl, rfl,
      payloadBits_counters, payloadBits_thresholds⟩
  · obtain ⟨hlock, hprot, hdir, hstalled, hrange, hwindow⟩ := payloadBits_transport_flags v
    obtain ⟨hmode, hratio, hzero⟩ := payloadBits_transport_fields v
    exact ⟨hmode, hlock, hprot, hdir, hratio, hstalled, hrange, hwindow, hzero⟩
  · refine ⟨form.places, Laws.places_length form, fun i w o hw ho => ?_, fun pl vs hlaid _ =>
      ⟨fun i w o v hw ho hv => laid_field hlaid hw ho hv, fun bit hbit hunused => laid_unused hlaid hbit hunused⟩⟩
    obtain ⟨hwide, hnarrow⟩ := PayloadForm.fields_low_end hw ho
    exact ⟨Laws.places_bound form _ (PayloadForm.fields_mem hw ho),
      fun j w' o' hj hw' ho' => PayloadForm.fields_apart hj hw ho hw' ho', hwide, hnarrow,
      fun hform hlarge j w' o' hw' ho' => PayloadForm.fields_above hform hlarge hw ho hw' ho',
      fun byte hbyte => PayloadForm.fields_before hw ho hbyte⟩
  · exact SeqView.values_injective (laid_values_eq rfl rfl (SeqView.values_fit hguard hafa)
      (SeqView.values_fit hguard' hafa') heq)
  · exact VerifyView.values_injective (laid_values_eq rfl rfl (VerifyView.values_fit hstop hstart hthr hchecked hpasses)
      (VerifyView.values_fit hstop' hstart' hthr' hchecked' hpasses') heq)

end Sys2Proof.Machine
